-- ==== Sys2Proof/Word.lean ====
section
/-! DEFINITION. The byte, the timer and the containers indexed by port and by stage. -/

namespace Sys2Proof

/-- One byte of a frame. -/
abbrev Byte := BitVec 8

/-- A timer: stopped (`none`), or running with the milliseconds it has counted. -/
abbrev Timer := Option Nat

/-- The three ports (file 00, 0.2), in the order of R181's codes. -/
inductive Port where
  | panel | link | service
deriving DecidableEq, Repr

/-- The three filter stages, in airflow order (file 00, 0.5). -/
inductive Stage where
  | pre | carb | fine
deriving DecidableEq, Repr

/-- One value for each port. -/
structure PerPort (α : Type) where
  panel : α
  link : α
  service : α
deriving DecidableEq, Repr

/-- One value for each stage. -/
structure PerStage (α : Type) where
  pre : α
  carb : α
  fine : α
deriving DecidableEq, Repr

def PerPort.get {α : Type} (x : PerPort α) : Port → α
  | .panel => x.panel
  | .link => x.link
  | .service => x.service

def PerPort.set {α : Type} (x : PerPort α) (p : Port) (v : α) : PerPort α :=
  match p with
  | .panel => { x with panel := v }
  | .link => { x with link := v }
  | .service => { x with service := v }

def PerPort.map {α β : Type} (f : Port → α → β) (x : PerPort α) : PerPort β :=
  { panel := f .panel x.panel, link := f .link x.link, service := f .service x.service }

def PerStage.get {α : Type} (x : PerStage α) : Stage → α
  | .pre => x.pre
  | .carb => x.carb
  | .fine => x.fine

def PerStage.set {α : Type} (x : PerStage α) (st : Stage) (v : α) : PerStage α :=
  match st with
  | .pre => { x with pre := v }
  | .carb => { x with carb := v }
  | .fine => { x with fine := v }

def PerStage.map {α β : Type} (f : Stage → α → β) (x : PerStage α) : PerStage β :=
  { pre := f .pre x.pre, carb := f .carb x.carb, fine := f .fine x.fine }

/-- Table 9-8's code of a stage (RESET-FILTER): 0 PRE, 1 CARB, 2 FINE. -/
def Stage.code : Stage → Nat
  | .pre => 0
  | .carb => 1
  | .fine => 2

/-- Table 9-8's code of a port (CLEAR-ALL-DEMANDS): 0 PANEL, 1 LINK, 2 SERVICE. -/
def Port.code : Port → Nat
  | .panel => 0
  | .link => 1
  | .service => 2

end Sys2Proof
end

