-- ==== Sys2Proof/Config.lean ====
section
/-! DEFINITION. Fixed times and limits of the part, and the one value the spec leaves open. -/

namespace Sys2Proof.Config

/-- The level, in mL before it is reduced to the probe's range, that stands for the lowest level and the
block mark at the first known sample of a TRANSFER whose lowest level is UNKNOWN: a free value (R143 and R146
state none; log 11). -/
opaque unknownLevel : Nat → Nat

/-- Times in milliseconds. -/
def warmupMs : Nat := 30000          -- R3
def readingWaitMs : Nat := 10000     -- R3, R5
def busSecondMs : Nat := 1000        -- R4
def busTransactionMs : Nat := 25     -- R4
def steadyMs : Nat := 20             -- R10
def tachWindowMs : Nat := 2000       -- R12
def darSecondMs : Nat := 1000        -- R30
def regulationMs : Nat := 2000       -- R49
def autoFallMs : Nat := 60000        -- R52
def stallOffMs : Nat := 30000        -- R57
def stallWindowMs : Nat := 600000    -- R58
def accountingMs : Nat := 15000      -- R68
def slotSettleMs : Nat := 2000       -- R88
def pollCycleMs : Nat := 2000        -- R89
def tagReadMs : Nat := 80            -- R89
def offTimerMs : Nat := 180000       -- R108
def pulldownMs : Nat := 240000       -- R111
def minimumRunMs : Nat := 120000     -- R113
def postRunMs : Nat := 60000         -- R115
def frostMs : Nat := 60000           -- R116
def defrostEndMs : Nat := 30000      -- R118
def defrostMs : Nat := 900000        -- R118
def tankSettleMs : Nat := 2000       -- R128
def releaseMs : Nat := 5000          -- R133
def pumpSampleMs : Nat := 1000       -- R137
def flowMs : Nat := 2000             -- R142
def primeMs : Nat := 20000           -- R142
def primeFloatsMs : Nat := 10000     -- R147
def transferMs : Nat := 300000       -- R144
def blockedMs : Nat := 15000         -- R143
def highReleaseMs : Nat := 40000     -- R148
def verifyMs : Nat := 10000          -- R145
def minuteMs : Nat := 60000          -- R155
def handoverMs : Nat := 100          -- R172
def linkGapMs : Nat := 21            -- R165: the first millisecond beyond 20 ms
def regionReadMs : Nat := 50         -- R191

/-- The capacities of the averaging windows (R2, R5, R6, R8), of the recent list (R94) and of the ring (R154). -/
def particleCapacity : Nat := 30
def gasCapacity : Nat := 60
def roomCapacity : Nat := 8
def probeCapacity : Nat := 5
def recentCapacity : Nat := 4
def ringCapacity : Nat := 256

/-- The bytes of records that fit in one READ-LOG response (R181). -/
def logRoom : Nat := 42

end Sys2Proof.Config
end

