-- ==== Sys2Proof/Syntax.lean ====
section
/-! DEFINITION. The commands the part takes: one constructor for each row of spec/opcode_table.json. -/

namespace Sys2Proof

/-- The four store regions, in the order they are written (R183). -/
inductive Region where
  | config | filters | recent | lockout
deriving DecidableEq, Repr

/-- A set of store regions. -/
structure RegionSet where
  config : Bool
  filters : Bool
  recent : Bool
  lockout : Bool
deriving DecidableEq, Repr

def RegionSet.empty : RegionSet := ⟨false, false, false, false⟩

def RegionSet.has (x : RegionSet) : Region → Bool
  | .config => x.config
  | .filters => x.filters
  | .recent => x.recent
  | .lockout => x.lockout

def RegionSet.single : Region → RegionSet
  | .config => ⟨true, false, false, false⟩
  | .filters => ⟨false, true, false, false⟩
  | .recent => ⟨false, false, true, false⟩
  | .lockout => ⟨false, false, false, true⟩

def RegionSet.union (x y : RegionSet) : RegionSet :=
  ⟨x.config || y.config, x.filters || y.filters, x.recent || y.recent, x.lockout || y.lockout⟩

def RegionSet.isEmpty (x : RegionSet) : Bool := !(x.config || x.filters || x.recent || x.lockout)

/-- The terminals sampled as switch inputs (R10). -/
inductive Switch where
  | tanksw
  | slot (st : Stage)
  | mf0 | mf1 | mf2
deriving DecidableEq, Repr

/-- What a cartridge tag answered with its own check passed, before the CRD judges and clamps it (R89).
An unknown stage type is `none`. -/
structure RawTag where
  serial : BitVec 32
  stageType : Option Stage
  capacity : BitVec 16
  efficiency : BitVec 16
  restriction : BitVec 16
  washable : Bool
deriving DecidableEq, Repr

/-- What a cut-off write leaves in the region being written: "usually fails its check" (R183, log 10). -/
inductive Torn where
  | fails | keepsOld | holdsNew
deriving DecidableEq, Repr

/-- How far a store write had come when it was cut off: how many of its regions, in region order, were done
with, which of those had failed to verify twice, and what the region being written is left with (R183, R189;
log 10). -/
structure CutOff where
  finished : Nat
  failed : RegionSet
  torn : Torn
deriving DecidableEq, Repr

/-- One successful room read: humidity and temperature in tenths (R6). -/
structure RoomRead where
  rh : Int
  temp : Int
deriving DecidableEq, Repr

/-- Bytes that a port received of a command frame in progress, LINK's sync byte among them (R165 to R167). -/
structure Reception where
  port : Port
  bytes : List Byte
deriving DecidableEq, Repr

/-- Region order (R183). -/
def Region.index : Region → Nat
  | .config => 0
  | .filters => 1
  | .recent => 2
  | .lockout => 3

/-- The region read after this one (R191). -/
def Region.next : Region → Option Region
  | .config => some .filters
  | .filters => some .recent
  | .recent => some .lockout
  | .lockout => none

/-- The commands. A row for a command frame carries the port it ended on, its Tag and its payload bytes;
a row for an expiry carries the slot or switch it concerns; a sensor row carries what the sensor gave. -/
inductive Instr where
  -- supply, resets and store
  | powerOn
  | powerLoss (cut : CutOff)
  | resetnAssert (cut : CutOff)
  | resetnRelease
  | regionReadTimeout (r : Region)
  | storeReadEnd (failed : RegionSet)      -- regions that did not read back with a matching check word
  | storeWriteEnd (failed : RegionSet)     -- regions whose write and retry both failed to verify
  | warmReset
  | restartHandoverTimeout
  -- sensing
  | particleFrame (reading : Option Nat)   -- none: check mismatch, or broken off
  | particleWarmupEnd
  | particleTimeout
  | privateBusSecond
  | busTransactionTimeout
  | gasReadEnd (index : Option Nat)        -- none: failed
  | gasTimeout
  | roomReadEnd (reading : Option RoomRead)
  | coilConversion (tenths : Int)
  | probeConversion (mL : Int)
  | switchInputEdge (sw : Switch) (level : Bool)   -- true: closed, active or asserted
  | switchChangeAccepted (sw : Switch)
  | fantachPulse
  | fanSpeedWindowEnd
  | readSensors (p : Port) (tag : Byte) (payload : List Byte)
  -- demands
  | darSecondTimer
  | putDemand (p : Port) (tag : Byte) (payload : List Byte)
  | clearDemand (p : Port) (tag : Byte) (payload : List Byte)
  | clearAllDemands (p : Port) (tag : Byte) (payload : List Byte)
  | readPlan (p : Port) (tag : Byte) (payload : List Byte)
  | readDemands (p : Port) (tag : Byte) (payload : List Byte)
  -- airflow
  | regulationBoundary
  | stallOffTimer
  | loadCurve (p : Port) (tag : Byte) (payload : List Byte)
  | selectCurve (p : Port) (tag : Byte) (payload : List Byte)
  | readAirflow (p : Port) (tag : Byte) (payload : List Byte)
  -- filters and cartridges
  | accountingTick
  | readFilters (p : Port) (tag : Byte) (payload : List Byte)
  | slotSettleEnd (st : Stage)
  | tagReadTime (st : Stage)
  | tagReadAbandon (st : Stage)
  | tagReadEnd (st : Stage) (answer : Option RawTag)   -- none: no answer, or a check mismatch
  | resetFilter (p : Port) (tag : Byte) (payload : List Byte)
  | setStage (p : Port) (tag : Byte) (payload : List Byte)
  | forgetCartridge (p : Port) (tag : Byte) (payload : List Byte)
  | readCartridges (p : Port) (tag : Byte) (payload : List Byte)
  -- drying
  | offTimerPassed
  | pulldownCheckExpiry
  | minimumRunEnd
  | postRunEnd
  | frostDetected
  | defrostSuccess
  | defrostTimeout
  | forceDefrost (p : Port) (tag : Byte) (payload : List Byte)
  | clearLockout (p : Port) (tag : Byte) (payload : List Byte)
  | readDrying (p : Port) (tag : Byte) (payload : List Byte)
  -- tank and pump-out
  | tankSettleEnd
  | fullReleaseTimer
  | pumpSample
  | flowTimerPass
  | primeTimeout
  | primeFloatsTimePass
  | transferTimeout
  | highReleaseEnd
  | verifyEnd
  | pumpOutNew (p : Port) (tag : Byte) (payload : List Byte)
  | pumpOutResume (p : Port) (tag : Byte) (payload : List Byte)
  | pumpAbort (p : Port) (tag : Byte) (payload : List Byte)
  | readTank (p : Port) (tag : Byte) (payload : List Byte)
  -- trend log
  | minuteTimer
  | readLog (p : Port) (tag : Byte) (payload : List Byte)
  | setCursor (p : Port) (tag : Byte) (payload : List Byte)
  | setLogJoin (p : Port) (tag : Byte) (payload : List Byte)
  -- ports and settings
  | readEvents (p : Port) (tag : Byte) (payload : List Byte)
  | setEventMask (p : Port) (tag : Byte) (payload : List Byte)
  | writeConfig (p : Port) (tag : Byte) (payload : List Byte)
  | readConfig (p : Port) (tag : Byte) (payload : List Byte)
  | restart (p : Port) (tag : Byte) (payload : List Byte)
  | unknownCommand (p : Port) (code : Byte) (tag : Byte) (payload : List Byte)
  | badFrame (p : Port) (tag : Byte)
  | frameDiscard (p : Port)
  | linkGapTimeout
  | linkTransmitEnd
  | commandReceptionStart (received : Reception)
  | panelFetchWindow (clocked : Nat) (early : Bool)    -- early: CSn fell before the last response was formed
  | serviceReadTransaction (read : Nat) (early : Bool)
deriving DecidableEq, Repr

end Sys2Proof
end

