-- ==== Sys2Proof/Decode.lean ====
section
/-! DEFINITION. The bytes of a command frame: the check, the command codes, the row a received frame
spells (R165 to R169), and the bytes a row's frame has. The opcode table gives no row any bits, so
`decodeTableWord` answers none. -/

namespace Sys2Proof

/-- `n` as `k` bytes, least significant first (9.8). -/
def le : Nat → Nat → List Byte
  | 0, _ => []
  | k + 1, n => BitVec.ofNat 8 n :: le k (n / 256)

/-- The number that bytes spell, least significant first (9.8). -/
def ofLe : List Byte → Nat
  | [] => 0
  | b :: bs => b.toNat + 256 * ofLe bs

/-- One bit of the CRC-8 with polynomial x⁸+x²+x+1 (R168). -/
def crcShift (c : Byte) : Byte :=
  if c.msb then (c <<< 1) ^^^ 0x07#8 else c <<< 1

def crcByte (c b : Byte) : Byte :=
  crcShift (crcShift (crcShift (crcShift (crcShift (crcShift (crcShift (crcShift (c ^^^ b))))))))

/-- The Check of a frame body: initial value 0, most significant bit first, no final inversion (R168). -/
def crc8 (bs : List Byte) : Byte := bs.foldl crcByte 0

/-- The commands of Table 9-8. -/
inductive Command where
  | readSensors | readPlan | readDemands | readAirflow | readFilters | readCartridges | readDrying
  | readTank | readConfig | readEvents
  | putDemand | clearDemand | clearAllDemands
  | loadCurve | selectCurve
  | resetFilter | setStage | forgetCartridge
  | clearLockout | forceDefrost
  | pumpOut | pumpAbort
  | readLog | setCursor | setLogJoin
  | setEventMask
  | writeConfig | restart
deriving DecidableEq, Repr

/-- Table 9-8, the codes. -/
def Command.code : Command → Byte
  | .readSensors => 0x01 | .readPlan => 0x02 | .readDemands => 0x03 | .readAirflow => 0x04
  | .readFilters => 0x05 | .readCartridges => 0x06 | .readDrying => 0x07 | .readTank => 0x08
  | .readConfig => 0x09 | .readEvents => 0x0A
  | .putDemand => 0x10 | .clearDemand => 0x11 | .clearAllDemands => 0x12
  | .loadCurve => 0x18 | .selectCurve => 0x19
  | .resetFilter => 0x20 | .setStage => 0x21 | .forgetCartridge => 0x22
  | .clearLockout => 0x28 | .forceDefrost => 0x29
  | .pumpOut => 0x30 | .pumpAbort => 0x31
  | .readLog => 0x38 | .setCursor => 0x39 | .setLogJoin => 0x3A
  | .setEventMask => 0x40
  | .writeConfig => 0x48 | .restart => 0x49

def Command.all : List Command :=
  [.readSensors, .readPlan, .readDemands, .readAirflow, .readFilters, .readCartridges, .readDrying,
   .readTank, .readConfig, .readEvents, .putDemand, .clearDemand, .clearAllDemands, .loadCurve,
   .selectCurve, .resetFilter, .setStage, .forgetCartridge, .clearLockout, .forceDefrost, .pumpOut,
   .pumpAbort, .readLog, .setCursor, .setLogJoin, .setEventMask, .writeConfig, .restart]

/-- The command a Command byte names, if any (R169 case 5). 0x00 names none. -/
def Command.ofCode (b : Byte) : Option Command := Command.all.find? (fun c => c.code == b)

/-- What a complete frame is: a command, an unknown Command byte, or a frame answered BAD-FRAME by
cases 1 and 3 of R169. -/
inductive FrameKind where
  | known (c : Command)
  | unknown (code : Byte)
  | bad
deriving DecidableEq, Repr

/-- A complete command frame. -/
structure Frame where
  kind : FrameKind
  tag : Byte
  payload : List Byte
deriving DecidableEq, Repr

/-- The row of the table a complete frame of `p` belongs to. A PUMP-OUT frame is row PUMP_OUT_RESUME when
its variant byte is 1, and row PUMP_OUT_NEW otherwise (log 23). -/
def Frame.row (p : Port) (f : Frame) : Instr :=
  match f.kind with
  | .bad => .badFrame p f.tag
  | .unknown code => .unknownCommand p code f.tag f.payload
  | .known c => match c with
    | .readSensors => .readSensors p f.tag f.payload
    | .readPlan => .readPlan p f.tag f.payload
    | .readDemands => .readDemands p f.tag f.payload
    | .readAirflow => .readAirflow p f.tag f.payload
    | .readFilters => .readFilters p f.tag f.payload
    | .readCartridges => .readCartridges p f.tag f.payload
    | .readDrying => .readDrying p f.tag f.payload
    | .readTank => .readTank p f.tag f.payload
    | .readConfig => .readConfig p f.tag f.payload
    | .readEvents => .readEvents p f.tag f.payload
    | .putDemand => .putDemand p f.tag f.payload
    | .clearDemand => .clearDemand p f.tag f.payload
    | .clearAllDemands => .clearAllDemands p f.tag f.payload
    | .loadCurve => .loadCurve p f.tag f.payload
    | .selectCurve => .selectCurve p f.tag f.payload
    | .resetFilter => .resetFilter p f.tag f.payload
    | .setStage => .setStage p f.tag f.payload
    | .forgetCartridge => .forgetCartridge p f.tag f.payload
    | .clearLockout => .clearLockout p f.tag f.payload
    | .forceDefrost => .forceDefrost p f.tag f.payload
    | .pumpOut => if f.payload.head? = some 1 then .pumpOutResume p f.tag f.payload
                  else .pumpOutNew p f.tag f.payload
    | .pumpAbort => .pumpAbort p f.tag f.payload
    | .readLog => .readLog p f.tag f.payload
    | .setCursor => .setCursor p f.tag f.payload
    | .setLogJoin => .setLogJoin p f.tag f.payload
    | .setEventMask => .setEventMask p f.tag f.payload
    | .writeConfig => .writeConfig p f.tag f.payload
    | .restart => .restart p f.tag f.payload

/-- The longest payload (Table 9-5). -/
def maxLength : Nat := 48

/-- The complete frame of a Command, Tag and Length and the bytes after them, the Check among these: cases 3
and 5 of R169. -/
def frameOf (cmd tag len : Byte) (rest : List Byte) : Frame :=
  let payload := rest.take len.toNat
  if rest.getD len.toNat 0 = crc8 (cmd :: tag :: len :: payload) then
    match Command.ofCode cmd with
    | some c => ⟨.known c, tag, payload⟩
    | none => ⟨.unknown cmd, tag, payload⟩
  else ⟨.bad, tag, []⟩

/-- The row that the bytes of one ended frame body spell (the bytes after LINK's sync byte, of one PANEL
window, or of one SERVICE write transaction): cases 1 to 3 and 5 of R169, R165 to R167, R179. A PANEL window
whose first byte is 0x00 is a fetch window (R166). -/
def decodeFrame (p : Port) (bytes : List Byte) : Instr :=
  if p = .panel ∧ bytes.head? = some 0 then .panelFetchWindow bytes.length false
  else match bytes with
  | cmd :: tag :: len :: rest =>
    if maxLength < len.toNat then
      match p with
      | .link => .frameDiscard .link
      | _ => .badFrame p tag
    else if rest.length < len.toNat + 1 then .frameDiscard p
    else Frame.row p (frameOf cmd tag len rest)
  | _ => .frameDiscard p

/-! ### The LINK receiver (R165) -/

/-- The framing states of the LINK receiver. -/
inductive Framing where
  | hunt | header | payload | check
deriving DecidableEq, Repr

/-- The framing state that the bytes collected after the sync byte give; none collected in HUNT. -/
def framingOf : Option (List Byte) → Framing
  | none => .hunt
  | some bytes =>
    if bytes.length < 3 then .header
    else if bytes.length < 3 + (bytes.getD 2 0).toNat then .payload
    else .check

/-- What one received byte does to the LINK receiver. -/
inductive LinkStep where
  | ignored
  | collecting (bytes : List Byte)
  | discarded
  | complete (f : Frame)
deriving DecidableEq, Repr

/-- One byte received on LINK. Bytes after the sync byte are taken by their position. -/
def linkByte (rx : Option (List Byte)) (b : Byte) : LinkStep :=
  match rx, framingOf rx with
  | none, _ => if b = 0xA5 then .collecting [] else .ignored
  | some bytes, .header =>
    if bytes.length = 2 ∧ maxLength < b.toNat then .discarded else .collecting (bytes ++ [b])
  | some (cmd :: tag :: len :: rest), .check => .complete (frameOf cmd tag len (rest ++ [b]))
  | some bytes, _ => .collecting (bytes ++ [b])

/-- The bytes of a command body (Table 9-5). -/
def commandBody (code tag : Byte) (payload : List Byte) : List Byte :=
  let head := code :: tag :: BitVec.ofNat 8 payload.length :: payload
  head ++ [crc8 head]

/-- The frame of a row that is a command frame with a Command byte. -/
def Instr.frame? : Instr → Option (Port × Byte × Byte × List Byte)
  | .readSensors p t pl => some (p, Command.readSensors.code, t, pl)
  | .readPlan p t pl => some (p, Command.readPlan.code, t, pl)
  | .readDemands p t pl => some (p, Command.readDemands.code, t, pl)
  | .readAirflow p t pl => some (p, Command.readAirflow.code, t, pl)
  | .readFilters p t pl => some (p, Command.readFilters.code, t, pl)
  | .readCartridges p t pl => some (p, Command.readCartridges.code, t, pl)
  | .readDrying p t pl => some (p, Command.readDrying.code, t, pl)
  | .readTank p t pl => some (p, Command.readTank.code, t, pl)
  | .readConfig p t pl => some (p, Command.readConfig.code, t, pl)
  | .readEvents p t pl => some (p, Command.readEvents.code, t, pl)
  | .putDemand p t pl => some (p, Command.putDemand.code, t, pl)
  | .clearDemand p t pl => some (p, Command.clearDemand.code, t, pl)
  | .clearAllDemands p t pl => some (p, Command.clearAllDemands.code, t, pl)
  | .loadCurve p t pl => some (p, Command.loadCurve.code, t, pl)
  | .selectCurve p t pl => some (p, Command.selectCurve.code, t, pl)
  | .resetFilter p t pl => some (p, Command.resetFilter.code, t, pl)
  | .setStage p t pl => some (p, Command.setStage.code, t, pl)
  | .forgetCartridge p t pl => some (p, Command.forgetCartridge.code, t, pl)
  | .clearLockout p t pl => some (p, Command.clearLockout.code, t, pl)
  | .forceDefrost p t pl => some (p, Command.forceDefrost.code, t, pl)
  | .pumpOutNew p t pl => some (p, Command.pumpOut.code, t, pl)
  | .pumpOutResume p t pl => some (p, Command.pumpOut.code, t, pl)
  | .pumpAbort p t pl => some (p, Command.pumpAbort.code, t, pl)
  | .readLog p t pl => some (p, Command.readLog.code, t, pl)
  | .setCursor p t pl => some (p, Command.setCursor.code, t, pl)
  | .setLogJoin p t pl => some (p, Command.setLogJoin.code, t, pl)
  | .setEventMask p t pl => some (p, Command.setEventMask.code, t, pl)
  | .writeConfig p t pl => some (p, Command.writeConfig.code, t, pl)
  | .restart p t pl => some (p, Command.restart.code, t, pl)
  | .unknownCommand p code t pl => some (p, code, t, pl)
  | _ => none

/-- The row a table word spells. No row of spec/opcode_table.json has bits. -/
def decodeTableWord (_nbits _w : Nat) : Option Instr := none

end Sys2Proof
end

