-- ==== Sys2Proof/Machine/State.lean ====
section
/-! DEFINITION. The state of the part, block by block, and its reset. -/

namespace Sys2Proof.Machine

/-! ### Configuration (file 10, Table 10-2) -/

/-- A port's rank (R19). -/
inductive Rank where
  | off | r1 | r2 | r3
deriving DecidableEq, Repr

/-- The functions of a multi-function terminal (1.11), in R184's code order. -/
inductive MfFunction where
  | none | probe | floatHigh | floatFull | pumpFlow | powerFailWarn
deriving DecidableEq, Repr

inductive LevelMethod where
  | probe | floats
deriving DecidableEq, Repr

inductive DrainMode where
  | bucket | pump
deriving DecidableEq, Repr

inductive StartFailPolicy where
  | retry | lockout
deriving DecidableEq, Repr

structure Terminals where
  mf0 : MfFunction
  mf1 : MfFunction
  mf2 : MfFunction
  method : LevelMethod
deriving DecidableEq, Repr

/-- Drain mode and marks in mL (Table 7-2). -/
structure TankConfig where
  drain : DrainMode
  empty : Nat
  pumpStart : Nat
  resume : Nat
  full : Nat
deriving DecidableEq, Repr

structure AirflowConfig where
  dryMin : Nat
  defrostStep : Nat
  minCoil : Nat
deriving DecidableEq, Repr

structure DryingConfig where
  policy : StartFailPolicy
  required : PerStage Bool
deriving DecidableEq, Repr

structure FiltersConfig where
  worn : Nat
  washLimit : Nat
  fallbackPm : Nat
deriving DecidableEq, Repr

/-- The untagged defaults of one stage (Table 4-5). -/
structure UntaggedDefault where
  c : Nat
  e : Nat
  k : Nat
  washable : Bool
deriving DecidableEq, Repr

/-- One entry of a curve bank: duty in ‰ and Qnom in m³/h (R45). -/
structure CurvePoint where
  duty : Nat
  qnom : Nat
deriving DecidableEq, Repr

/-- A curve bank: eleven entries, one for each step 0..10 (R45). -/
abbrev Bank := List CurvePoint

/-- The CONFIG in force, group by group. -/
structure Settings where
  ports : PerPort Rank
  terminals : Terminals
  tank : TankConfig
  airflow : AirflowConfig
  drying : DryingConfig
  filters : FiltersConfig
  untagged : PerStage UntaggedDefault
  curve : Bank
deriving DecidableEq, Repr

/-- Table 3-1. -/
def factoryCurve : Bank :=
  [⟨0, 0⟩, ⟨220, 90⟩, ⟨300, 160⟩, ⟨380, 240⟩, ⟨460, 330⟩, ⟨550, 445⟩, ⟨620, 480⟩, ⟨700, 510⟩,
   ⟨790, 540⟩, ⟨890, 570⟩, ⟨1000, 600⟩]

/-- The factory values of Table 10-2. -/
def Settings.factory : Settings :=
  { ports := ⟨.r2, .r1, .r3⟩
    terminals := ⟨.probe, .pumpFlow, .powerFailWarn, .probe⟩
    tank := ⟨.pump, 150, 1500, 2600, 3000⟩
    airflow := ⟨3, 4, 120⟩
    drying := ⟨.retry, ⟨true, false, true⟩⟩
    filters := ⟨800, 6, 35⟩
    untagged := ⟨⟨8000, 350, 60, true⟩, ⟨4800, 80, 40, false⟩, ⟨12000, 997, 250, false⟩⟩
    curve := factoryCurve }

/-! ### Sensor front end (file 01) -/

structure ParticleInput where
  warmup : Timer
  window : List Nat
  last : Option Nat
  saturated : Bool
  wait : Timer
deriving DecidableEq, Repr

structure GasInput where
  window : List Nat
  wait : Timer
deriving DecidableEq, Repr

structure RoomInput where
  rh : List Int
  temp : List Int
  fails : Nat
deriving DecidableEq, Repr

structure CoilInput where
  temp : Option Int
  outCount : Nat
deriving DecidableEq, Repr

structure ProbeInput where
  window : List Nat
  outCount : Nat
deriving DecidableEq, Repr

inductive BusRead where
  | gas | room
deriving DecidableEq, Repr

/-- The private bus (R4): time in the present second, whether the next second is even, whether a room
read follows the gas read in progress, the transaction in progress and its time. -/
structure PrivateBus where
  second : Timer
  nextEven : Bool
  roomDue : Bool
  current : Option BusRead
  busy : Timer
deriving DecidableEq, Repr

/-- One switch input (R10): accepted level, whether the first accepted level was handed on, steadiness timer. -/
structure SwitchInput where
  accepted : Bool
  first : Bool
  steady : Timer
deriving DecidableEq, Repr

structure Tach where
  count : Nat
  window : Timer
  rpm : Nat
deriving DecidableEq, Repr

structure Sfe where
  particle : ParticleInput
  gas : GasInput
  room : RoomInput
  coil : CoilInput
  probe : ProbeInput
  bus : PrivateBus
  tanksw : SwitchInput
  slots : PerStage SwitchInput
  mf0 : SwitchInput
  mf1 : SwitchInput
  mf2 : SwitchInput
  tach : Tach
deriving DecidableEq, Repr

/-! ### Demand arbiter (file 02) -/

inductive AirRequest where
  | step (n : Nat)
  | auto
deriving DecidableEq, Repr

inductive DryTarget where
  | percent (n : Nat)
  | continuous
deriving DecidableEq, Repr

/-- Kind and argument of a demand (2.2). -/
inductive Ask where
  | air (a : AirRequest)
  | dry (t : DryTarget)
  | quiet (ceiling : Nat) (allowed : Bool)
  | halt
deriving DecidableEq, Repr

inductive Standing where
  | governing | outranked | suppressed
deriving DecidableEq, Repr

structure Demand where
  origin : Port
  slot : Nat
  ask : Ask
  remaining : Option Nat
  rank : Rank
  standing : Standing
deriving DecidableEq, Repr

/-- The origin port and slot of an entry. -/
structure DemandRef where
  port : Port
  slot : Nat
deriving DecidableEq, Repr

/-- The plan content: every field of the plan record but the version (2.7, R40). -/
structure Plan where
  air : Option AirRequest
  ceiling : Option Nat
  allowed : Bool
  dry : Option DryTarget
  haltRank : Option Rank
  haltRef : Option DemandRef
  airRef : Option DemandRef
  dryRef : Option DemandRef
  quietRef : Option DemandRef
deriving DecidableEq, Repr

structure Dar where
  table : List Demand
  version : BitVec 16
  plan : Plan
  second : Timer
deriving DecidableEq, Repr

/-! ### Airflow controller (file 03) -/

inductive BankName where
  | a | b
deriving DecidableEq, Repr

/-- Limited-by (R54). -/
inductive LimitedBy where
  | none | ceiling | need | filter | stall | fault
deriving DecidableEq, Repr

/-- The drying need handed to the AFC (R109). -/
inductive Need where
  | none | floor | defrost
deriving DecidableEq, Repr

structure Afc where
  bankA : Bank
  bankB : Bank
  active : BankName
  pendingBank : Option BankName
  band : Option Nat            -- none: FALLBACK
  fall : Timer
  target : Nat
  actual : Nat
  duty : Nat
  lowCount : Nat
  stalled : Bool
  stallOff : Timer
  history : List Nat           -- times of `State.now`, oldest first
  fault : Bool
  q : Nat
  floor : Option Nat           -- none: NONE
  limitedBy : LimitedBy
  regulation : Timer
  need : Need
deriving DecidableEq, Repr

/-! ### Filter accounting unit (file 04) -/

/-- One stage account (Table 4-1); `serial` is none for UNTAGGED. -/
structure Account where
  serial : Option (BitVec 32)
  c : Nat
  e : Nat
  k : Nat
  washable : Bool
  load : Nat
  rem : Nat
  wash : Nat
  unverified : Bool
  historyLost : Bool
deriving DecidableEq, Repr

/-- Stage states (Table 4-2). -/
inductive StageState where
  | absent | fresh | serviceable | worn | exhausted
deriving DecidableEq, Repr

/-- The last-tick record (Table 4-4); `substituted` fields say whether the input was a substitute. -/
structure LastTick where
  number : BitVec 32
  pm : Nat
  pmSubstituted : Bool
  v : Nat
  vSubstituted : Bool
  q : Nat
  mIn : Nat
  captured : PerStage (Option Nat)
  escaped : Nat
  gas : Option Nat
  discarded : PerStage (Option Nat)
deriving DecidableEq, Repr

structure Fau where
  accounts : PerStage Account
  rIn : Nat
  rG : Nat
  period : Nat                 -- ms of running time
  running : Bool
  tickCount : BitVec 32
  periodic : Nat
  dirty : Bool
  lastTick : Option LastTick
  d : Nat
deriving DecidableEq, Repr

/-! ### Cartridge reader (file 05) -/

inductive SlotState where
  | empty | settling | identifying | tagged | untagged | mismatch
deriving DecidableEq, Repr

inductive MismatchCause where
  | wrongType | duplicateSerial
deriving DecidableEq, Repr

/-- Tag data after clamping (Table 5-2). -/
structure TagData where
  serial : BitVec 32
  stageType : Stage
  c : Nat
  e : Nat
  k : Nat
  washable : Bool
deriving DecidableEq, Repr

structure Slot where
  state : SlotState
  settle : Timer
  fails : Nat
  tag : Option TagData
  cause : Option MismatchCause
  removed : Bool
  poll : Timer                 -- since the slot's last read time
  reading : Timer              -- tag read in progress
deriving DecidableEq, Repr

/-- One entry of the recent cartridge list (Table 5-4). -/
structure RecentEntry where
  serial : BitVec 32
  stage : Stage
  load : Nat
  wash : Nat
deriving DecidableEq, Repr

structure Crd where
  slots : PerStage Slot
  recent : List RecentEntry
deriving DecidableEq, Repr

/-! ### Drying controller (file 06) -/

/-- Table 6-1. -/
inductive DryState where
  | off | satisfied | hold | startWait | pulldown | running | defrost | postRun | lockout
deriving DecidableEq, Repr

inductive OffTimer where
  | stopped
  | counting (ms : Nat)
  | passed
deriving DecidableEq, Repr

inductive PullOutcome where
  | checking | passed | failed | noVerdict
deriving DecidableEq, Repr

structure PullRecord where
  start : Option Int
  elapsed : Option Nat
  outcome : Option PullOutcome
deriving DecidableEq, Repr

inductive DefrostCause where
  | frost | forced
deriving DecidableEq, Repr

inductive LockReason where
  | noPulldown | defrost | coilSensor | fan
deriving DecidableEq, Repr

/-- What the DRC keeps of the room and the coil reading (R103): the values last held from each sensor, and whether the
reading is VALID. The values stay while it is INVALID, and no rule uses them then. -/
structure HeldReadings where
  rh : Int                     -- averaged RH, tenths of a percent
  roomTemp : Int               -- averaged room temperature, tenths of a degree
  roomValid : Bool
  coil : Int                   -- coil temperature, tenths of a degree
  coilValid : Bool
deriving DecidableEq, Repr

structure Drc where
  state : DryState
  readings : HeldReadings
  call : Bool
  cold : Bool
  off : OffTimer
  run : Timer
  minRun : Bool                -- the run timer has reached 120 s (MINIMUM_RUN_END taken)
  pull : PullRecord
  pullFails : Nat
  frost : Timer
  cause : Option DefrostCause
  defrost : Timer
  defrostEnd : Timer
  defrostFails : Nat
  postRun : Timer
  reason : Option LockReason
deriving DecidableEq, Repr

/-! ### Condensate controller (file 07) -/

inductive Presence where
  | absent | settling | present
deriving DecidableEq, Repr

/-- The tank level: mL under PROBE, the coarse levels under FLOATS (Table 7-3), or UNKNOWN. -/
inductive Level where
  | ml (n : Nat)
  | belowHigh | high | full
  | unknown
deriving DecidableEq, Repr

inductive SeqStatus where
  | running | stopped | complete
deriving DecidableEq, Repr

inductive Phase where
  | prime | transfer | verify
deriving DecidableEq, Repr

inductive Origin where
  | auto
  | port (p : Port)
deriving DecidableEq, Repr

inductive Condition where
  | none | noPrime | blocked | backflow | timeout | tankRemoved | aborted | checkFailed
deriving DecidableEq, Repr

/-- The pump-out sequence record (Table 7-4) with its sample timer (R137). -/
structure Sequence where
  status : SeqStatus
  phase : Option Phase
  origin : Origin
  startLevel : Level
  target : Option Nat
  remaining : Option Nat
  moved : Option Nat
  condition : Condition
  phaseStart : Option Nat
  lowest : Option Nat
  elapsed : Timer
  flow : Timer
  blockMark : Option Nat
  blockElapsed : Timer
  highRelease : Timer
  verifyStart : Option Nat
  floatClosed : Option Bool
  abort : Bool
  sample : Timer
deriving DecidableEq, Repr

structure Cdc where
  presence : Presence
  settle : Timer
  release : Timer
  released : Bool              -- the release timer has reached 5 s
  full : Bool
  pump : Bool
  seq : Option Sequence
deriving DecidableEq, Repr

/-! ### Trend log (file 08) -/

/-- A SAMPLE's values (R156). -/
structure Sample where
  pm : Option Nat
  v : Option Nat
  rh : Option Int
  room : Option Int
  coil : Option Int
  step : Nat
  q : Nat
  drying : DryState
  level : Option Nat
  wear : PerStage (Option Nat)
deriving DecidableEq, Repr

inductive DropCause where
  | serviceClear | rankOff
deriving DecidableEq, Repr

/-- Values of a CARTRIDGE record, in the code order of Table 9-14. -/
inductive CartridgeValue where
  | removed
  | mismatch (c : MismatchCause)
  | resumed | listed | newTagged | newUntagged
  | evicted (serial : BitVec 32)
  | forgotten (serial : BitVec 32)
deriving DecidableEq, Repr

inductive TankValue where
  | present | absent | full | notFull
deriving DecidableEq, Repr

inductive DefrostValue where
  | frost | forced | success | timeout
deriving DecidableEq, Repr

inductive FanValue where
  | stall | fault | cleared
deriving DecidableEq, Repr

inductive Sensor where
  | particle | gas | room | coil | probe
deriving DecidableEq, Repr

inductive StoreValue where
  | replaced | writeFailed
deriving DecidableEq, Repr

inductive ResetKind where
  | powerOn | resetn | restart
deriving DecidableEq, Repr

/-- The event codes of Table 8-1 with their subjects and values. -/
inductive Event where
  | demandExpired (r : DemandRef)
  | demandDropped (r : DemandRef) (c : DropCause)
  | filterState (st : Stage) (v : StageState)
  | cartridge (st : Stage) (v : CartridgeValue)
  | tank (v : TankValue)
  | pumpResult (ph : Option Phase) (v : Condition)   -- `none`: COMPLETE
  | lockout (r : LockReason)
  | lockoutCleared (r : LockReason)
  | defrost (v : DefrostValue)
  | fan (v : FanValue)
  | sensor (which : Sensor) (valid : Bool)
  | curve (bank : BankName)
  | store (r : Region) (v : StoreValue)
  | restart (k : ResetKind)
deriving DecidableEq, Repr

inductive RecordBody where
  | sample (x : Sample)
  | event (e : Event)
deriving DecidableEq, Repr

structure TrendRecord where
  seq : BitVec 32
  minute : BitVec 32
  body : RecordBody
deriving DecidableEq, Repr

/-- One reader record (Table 8-2); a mark is true when CROSSED. -/
structure Reader where
  cursor : BitVec 32
  joinSample : Bool
  joinEvent : Bool
  m64 : Bool
  m128 : Bool
  m192 : Bool
deriving DecidableEq, Repr

structure Tlg where
  ring : List TrendRecord
  nextSeq : BitVec 32
  uptime : BitVec 32
  minute : Timer
  readers : PerPort Reader
deriving DecidableEq, Repr

/-! ### Port interfaces (file 09) -/

/-- Status values (Table 9-1). -/
inductive Status where
  | ok | adjusted | badFrame | unknown | badArg | notPermitted | wrongState | busy | notFound
deriving DecidableEq, Repr

structure Response where
  status : Status
  tag : Byte
  payload : List Byte
deriving DecidableEq, Repr

/-- One port. `rx`: the bytes of the partial frame being collected, none while no frame is being received
(R165 to R167; LINK's sync byte is not among them). `prior`: the response that was pending when the last one
was formed, which a window open at that moment goes on with (R166, R167). `out`: the bytes last clocked out on
MISO, read on SDA or transmitted on TXD. -/
structure PortIf where
  rx : Option (List Byte)
  response : Option Response
  prior : Option Response
  flags : BitVec 16
  mask : BitVec 16
  out : List Byte
deriving DecidableEq, Repr

structure Prt where
  ports : PerPort PortIf
  sending : Bool               -- TXD is transmitting a response
  held : Option Frame          -- the LINK frame held while TXD is busy
  gap : Timer                  -- time since the last byte of LINK's partial frame
  closed : Bool                -- a RESTART was answered: SERVICE takes no further frame
  handover : Timer             -- time since the RESTART response was formed
deriving DecidableEq, Repr

/-! ### Settings store (file 10) -/

/-- A stored region: its contents, and whether its check word matches them (R183). -/
structure Stored (α : Type) where
  contents : α
  intact : Bool
deriving DecidableEq, Repr

/-- A lockout reason that is stored (R122). -/
inductive StoredReason where
  | noPulldown | defrost
deriving DecidableEq, Repr

/-- What the LOCKOUT region can hold: one of the three reasons of Table 10-1, or another (R183). -/
inductive StoredLockout where
  | none | noPulldown | defrost
  | other
deriving DecidableEq, Repr

/-- What an entry of the RECENT region can hold: `stage` is none for an unknown stage type (R183). -/
structure StoredEntry where
  serial : BitVec 32
  stage : Option Stage
  load : Nat
  wash : Nat
deriving DecidableEq, Repr

/-- The nonvolatile memory (Table 10-1). CONFIG stands as the groups' WRITE-CONFIG payloads, since R183 judges it
by what a WRITE-CONFIG enforces (log 9). -/
structure Store where
  config : Stored (List (List Byte))
  filters : Stored (PerStage Account)
  recent : Stored (List StoredEntry)
  lockout : Stored StoredLockout
deriving DecidableEq, Repr

/-- The copies a write in progress holds: the regions it covers are those present (R188). -/
structure Copies where
  config : Option Settings
  filters : Option (PerStage Account)
  recent : Option (List RecentEntry)
  lockout : Option (Option StoredReason)
deriving DecidableEq, Repr

inductive StartUp where
  | reading | done
deriving DecidableEq, Repr

/-- Progress of a RESTART after its hand-over (R190): the write in progress is being finished, the last
pending write is being written, or no write remains. -/
inductive RestartPhase where
  | none | finishing | lastWrite | drained
deriving DecidableEq, Repr

/-- `reading` and `readTimer`: the region being read at start-up and how long its read has taken (R191). -/
structure Sst where
  startUp : StartUp
  reading : Option Region
  readTimer : Timer
  settings : Settings
  writing : Option Copies
  pendingWrite : RegionSet
  unsaved : RegionSet
  replaced : RegionSet
  unreadable : RegionSet
  restart : RestartPhase
deriving DecidableEq, Repr

/-! ### The whole part -/

/-- The levels at the switch terminals: true is closed, active or asserted. -/
structure Pins where
  tanksw : Bool
  slots : PerStage Bool
  mf0 : Bool
  mf1 : Bool
  mf2 : Bool
deriving DecidableEq, Repr

structure State where
  pending : List Instr
  now : Nat
  free : Nat
  supply : Bool
  resetnLow : Bool
  kind : ResetKind
  pins : Pins
  store : Store
  sfe : Sfe
  dar : Dar
  afc : Afc
  fau : Fau
  crd : Crd
  drc : Drc
  cdc : Cdc
  tlg : Tlg
  prt : Prt
  sst : Sst
deriving DecidableEq, Repr

/-- No command stops the part: the spec describes none that does. -/
inductive Fault where
deriving DecidableEq, Repr

/-- Reasons a command is refused. -/
inductive Refusal where
  /-- The command has no meaning yet; raised by a refused arm of `exec` only. Safe: nothing follows from it. -/
  | notModelled (mnemonic : String)
deriving DecidableEq, Repr

/-! ### The blocks before they start -/

def SwitchInput.idle : SwitchInput := ⟨false, false, Option.none⟩

/-- The values of R18 with every timer stopped. -/
def Sfe.idle : Sfe :=
  { particle := ⟨none, [], none, false, none⟩
    gas := ⟨[], none⟩
    room := ⟨[], [], 0⟩
    coil := ⟨none, 0⟩
    probe := ⟨[], 0⟩
    bus := ⟨none, true, false, none, none⟩
    tanksw := .idle
    slots := ⟨.idle, .idle, .idle⟩
    mf0 := .idle
    mf1 := .idle
    mf2 := .idle
    tach := ⟨0, none, 0⟩ }

/-- The plan of an empty table (R44). -/
def Plan.idle : Plan := ⟨none, none, true, none, none, none, none, none, none⟩

def Dar.idle : Dar := ⟨[], 0, .idle, none⟩

/-- The values of R63 with the curve given, D = 0 and every timer stopped. -/
def Afc.idle (curve : Bank) : Afc :=
  { bankA := curve, bankB := curve, active := .a, pendingBank := none, band := none, fall := none
    target := 0, actual := 0, duty := 0, lowCount := 0, stalled := false, stallOff := none
    history := [], fault := false, q := 0, floor := some 3, limitedBy := .filter
    regulation := none, need := .none }

/-- An account with the untagged defaults, L 0 and wash count 0. -/
def Account.fresh (u : UntaggedDefault) (lost : Bool) : Account :=
  { serial := none, c := u.c, e := u.e, k := u.k, washable := u.washable, load := 0, rem := 0
    wash := 0, unverified := false, historyLost := lost }

/-- Three UNTAGGED accounts with the untagged defaults of `cfg`. -/
def freshAccounts (cfg : Settings) (lost : Bool) : PerStage Account :=
  cfg.untagged.map (fun _ u => Account.fresh u lost)

def Fau.idle (accounts : PerStage Account) : Fau :=
  { accounts := accounts, rIn := 0, rG := 0, period := 0, running := false, tickCount := 0
    periodic := 0, dirty := false, lastTick := none, d := 0 }

def Slot.idle : Slot := ⟨.empty, none, 0, none, none, false, none, none⟩

def Crd.idle : Crd := ⟨⟨.idle, .idle, .idle⟩, []⟩

/-- Both readings are INVALID until the SFE publishes them (R127). The spec gives no values held before that: they are
0. DESIGN CHOICE (log 58), unsafe. -/
def HeldReadings.idle : HeldReadings := ⟨0, 0, false, 0, false⟩

/-- The values of R127. It states no start value of the defrost record's cause and of the pull-down record's
elapsed time: they start absent and stopped. DESIGN CHOICE (log 40), unsafe. -/
def Drc.idle : Drc :=
  { state := .off, readings := .idle, call := false, cold := false, off := .stopped, run := none, minRun := false
    pull := ⟨none, none, none⟩, pullFails := 0, frost := none, cause := none, defrost := none
    defrostEnd := none, defrostFails := 0, postRun := none, reason := none }

def Cdc.idle : Cdc := ⟨.absent, none, none, false, false, false, none⟩

def Reader.idle : Reader := ⟨0, true, true, false, false, false⟩

def Tlg.idle : Tlg := ⟨[], 0, 0, none, ⟨.idle, .idle, .idle⟩⟩

def PortIf.idle : PortIf := ⟨none, none, none, 0, 0, []⟩

def Prt.idle : Prt := ⟨⟨.idle, .idle, .idle⟩, false, none, none, false, none⟩

/-- The SST while the part is held in reset or without supply (log 14). -/
def Sst.idle : Sst :=
  { startUp := .reading, reading := none, readTimer := none, settings := .factory, writing := none
    pendingWrite := .empty, unsaved := .empty, replaced := .empty, unreadable := .empty, restart := .none }

/-- The SST at the beginning of a start-up: the first region's read begins (R191). -/
def Sst.begin : Sst := { Sst.idle with reading := some .config, readTimer := some 0 }

/-- A store never written: no region's check word matches. DESIGN CHOICE (log 7), unsafe. -/
def Store.blank : Store :=
  { config := ⟨[], false⟩
    filters := ⟨freshAccounts .factory false, false⟩
    recent := ⟨[], false⟩
    lockout := ⟨.none, false⟩ }

/-- The part right after supply was applied: the PRT answers BUSY, the SST reads the store, the other
blocks have not started (R180, R191). Values the spec does not state: log 1, 7, 8, 11, 14. -/
def State.reset : State :=
  { pending := [], now := 0, free := 0, supply := true, resetnLow := false, kind := .powerOn
    pins := ⟨false, ⟨false, false, false⟩, false, false, false⟩
    store := .blank
    sfe := .idle, dar := .idle, afc := .idle factoryCurve, fau := .idle (freshAccounts .factory false)
    crd := .idle, drc := .idle, cdc := .idle, tlg := .idle, prt := .idle, sst := .begin }

end Sys2Proof.Machine
end

