-- ==== Sys2Proof/Machine/Flags.lean ====
section
/-! DEFINITION. The event flags, their posting and the attention lines (R175 to R178). -/

namespace Sys2Proof.Machine

/-- The part has supply and is not held in reset. -/
def State.live (s : State) : Bool := s.supply && !s.resetnLow

/-- Table 9-3, in the order of 9.8's flag bytes. -/
inductive Flag where
  | plan | expired | filter | cartridge | tank | pump | dry | lockout | fan | sensor
  | logq | logh | log3q | loglate | curve | store
deriving DecidableEq, Repr

def Flag.index : Flag → Nat
  | .plan => 0 | .expired => 1 | .filter => 2 | .cartridge => 3 | .tank => 4 | .pump => 5
  | .dry => 6 | .lockout => 7 | .fan => 8 | .sensor => 9 | .logq => 10 | .logh => 11
  | .log3q => 12 | .loglate => 13 | .curve => 14 | .store => 15

def Flag.bit (f : Flag) : BitVec 16 := 1#16 <<< f.index

/-- A frame to the port is being received (R178). -/
def PortIf.receiving (x : PortIf) : Bool := x.rx.isSome

def PortIf.raise (x : PortIf) (bits : BitVec 16) : PortIf := { x with flags := x.flags ||| bits }

/-- Flags set on each port (R175): a posted flag is set whatever the mask holds. -/
def State.raise (s : State) (bits : Port → BitVec 16) : State :=
  { s with prt := { s.prt with ports := s.prt.ports.map (fun p x => x.raise (bits p)) } }

/-- A flag posted for one port. -/
def State.post (s : State) (p : Port) (f : Flag) : State :=
  s.raise (fun r => if r = p then f.bit else 0)

/-- A flag posted for all ports. -/
def State.postAll (s : State) (f : Flag) : State := s.raise (fun _ => f.bit)

/-- The attention line (R178): held inactive while a frame is received, and on LINK also while a held
frame has not been judged (log 13). -/
def State.attention (s : State) (p : Port) : Bool :=
  let x := s.prt.ports.get p
  s.live && !x.receiving && !(p = .link && s.prt.held.isSome) && (x.flags &&& x.mask) != 0

end Sys2Proof.Machine
end

