-- ==== Sys2Proof/Machine/Ops.lean ====
section
/-! DEFINITION. Operations every block uses: block setters, time, the trend log's write, checkpoint requests, and the forming of a response. -/

namespace Sys2Proof.Machine

/-! ### Setters, one per block -/

def State.setPins (s : State) (x : Pins) : State := { s with pins := x }
def State.setStore (s : State) (x : Store) : State := { s with store := x }
def State.setSfe (s : State) (x : Sfe) : State := { s with sfe := x }
def State.setDar (s : State) (x : Dar) : State := { s with dar := x }
def State.setAfc (s : State) (x : Afc) : State := { s with afc := x }
def State.setFau (s : State) (x : Fau) : State := { s with fau := x }
def State.setCrd (s : State) (x : Crd) : State := { s with crd := x }
def State.setDrc (s : State) (x : Drc) : State := { s with drc := x }
def State.setCdc (s : State) (x : Cdc) : State := { s with cdc := x }
def State.setTlg (s : State) (x : Tlg) : State := { s with tlg := x }
def State.setPrt (s : State) (x : Prt) : State := { s with prt := x }
def State.setSst (s : State) (x : Sst) : State := { s with sst := x }

/-- The blocks have started: the start-up store read has ended (R191). -/
def State.up (s : State) : Bool := s.live && s.sst.startUp == .done

/-- A block that has not started takes no event (log 14). -/
def State.whenUp (s : State) (f : State → State) : State := if s.up then f s else s

/-! ### Time (log 1, log 2) -/

/-- `ms` more on a running timer, which stays at its limit until its expiry is taken. -/
def Timer.adv (limit ms : Nat) : Timer → Timer
  | none => none
  | some e => some (min limit (e + ms))

/-- `ms` more on a running timer without a limit. -/
def Timer.count (ms : Nat) : Timer → Timer
  | none => none
  | some e => some (e + ms)

def SwitchInput.advance (ms : Nat) (x : SwitchInput) : SwitchInput :=
  { x with steady := Timer.adv Config.steadyMs ms x.steady }

def Sfe.advance (ms : Nat) (x : Sfe) : Sfe :=
  { x with
    particle := { x.particle with
      warmup := Timer.adv Config.warmupMs ms x.particle.warmup
      wait := Timer.adv Config.readingWaitMs ms x.particle.wait }
    gas := { x.gas with wait := Timer.adv Config.readingWaitMs ms x.gas.wait }
    bus := { x.bus with
      second := Timer.adv Config.busSecondMs ms x.bus.second
      busy := Timer.adv Config.busTransactionMs ms x.bus.busy }
    tanksw := x.tanksw.advance ms
    slots := x.slots.map (fun _ i => i.advance ms)
    mf0 := x.mf0.advance ms
    mf1 := x.mf1.advance ms
    mf2 := x.mf2.advance ms
    tach := { x.tach with window := Timer.adv Config.tachWindowMs ms x.tach.window } }

def Dar.advance (ms : Nat) (x : Dar) : Dar :=
  { x with second := Timer.adv Config.darSecondMs ms x.second }

def Afc.advance (ms : Nat) (x : Afc) : Afc :=
  { x with
    fall := Timer.count ms x.fall
    stallOff := Timer.adv Config.stallOffMs ms x.stallOff
    regulation := Timer.adv Config.regulationMs ms x.regulation }

/-- The accounting period counts running time only (R68). -/
def Fau.advance (ms : Nat) (x : Fau) : Fau :=
  { x with period := if x.running then min Config.accountingMs (x.period + ms) else x.period }

def Slot.advance (ms : Nat) (x : Slot) : Slot :=
  { x with
    settle := Timer.adv Config.slotSettleMs ms x.settle
    poll := Timer.adv Config.pollCycleMs ms x.poll
    reading := Timer.adv Config.tagReadMs ms x.reading }

def Crd.advance (ms : Nat) (x : Crd) : Crd :=
  { x with slots := x.slots.map (fun _ i => i.advance ms) }

def OffTimer.advance (ms : Nat) : OffTimer → OffTimer
  | .stopped => .stopped
  | .counting e => .counting (min Config.offTimerMs (e + ms))
  | .passed => .passed

/-- The run timer stays at 120 s until the minimum run's end is taken, and counts on from there. -/
def Drc.advance (ms : Nat) (x : Drc) : Drc :=
  { x with
    off := x.off.advance ms
    run := if x.minRun then Timer.count ms x.run else Timer.adv Config.minimumRunMs ms x.run
    pull := if x.pull.outcome = some .checking then
        { x.pull with elapsed := Timer.adv Config.pulldownMs ms x.pull.elapsed } else x.pull
    frost := Timer.adv Config.frostMs ms x.frost
    defrost := Timer.adv Config.defrostMs ms x.defrost
    defrostEnd := Timer.adv Config.defrostEndMs ms x.defrostEnd
    postRun := Timer.adv Config.postRunMs ms x.postRun }

/-- The most a phase's elapsed time counts to (Table 7-4). -/
def Phase.limit : Option Phase → Nat
  | some .prime => Config.primeMs
  | some .transfer => Config.transferMs
  | some .verify => Config.verifyMs
  | none => 0

def Sequence.advance (ms : Nat) (x : Sequence) : Sequence :=
  { x with
    elapsed := Timer.adv (Phase.limit x.phase) ms x.elapsed
    flow := Timer.adv Config.flowMs ms x.flow
    blockElapsed := Timer.adv Config.blockedMs ms x.blockElapsed
    highRelease := Timer.adv Config.highReleaseMs ms x.highRelease
    sample := Timer.adv Config.pumpSampleMs ms x.sample }

def Cdc.advance (ms : Nat) (x : Cdc) : Cdc :=
  { x with
    settle := Timer.adv Config.tankSettleMs ms x.settle
    release := Timer.adv Config.releaseMs ms x.release
    seq := x.seq.map (·.advance ms) }

def Tlg.advance (ms : Nat) (x : Tlg) : Tlg :=
  { x with minute := Timer.adv Config.minuteMs ms x.minute }

def Prt.advance (ms : Nat) (x : Prt) : Prt :=
  { x with
    gap := Timer.adv Config.linkGapMs ms x.gap
    handover := Timer.adv Config.handoverMs ms x.handover }

def Sst.advance (ms : Nat) (x : Sst) : Sst :=
  { x with readTimer := Timer.adv Config.regionReadMs ms x.readTimer }

/-- `ms` milliseconds pass: every running timer counts on. -/
def State.advance (ms : Nat) (s : State) : State :=
  { s with
    now := s.now + ms
    sfe := s.sfe.advance ms
    dar := s.dar.advance ms
    afc := s.afc.advance ms
    fau := s.fau.advance ms
    crd := s.crd.advance ms
    drc := s.drc.advance ms
    cdc := s.cdc.advance ms
    tlg := s.tlg.advance ms
    prt := s.prt.advance ms
    sst := s.sst.advance ms }

/-- The expiry of a timer is taken. A stopped timer has none to take. A running one has reached its
limit now, so the time still missing has passed for the whole part; then the rule acts (log 2). -/
def State.expire (s : State) (t : Timer) (limit : Nat) (act : State → State) : State :=
  match t with
  | none => s
  | some e => act (s.advance (limit - e))

/-! ### Trend log (R154, R158 to R160) -/

/-- A reader's backlog (R158). -/
def Tlg.backlog (t : Tlg) (r : Reader) : Nat := (t.nextSeq - r.cursor).toNat

/-- The marks that follow a backlog (R160). -/
def Reader.remark (r : Reader) (b : Nat) : Reader :=
  { r with m64 := decide (64 ≤ b), m128 := decide (128 ≤ b), m192 := decide (192 ≤ b) }

/-- The flags of the marks that a new backlog crosses (R160). -/
def Reader.crossed (r : Reader) (b : Nat) : BitVec 16 :=
  (if !r.m64 && 64 ≤ b then Flag.logq.bit else 0) |||
  (if !r.m128 && 128 ≤ b then Flag.logh.bit else 0) |||
  (if !r.m192 && 192 ≤ b then Flag.log3q.bit else 0)

/-- The ring after a record is appended: a full ring first loses its oldest (R154). -/
def Tlg.pushed (t : Tlg) (body : RecordBody) : List TrendRecord :=
  (if Config.ringCapacity ≤ t.ring.length then t.ring.tail else t.ring) ++ [⟨t.nextSeq, t.uptime, body⟩]

/-- A write discards the oldest record under this reader's cursor (R159). -/
def Tlg.passes (t : Tlg) (r : Reader) : Bool :=
  Config.ringCapacity ≤ t.ring.length && (t.ring.head?.map (·.seq)) == some r.cursor

/-- The reader's cursor after a write (R158, R159). -/
def Tlg.movedCursor (t : Tlg) (r : Reader) : BitVec 32 := if t.passes r then r.cursor + 1 else r.cursor

/-- The reader's backlog after a write. -/
def Tlg.backlogAfterWrite (t : Tlg) (r : Reader) : Nat := (t.nextSeq + 1 - t.movedCursor r).toNat

/-- The trend log after a write (R154, R159, R160). -/
def Tlg.written (t : Tlg) (body : RecordBody) : Tlg :=
  { t with
    ring := t.pushed body
    nextSeq := t.nextSeq + 1
    readers := t.readers.map (fun _ r =>
      ({ r with cursor := t.movedCursor r }).remark (t.backlogAfterWrite r)) }

/-- The flags a write sets on a reader's port: LOGLATE, and the marks crossed. -/
def Tlg.writeFlags (t : Tlg) (r : Reader) : BitVec 16 :=
  (if t.passes r then Flag.loglate.bit else 0) ||| r.crossed (t.backlogAfterWrite r)

/-- A record is written. -/
def State.write (s : State) (body : RecordBody) : State :=
  (s.setTlg (s.tlg.written body)).raise (fun p => s.tlg.writeFlags (s.tlg.readers.get p))

/-- An EVENT record is written (R157). -/
def State.log (s : State) (e : Event) : State := s.write (.event e)

/-! ### Checkpoints (R188) -/

/-- The stored reason that the DRC's lockout gives the LOCKOUT region (R122). -/
def Drc.storedReason (x : Drc) : Option StoredReason :=
  match x.state, x.reason with
  | .lockout, some .noPulldown => some .noPulldown
  | .lockout, some .defrost => some .defrost
  | _, _ => none

/-- The copies of a set of regions, as their owners hold them now. Stage remainders are not stored. -/
def State.copies (s : State) (rs : RegionSet) : Copies :=
  { config := if rs.config then some s.sst.settings else none
    filters := if rs.filters then some (s.fau.accounts.map (fun _ a => { a with rem := 0 })) else none
    recent := if rs.recent then some s.crd.recent else none
    lockout := if rs.lockout then some s.drc.storedReason else none }

/-- A write begins: its regions and every unsaved region are copied, and a write that covers FILTERS
clears the FAU's dirty mark (R188, R84). -/
def State.beginWrite (s : State) (rs : RegionSet) : State :=
  let all := rs.union s.sst.unsaved
  (s.setSst { s.sst with writing := some (s.copies all), pendingWrite := .empty }).setFau
    { s.fau with dirty := s.fau.dirty && !all.filters }

/-- The regions join the pending write (R188). -/
def State.joinPending (s : State) (rs : RegionSet) : State :=
  s.setSst { s.sst with pendingWrite := s.sst.pendingWrite.union rs }

/-- No write begins any more: a RESTART's last write runs or has ended (R190). -/
def Sst.closing (x : Sst) : Bool := x.restart == .lastWrite || x.restart == .drained

/-- A checkpoint request: it begins a write, or joins the pending write (R188). Once a RESTART's last write
runs, or no write remains before it, the pending write is never begun and is lost with the reset (R190; log 28). -/
def State.request (s : State) (rs : RegionSet) : State :=
  match s.sst.writing with
  | none => if s.sst.closing then s.joinPending rs else s.beginWrite rs
  | some _ => s.joinPending rs

/-! ### Responses (R165 to R170) -/

/-- Table 9-7. -/
def Status.code : Status → Byte
  | .ok => 0x00 | .adjusted => 0x01 | .badFrame => 0x10 | .unknown => 0x11 | .badArg => 0x12
  | .notPermitted => 0x13 | .wrongState => 0x14 | .busy => 0x15 | .notFound => 0x16

/-- The bytes of a response body (Table 9-5). -/
def Response.body (r : Response) : List Byte := commandBody r.status.code r.tag r.payload

/-- A command's answer before it has its Tag. -/
structure Reply where
  status : Status
  payload : List Byte := []
deriving DecidableEq, Repr

/-- The response to a taken frame is formed. On PANEL and SERVICE it replaces the pending one; on LINK
it is transmitted at once and counts as read (R165, R170). -/
def State.respond (s : State) (p : Port) (tag : Byte) (r : Reply) : State :=
  let resp : Response := ⟨r.status, tag, r.payload⟩
  let x := s.prt.ports.get p
  match p with
  | .link => s.setPrt { s.prt with
      sending := true
      ports := s.prt.ports.set .link { x with out := 0xA5 :: resp.body } }
  | _ => s.setPrt { s.prt with
      ports := s.prt.ports.set p { x with prior := x.response, response := some resp } }

/-- The bytes a port has collected of a partial frame, none when no frame is being received; on LINK the time
since the last of them starts again, or stops (R165, R178). It counts from the sync byte on. DESIGN CHOICE (log 52),
unsafe. -/
def State.setRx (s : State) (p : Port) (rx : Option (List Byte)) : State :=
  s.setPrt { s.prt with
    gap := if p = .link then rx.map (fun _ => 0) else s.prt.gap
    ports := s.prt.ports.set p { s.prt.ports.get p with rx := rx } }

/-- The rank of a port in force (R19). -/
def State.rank (s : State) (p : Port) : Rank := s.sst.settings.ports.get p

end Sys2Proof.Machine
end

