-- ==== Sys2Proof/Machine/Derived.lean ====
section
/-! DEFINITION. What the chapters derive from the state held: averages and levels, stage presence, wear and
state, derating, airflow, the dry floor, hold reasons, the drying need. -/

namespace Sys2Proof.Machine

/-! ### Readings (file 01) -/

/-- The average of a window: floor(sum ÷ count), none when the window is empty (R1). -/
def average (w : List Nat) : Option Nat :=
  if w.isEmpty then none else some (w.sum / w.length)

/-- The same for signed readings: rounding is toward the lower value (R1). -/
def averageInt (w : List Int) : Option Int :=
  if w.isEmpty then none else some (w.sum / (w.length : Int))

/-- A reading joins its window at the newest end; at capacity the oldest leaves (R1). -/
def joinWindow {α : Type} (capacity : Nat) (w : List α) (x : α) : List α :=
  (if capacity ≤ w.length then w.tail else w) ++ [x]

def insertSorted (x : Nat) : List Nat → List Nat
  | [] => [x]
  | y :: ys => if x ≤ y then x :: y :: ys else y :: insertSorted x ys

def sortedList : List Nat → List Nat
  | [] => []
  | x :: xs => insertSorted x (sortedList xs)

/-- The median; of an even number, the higher of the two middle values (R8). -/
def median (w : List Nat) : Option Nat := (sortedList w)[w.length / 2]?

/-- PMa, none while INVALID (R2, R3). -/
def State.pmA (s : State) : Option Nat := average s.sfe.particle.window

/-- Va, none while INVALID (R5). -/
def State.va (s : State) : Option Nat := average s.sfe.gas.window

/-- Averaged RH, none while INVALID (R6). -/
def State.rh (s : State) : Option Int := averageInt s.sfe.room.rh

/-- Averaged room temperature, none while INVALID (R6). -/
def State.roomTemp (s : State) : Option Int := averageInt s.sfe.room.temp

/-- The published probe level, none for UNKNOWN (R8, R9). -/
def State.probeLevel (s : State) : Option Nat := median s.sfe.probe.window

/-! ### Switch inputs and terminals (R10, R14) -/

/-- Whether a function is sampled as a switch input. -/
def MfFunction.isSwitch : MfFunction → Bool
  | .none | .probe => false
  | _ => true

/-- The switch input of a terminal. -/
def Sfe.switch (x : Sfe) : Switch → SwitchInput
  | .tanksw => x.tanksw
  | .slot st => x.slots.get st
  | .mf0 => x.mf0
  | .mf1 => x.mf1
  | .mf2 => x.mf2

def Sfe.setSwitch (x : Sfe) (sw : Switch) (i : SwitchInput) : Sfe :=
  match sw with
  | .tanksw => { x with tanksw := i }
  | .slot st => { x with slots := x.slots.set st i }
  | .mf0 => { x with mf0 := i }
  | .mf1 => { x with mf1 := i }
  | .mf2 => { x with mf2 := i }

/-- The function a terminal has, if it is a multi-function one. -/
def Terminals.function (t : Terminals) : Switch → Option MfFunction
  | .mf0 => some t.mf0
  | .mf1 => some t.mf1
  | .mf2 => some t.mf2
  | _ => none

/-- Whether the terminal is sampled as a switch input under the assignment in force (R10). -/
def Terminals.samples (t : Terminals) (sw : Switch) : Bool :=
  match t.function sw with
  | none => true
  | some f => f.isSwitch

/-- The accepted level of a switch function, none when no terminal has it. -/
def State.functionLevel (s : State) (f : MfFunction) : Option Bool :=
  if s.sst.settings.terminals.mf0 = f then some s.sfe.mf0.accepted
  else if s.sst.settings.terminals.mf1 = f then some s.sfe.mf1.accepted
  else if s.sst.settings.terminals.mf2 = f then some s.sfe.mf2.accepted
  else none

/-- The pump-flow input: active, inactive or absent (R15, R153). -/
def State.flowInput (s : State) : Option Bool := s.functionLevel .pumpFlow

/-! ### Tank level (R130, R131) -/

/-- Table 7-3. -/
def floatsLevel (high full : Bool) : Level :=
  if full then .full else if high then .high else .belowHigh

/-- The level held by the CDC: the SFE's published level under PROBE; Table 7-3 under FLOATS once both
floats have had their first accepted level. -/
def State.level (s : State) : Level :=
  match s.sst.settings.terminals.method with
  | .probe => match s.probeLevel with
    | some n => .ml n
    | none => .unknown
  | .floats =>
    if s.sfe.mf0.first && s.sfe.mf1.first then floatsLevel s.sfe.mf0.accepted s.sfe.mf1.accepted
    else .unknown

def Level.known : Level → Bool
  | .unknown => false
  | _ => true

/-! ### Stages (R65 to R67, R75, R77, R87) -/

/-- PRESENT: the slot is TAGGED or UNTAGGED (R87). -/
def Slot.present (x : Slot) : Bool := x.state == .tagged || x.state == .untagged

def State.stagePresent (s : State) (st : Stage) : Bool := (s.crd.slots.get st).present

/-- A required stage is ABSENT (R54, R106). -/
def State.requiredAbsent (s : State) : Bool :=
  let r := s.sst.settings.drying.required
  (r.pre && !s.stagePresent .pre) || (r.carb && !s.stagePresent .carb) || (r.fine && !s.stagePresent .fine)

/-- W (R75). -/
def Account.wear (a : Account) : Nat := min 2000 (a.load / a.c)

/-- Table 4-2 for a PRESENT stage. -/
def wearState (worn w : Nat) : StageState :=
  if w < 50 then .fresh else if w < worn then .serviceable else if w < 1000 then .worn else .exhausted

/-- The state of a stage (R66): a washable account at its wash limit is at least WORN. -/
def Account.stageState (cfg : FiltersConfig) (present : Bool) (a : Account) : StageState :=
  if !present then .absent else
  match wearState cfg.worn a.wear with
  | .fresh => if a.washable && cfg.washLimit ≤ a.wash then .worn else .fresh
  | .serviceable => if a.washable && cfg.washLimit ≤ a.wash then .worn else .serviceable
  | st => st

def State.stageState (s : State) (st : Stage) : StageState :=
  (s.fau.accounts.get st).stageState s.sst.settings.filters (s.stagePresent st)

/-- A stage's term of the derating (R77). -/
def Account.term (a : Account) : Nat := min a.wear 1500 * a.k / 1000

def State.deratingTerm (s : State) (st : Stage) : Nat :=
  if s.stagePresent st then (s.fau.accounts.get st).term else 0

/-- D (R77). -/
def State.derating (s : State) : Nat :=
  min 700 (s.deratingTerm .pre + s.deratingTerm .carb + s.deratingTerm .fine)

/-! ### Airflow (R55, R60, R61) -/

def Afc.bank (x : Afc) : BankName → Bank
  | .a => x.bankA
  | .b => x.bankB

def Bank.point (b : Bank) (step : Nat) : CurvePoint := b.getD step ⟨0, 0⟩

/-- The fan is running for the FAU (R55). -/
def Afc.isRunning (x : Afc) : Bool := 1 ≤ x.actual && !x.stalled && !x.fault

/-- Derated airflow of a step in the active bank. -/
def Afc.derated (x : Afc) (d step : Nat) : Nat :=
  (Bank.point (x.bank x.active) step).qnom * (1000 - d) / 1000

/-- Q (R60). -/
def Afc.airflow (x : Afc) (d : Nat) : Nat := if x.isRunning then x.derated d x.actual else 0

/-- The effective dry floor (R61). -/
def Afc.dryFloor (x : Afc) (cfg : AirflowConfig) (d : Nat) : Option Nat :=
  (List.range 11).find? (fun st => decide (cfg.dryMin ≤ st) && decide (cfg.minCoil ≤ x.derated d st))

/-- D, Q, the floor and the running indication are recomputed and published (R55, R60, R61, R78). -/
def State.publish (s : State) : State :=
  let d := s.derating
  (s.setFau { s.fau with d := d, running := s.afc.isRunning }).setAfc
    { s.afc with q := s.afc.airflow d, floor := s.afc.dryFloor s.sst.settings.airflow d }

/-! ### Drying (R102, R104 to R106, R109, R113) -/

/-- The compressor is on (R102): COMP is driven in PULLDOWN and RUNNING. -/
def DryState.on (x : DryState) : Bool := x == .pulldown || x == .running

/-- The compressor relay terminal. -/
def State.comp (s : State) : Bool := s.live && s.drc.state.on

/-- The hold reason set (Table 6-2). -/
structure HoldSet where
  tank : Bool
  quiet : Bool
  airflow : Bool
  sensor : Bool
  cold : Bool
  filter : Bool
deriving DecidableEq, Repr

/-- Hold reason TANK. -/
def State.holdTank (s : State) : Bool :=
  s.cdc.presence != .present || s.cdc.full || !s.level.known

/-- Hold reason QUIET. -/
def State.holdQuiet (s : State) : Bool :=
  !s.dar.plan.allowed ||
  match s.dar.plan.ceiling, s.afc.floor with
  | some c, some f => decide (c < f)
  | _, _ => false

/-- The hold reasons that hold (R106). -/
def State.holds (s : State) : HoldSet :=
  { tank := s.holdTank
    quiet := s.holdQuiet
    airflow := s.afc.floor.isNone
    sensor := s.rh.isNone || s.sfe.coil.temp.isNone
    cold := s.drc.cold
    filter := s.requiredAbsent }

def HoldSet.isEmpty (h : HoldSet) : Bool :=
  !(h.tank || h.quiet || h.airflow || h.sensor || h.cold || h.filter)

/-- The start threshold (R104). -/
def startThreshold (target : Nat) : Int := 10 * (target : Int) + 30

/-- The stop threshold (R104). -/
def stopThreshold (target : Nat) : Int := 10 * (target : Int) - 20

/-- The drying call after a plan or a room reading is taken (R104). -/
def nextCall (target : Option DryTarget) (rh : Option Int) (call : Bool) : Bool :=
  match target with
  | none => false
  | some .continuous => true
  | some (.percent t) => match rh with
    | none => call
    | some h => if startThreshold t ≤ h then true else if h ≤ stopThreshold t then false else call

/-- The cold mark after a room reading is taken (R105). -/
def nextCold (temp : Option Int) (cold : Bool) : Bool :=
  match temp with
  | none => cold
  | some t => if t < 50 then true else if 60 ≤ t then false else cold

/-- What the DRC keeps after the readings, none while INVALID, are handed to it (R103). -/
def HeldReadings.take (x : HeldReadings) (rh temp coil : Option Int) : HeldReadings :=
  { rh := rh.getD x.rh, roomTemp := temp.getD x.roomTemp, roomValid := rh.isSome
    coil := coil.getD x.coil, coilValid := coil.isSome }

/-- The normal stop condition (R113), for a running compressor. -/
def State.normalStop (s : State) : Bool :=
  !s.drc.call || s.holds.quiet || s.holds.airflow || s.holds.cold

/-- The conditions that stop a running compressor at once (R114). -/
def State.safetyStop (s : State) : Bool :=
  s.holds.tank || s.holds.filter || s.rh.isNone || s.afc.stalled

/-- Stop pending (R113). -/
def State.stopPending (s : State) : Bool := s.drc.state.on && !s.drc.minRun && s.normalStop

/-- The drying need of a state (R109). -/
def Drc.needOf (x : Drc) : Need :=
  match x.state with
  | .startWait => if x.off = .passed then .floor else .none
  | .pulldown | .running | .postRun => .floor
  | .defrost => .defrost
  | .off | .satisfied | .hold | .lockout => .none

end Sys2Proof.Machine
end

