-- ==== Sys2Proof/Machine/Drying.lean ====
section
/-! DEFINITION. The drying controller (file 06): its transitions, `settle`, which takes every hand-over of a
step into the published values and the DRC, and the meanings of its timers. -/

namespace Sys2Proof.Machine

/-! ### Transitions -/

/-- The DRC changes state; a change posts DRY (R124). -/
def State.goto (s : State) (st : DryState) : State :=
  if s.drc.state = st then s
  else (s.setDrc { s.drc with state := st }).postAll .dry

/-- The pull-down record when its check ends without a verdict (R111). -/
def PullRecord.ended (x : PullRecord) : PullRecord :=
  if x.outcome = some .checking then { x with outcome := some .noVerdict } else x

/-- The compressor stops: the off-timer restarts, the run and frost timers stop, and a check in progress
ends NO-VERDICT (R102, R108, R110, R111). -/
def Drc.stopped (x : Drc) : Drc :=
  { x with off := .counting 0, run := none, minRun := false, frost := none, pull := x.pull.ended }

/-- The re-entry choice (R107). -/
def State.choice (s : State) : DryState :=
  if s.dar.plan.dry.isNone then .off
  else if !s.drc.call then .satisfied
  else if !s.holds.isEmpty then .hold
  else .startWait

/-- The start conditions of START-WAIT (R108). -/
def State.canStart (s : State) : Bool :=
  s.drc.off == .passed && !s.afc.stalled && !s.afc.fault &&
  match s.afc.floor with
  | some f => decide (f ≤ s.afc.actual)
  | none => false

/-- The start into PULLDOWN (R110). -/
def State.startCompressor (s : State) : State :=
  (s.setDrc { s.drc with
      run := some 0, minRun := false, frost := none
      pull := ⟨s.sfe.coil.temp, some 0, some .checking⟩ }).goto .pulldown

/-- The re-entry choice is made, and START-WAIT starts the compressor when it may (R107, R108). -/
def State.reenter (s : State) : State :=
  let t := s.goto s.choice
  if t.drc.state = .startWait && t.canStart then t.startCompressor else t

/-- DEFROST or POST-RUN is over: its timers stop and the re-entry choice is due, which `settle` makes from OFF
(R115, R119). The defrost record's cause stays until the next defrost. DESIGN CHOICE (log 39), unsafe. -/
def State.rest (s : State) : State :=
  (s.setDrc { s.drc with defrost := none, defrostEnd := none, postRun := none }).goto .off

/-- Entry to POST-RUN (R115). -/
def State.enterPostRun (s : State) : State :=
  (s.setDrc { s.drc with postRun := some 0 }).goto .postRun

/-- A normal stop (R113). -/
def State.normalStopNow (s : State) : State := (s.setDrc s.drc.stopped).enterPostRun

/-- A safety stop (R114): POST-RUN when the fan is available, the re-entry choice otherwise. -/
def State.safetyStopNow (s : State) : State :=
  let t := s.setDrc s.drc.stopped
  if !s.afc.stalled && !s.afc.fault && !s.requiredAbsent then t.enterPostRun else t.reenter

/-- A reason whose lockout is stored (R122). -/
def LockReason.isStored : LockReason → Bool
  | .noPulldown | .defrost => true
  | .coilSensor | .fan => false

/-- Entry to LOCKOUT (R121, R122): the compressor is off, every DRC timer but the off-timer stops, LOCKOUT
and DRY are posted, and a stored reason asks for a checkpoint. -/
def State.enterLockout (s : State) (r : LockReason) : State :=
  let d := if s.drc.state.on then s.drc.stopped else s.drc
  let t := ((s.setDrc { d with
      run := none, minRun := false, frost := none, defrost := none, defrostEnd := none, postRun := none
      pull := d.pull.ended, reason := some r }).goto .lockout)
  let t := (t.postAll .lockout).log (.lockout r)
  if r.isStored then t.request (.single .lockout) else t

/-- Entry to DEFROST (R117). -/
def State.enterDefrost (s : State) (c : DefrostCause) : State :=
  let t := (s.setDrc { s.drc.stopped with
      cause := some c, defrost := some 0, defrostEnd := none }).goto .defrost
  t.log (.defrost (match c with | .frost => .frost | .forced => .forced))

/-- The DRC applies the rule for its present state to the inputs it holds (R103, R107, R113, R114, R121). -/
def State.drcRule (s : State) : State :=
  match s.drc.state with
  | .off | .satisfied | .hold | .startWait => if s.afc.fault then s.enterLockout .fan else s.reenter
  | .pulldown | .running =>
    if s.afc.fault then s.enterLockout .fan
    else if s.sfe.coil.temp.isNone then s.enterLockout .coilSensor
    else if s.safetyStop then s.safetyStopNow
    else if s.drc.minRun && s.normalStop then s.normalStopNow
    else s
  | .defrost =>
    if s.afc.fault then s.enterLockout .fan
    else if s.sfe.coil.temp.isNone then s.enterLockout .coilSensor
    else s
  | .postRun => if s.afc.fault then s.enterLockout .fan else s
  | .lockout => s

/-- The DRC takes the readings, and the drying call and the cold mark follow the plan and the room reading (R103 to
R105). -/
def State.marks (s : State) : State :=
  s.setDrc { s.drc with
    readings := s.drc.readings.take s.rh s.roomTemp s.sfe.coil.temp
    call := nextCall s.dar.plan.dry s.rh s.drc.call
    cold := nextCold s.roomTemp s.drc.cold }

/-- The drying need is handed to the AFC (R109). -/
def State.handNeed (s : State) : State := s.setAfc { s.afc with need := s.drc.needOf }

/-- Everything a step changed is handed on: D, Q, the floor and running are published, and the DRC takes
its inputs (R60, R61, R78, R103; log 4). -/
def State.settle (s : State) : State := s.publish.marks.drcRule.handNeed

/-! ### Coil readings (R111, R116, R118) -/

/-- A coil reading is taken: the pull-down check, the frost timer or the end timer. -/
def State.coilReading (s : State) (t : Int) : State :=
  match s.drc.state with
  | .pulldown =>
    match s.drc.pull.outcome, s.drc.pull.start with
    | some .checking, some start =>
      if t ≤ start - 30 then
        (s.setDrc { s.drc with
          pull := { s.drc.pull with outcome := some .passed }, pullFails := 0, frost := none }).goto .running
      else s
    | _, _ => s
  | .running =>
    s.setDrc { s.drc with frost := if t ≤ -10 then some (s.drc.frost.getD 0) else none }
  | .defrost =>
    s.setDrc { s.drc with defrostEnd := if 40 ≤ t then some (s.drc.defrostEnd.getD 0) else none }
  | _ => s

/-! ### Timers of the DRC -/

/-- The off-timer becomes PASSED (R108). -/
def State.offTimerPassed (s : State) : State :=
  match s.drc.off with
  | .counting e =>
    let t := s.advance (Config.offTimerMs - e)
    (t.setDrc { t.drc with off := .passed }).settle
  | _ => s

/-- A FAILED pull-down check and the start-fail policy (R111, R112). Under policy LOCKOUT the failure count stays as it
was, 0 included. DESIGN CHOICE (log 61), unsafe. -/
def State.pulldownFailed (s : State) : State :=
  let t := s.setDrc { s.drc with pull := { s.drc.pull with outcome := some .failed } }
  if s.sst.settings.drying.policy = .retry && s.drc.pullFails = 0 then
    ((t.setDrc { t.drc with pullFails := 1 }).normalStopNow).settle
  else (t.enterLockout .noPulldown).settle

/-- 240 s of PULLDOWN without a verdict. -/
def State.pulldownExpiry (s : State) : State :=
  if s.drc.state = .pulldown ∧ s.drc.pull.outcome = some .checking then
    s.expire s.drc.pull.elapsed Config.pulldownMs State.pulldownFailed
  else s

/-- The run timer reaches 120 s (R113). -/
def State.minimumRun (s : State) : State :=
  if s.drc.state.on ∧ s.drc.minRun = false then
    s.expire s.drc.run Config.minimumRunMs (fun t => (t.setDrc { t.drc with minRun := true }).settle)
  else s

/-- POST-RUN's 60 s have passed (R115). -/
def State.postRunEnd (s : State) : State :=
  if s.drc.state = .postRun then
    s.expire s.drc.postRun Config.postRunMs (fun t => t.rest.settle)
  else s

/-- The frost timer reaches 60 s (R116). -/
def State.frostDetected (s : State) : State :=
  if s.drc.state = .running then
    s.expire s.drc.frost Config.frostMs (fun t => (t.enterDefrost .frost).settle)
  else s

/-- The end timer reaches 30 s: success (R118). -/
def State.defrostSuccess (s : State) : State :=
  if s.drc.state = .defrost then
    s.expire s.drc.defrostEnd Config.defrostEndMs (fun t =>
      ((t.setDrc { t.drc with defrostFails := 0 }).log (.defrost .success)).rest.settle)
  else s

/-- A defrost timeout (R118). -/
def State.defrostTimedOut (s : State) : State :=
  let t := s.setDrc { s.drc with defrostFails := s.drc.defrostFails + 1 }
  if 3 ≤ t.drc.defrostFails then (t.enterLockout .defrost).settle
  else (t.log (.defrost .timeout)).rest.settle

/-- 900 s of defrost (R118). -/
def State.defrostTimeout (s : State) : State :=
  if s.drc.state = .defrost then s.expire s.drc.defrost Config.defrostMs State.defrostTimedOut else s

end Sys2Proof.Machine
end

