-- ==== Sys2Proof/Machine/Operands.lean ====
section
/-! DEFINITION. The fields of payloads: reading a command's bytes, and the encodings of Table 9-9. -/

namespace Sys2Proof.Machine

/-! ### Reading -/

/-- Byte `i` of a payload, 0 beyond its end. -/
def arg1 (pl : List Byte) (i : Nat) : Nat := (pl.getD i 0).toNat

/-- The two-byte number at byte `i`, least significant byte first. -/
def arg2 (pl : List Byte) (i : Nat) : Nat := ofLe ((pl.drop i).take 2)

/-- The four-byte number at byte `i`. -/
def arg4 (pl : List Byte) (i : Nat) : Nat := ofLe ((pl.drop i).take 4)

def stageOf : Nat → Option Stage
  | 0 => some .pre
  | 1 => some .carb
  | 2 => some .fine
  | _ => none

def portOf : Nat → Option Port
  | 0 => some .panel
  | 1 => some .link
  | 2 => some .service
  | _ => none

def bankOf : Nat → Option BankName
  | 0 => some .a
  | 1 => some .b
  | _ => none

/-- A coded yes or no: 1 yes, 0 no (Table 9-9). -/
def yesNoOf : Nat → Option Bool
  | 0 => some false
  | 1 => some true
  | _ => none

/-- A value clamped to a range, and whether it was outside it. -/
def clampTo (lo hi x : Nat) : Nat × Bool := (max lo (min hi x), decide (x < lo) || decide (hi < x))

/-- The eleven entries of a curve from byte `i` on: duty then Qnom for each step (Table 9-8). -/
def curveOf (pl : List Byte) (i : Nat) : Bank :=
  (List.range 11).map (fun st => ⟨arg2 pl (i + 4 * st), arg2 pl (i + 4 * st + 2)⟩)

/-! ### Writing (Table 9-9) -/

def enc1 (n : Nat) : List Byte := [BitVec.ofNat 8 n]
def enc2 (n : Nat) : List Byte := le 2 n
def enc4 (n : Nat) : List Byte := le 4 n

def encOpt1 : Option Nat → List Byte
  | none => [0xFF]
  | some n => enc1 n

def encOpt2 : Option Nat → List Byte
  | none => [0xFF, 0xFF]
  | some n => enc2 n

def encOpt4 : Option Nat → List Byte
  | none => [0xFF, 0xFF, 0xFF, 0xFF]
  | some n => enc4 n

def encBool (b : Bool) : List Byte := [if b then 1 else 0]

/-- Another two-valued field (Table 9-9): 0 for the first value listed, here `b` true, and 1 for the second. -/
def encFirst (b : Bool) : List Byte := [if b then 0 else 1]

def encOptBool : Option Bool → List Byte
  | none => [0xFF]
  | some b => encBool b

/-- A set of members, one bit each in list order, lowest first. -/
def encSet (bits : List Bool) : List Byte :=
  enc1 (bits.foldr (fun b n => (if b then 1 else 0) + 2 * n) 0)

/-- Humidity or temperature: signed tenths, 0x8000 when absent. -/
def encTenths : Option Int → List Byte
  | none => [0x00, 0x80]
  | some t => le 2 (BitVec.ofInt 16 t).toNat

/-- A time in tenths of a second, 65533 beyond 6553.3 s. -/
def encMs (ms : Nat) : List Byte := le 2 (min 65533 (ms / 100))

def encTimer : Timer → List Byte
  | none => [0xFF, 0xFF]
  | some ms => encMs ms

def encOff : OffTimer → List Byte
  | .stopped => [0xFF, 0xFF]
  | .counting ms => encMs ms
  | .passed => [0xFE, 0xFF]

def encSerial : Option (BitVec 32) → List Byte
  | none => enc4 0
  | some n => enc4 n.toNat

def encRegions (r : RegionSet) : List Byte := encSet [r.config, r.filters, r.recent, r.lockout]

/-- port × 4 + slot. -/
def DemandRef.code (r : DemandRef) : Nat := r.port.code * 4 + r.slot

def Rank.num : Rank → Nat
  | .off => 0 | .r1 => 1 | .r2 => 2 | .r3 => 3

def BankName.code : BankName → Nat
  | .a => 0 | .b => 1

def DryState.code : DryState → Nat
  | .off => 0 | .satisfied => 1 | .hold => 2 | .startWait => 3 | .pulldown => 4 | .running => 5
  | .defrost => 6 | .postRun => 7 | .lockout => 8

def StageState.code : StageState → Nat
  | .absent => 0 | .fresh => 1 | .serviceable => 2 | .worn => 3 | .exhausted => 4

def LockReason.code : LockReason → Nat
  | .noPulldown => 0 | .defrost => 1 | .coilSensor => 2 | .fan => 3

def Need.code : Need → Nat
  | .none => 0 | .floor => 1 | .defrost => 2

def LimitedBy.code : LimitedBy → Nat
  | .none => 0 | .ceiling => 1 | .need => 2 | .filter => 3 | .stall => 4 | .fault => 5

def MfFunction.code : MfFunction → Nat
  | .none => 0 | .probe => 1 | .floatHigh => 2 | .floatFull => 3 | .pumpFlow => 4 | .powerFailWarn => 5

def LevelMethod.code : LevelMethod → Nat
  | .probe => 0 | .floats => 1

def DrainMode.code : DrainMode → Nat
  | .bucket => 0 | .pump => 1

def StartFailPolicy.code : StartFailPolicy → Nat
  | .retry => 0 | .lockout => 1

def Phase.code : Phase → Nat
  | .prime => 0 | .transfer => 1 | .verify => 2

def Condition.code : Condition → Nat
  | .none => 0 | .noPrime => 1 | .blocked => 2 | .backflow => 3 | .timeout => 4
  | .tankRemoved => 5 | .aborted => 6 | .checkFailed => 7

def Standing.code : Standing → Nat
  | .governing => 0 | .outranked => 1 | .suppressed => 2

/-- A sequence status as Table 9-13 codes it: 0 is none (log 12). -/
def SeqStatus.code : SeqStatus → Nat
  | .running => 1 | .stopped => 2 | .complete => 3

def Origin.code : Origin → Nat
  | .auto => 0
  | .port p => p.code + 1

def Presence.code : Presence → Nat
  | .absent => 0 | .settling => 1 | .present => 2

/-- A level (Table 9-13): mL, or the FLOATS levels, UNKNOWN as 0xFFFF. -/
def Level.code : Level → Option Nat
  | .ml n => some n
  | .belowHigh => some 0
  | .high => some 1
  | .full => some 2
  | .unknown => none

def SlotState.code : SlotState → Nat
  | .empty => 0 | .settling => 1 | .identifying => 2 | .tagged => 3 | .untagged => 4 | .mismatch => 5

def MismatchCause.code : MismatchCause → Nat
  | .wrongType => 0 | .duplicateSerial => 1

/-- No table of the spec lists the outcomes: they are coded in the order R111 names them. DESIGN CHOICE
(log 37), unsafe. -/
def PullOutcome.code : PullOutcome → Nat
  | .checking => 0 | .passed => 1 | .failed => 2 | .noVerdict => 3

def DefrostCause.code : DefrostCause → Nat
  | .frost => 0 | .forced => 1

/-- An air request (Table 9-11): the step, or 0x0B for AUTO. -/
def AirRequest.code : AirRequest → Nat
  | .step n => n
  | .auto => 0x0B

/-- A dry target (Table 9-11): the percentage, or 0x73 for CONTINUOUS. -/
def DryTarget.code : DryTarget → Nat
  | .percent n => n
  | .continuous => 0x73

end Sys2Proof.Machine
end

