-- ==== Sys2Proof/Machine/Filters.lean ====
section
/-! DEFINITION. The filter accounting unit (file 04): the accounting tick, FILTER events, and READ-FILTERS. -/

namespace Sys2Proof.Machine

/-! ### FILTER events (R67) -/

/-- A change of a stage from one of FRESH to EXHAUSTED to another posts FILTER; entering WORN or EXHAUSTED
asks for a FILTERS checkpoint (R67). -/
def State.postFilter (s : State) (st : Stage) (old new : StageState) : State :=
  if old = new ∨ old = .absent ∨ new = .absent then s
  else
    let t := (s.postAll .filter).log (.filterState st new)
    if new = .worn ∨ new = .exhausted then t.request (.single .filters) else t

/-- The FILTER events of a re-derivation, in stage order; `before` is the state before it (R67). -/
def State.filterEvents (s before : State) : State :=
  let s := s.postFilter .pre (before.stageState .pre) (s.stageState .pre)
  let s := s.postFilter .carb (before.stageState .carb) (s.stageState .carb)
  s.postFilter .fine (before.stageState .fine) (s.stageState .fine)

/-! ### The accounting tick (R70 to R79) -/

/-- What one stage does to the reaching mass (R72, R73): captured mass (absent when the stage is), the mass
passed on, and the stage remainder. -/
structure Capture where
  captured : Option Nat
  passed : Nat
  rem : Nat
deriving DecidableEq, Repr

def Account.capture (a : Account) (present : Bool) (m : Nat) : Capture :=
  if present then
    let t := m * a.e + a.rem
    ⟨some (t / 1000), m - t / 1000, t % 1000⟩
  else ⟨none, m, a.rem⟩

/-- An addition to a load, saturating at 2000 × C (R75): the load and the amount discarded. -/
def Account.book (a : Account) (amount : Nat) : Nat × Nat :=
  (min (2000 * a.c) (a.load + amount), a.load + amount - 2000 * a.c)

/-- The results of one tick before they are stored (R71 to R75). -/
structure TickResult where
  accounts : PerStage Account
  rIn : Nat
  rG : Nat
  record : LastTick
deriving DecidableEq, Repr

def State.tickResult (s : State) : TickResult :=
  let pm := s.pmA.getD s.sst.settings.filters.fallbackPm
  let v := s.va.getD 100
  let q := s.afc.q
  let n := pm * q + s.fau.rIn
  let mIn := n / 240
  let a := s.fau.accounts
  let cPre := a.pre.capture (s.stagePresent .pre) mIn
  let cCarb := a.carb.capture (s.stagePresent .carb) cPre.passed
  let cFine := a.fine.capture (s.stagePresent .fine) cCarb.passed
  let g := v * q + s.fau.rG
  let gas := if s.stagePresent .carb then some (g / 6000) else none
  let bPre := a.pre.book (cPre.captured.getD 0)
  let bCarb := a.carb.book (gas.getD 0)
  let bFine := a.fine.book (cFine.captured.getD 0)
  let present (st : Stage) (x : Nat) : Option Nat := if s.stagePresent st then some x else none
  { accounts :=
      { pre := { a.pre with rem := cPre.rem, load := if s.stagePresent .pre then bPre.1 else a.pre.load }
        carb := { a.carb with rem := cCarb.rem, load := if s.stagePresent .carb then bCarb.1 else a.carb.load }
        fine := { a.fine with rem := cFine.rem, load := if s.stagePresent .fine then bFine.1 else a.fine.load } }
    rIn := n % 240
    rG := if s.stagePresent .carb then g % 6000 else s.fau.rG
    record :=
      { number := s.fau.tickCount + 1
        pm := pm, pmSubstituted := s.pmA.isNone
        v := v, vSubstituted := s.va.isNone
        q := q, mIn := mIn
        captured := ⟨cPre.captured, cCarb.captured, cFine.captured⟩
        escaped := cFine.passed
        gas := gas
        discarded := ⟨present .pre bPre.2, present .carb bCarb.2, present .fine bFine.2⟩ } }

/-- A load changed in the tick (R76). -/
def loadsChanged (x y : PerStage Account) : Bool :=
  x.pre.load != y.pre.load || x.carb.load != y.carb.load || x.fine.load != y.fine.load

/-- Stage 8 of a tick: the tick count, the last-tick record and, at every 40th tick, the dirty mark (R79, R84). -/
def State.countTick (s : State) (r : LastTick) : State :=
  let f := s.fau
  if f.periodic + 1 < 40 then
    s.setFau { f with tickCount := r.number, lastTick := some r, periodic := f.periodic + 1 }
  else
    let t := s.setFau { f with tickCount := r.number, lastTick := some r, periodic := 0 }
    if t.fau.dirty then t.request (.single .filters) else t

/-- One accounting tick, taken whole (Table 4-3). -/
def State.tick (s : State) : State :=
  let r := s.tickResult
  let t := s.setFau { s.fau with
    accounts := r.accounts, rIn := r.rIn, rG := r.rG, period := 0
    dirty := s.fau.dirty || loadsChanged s.fau.accounts r.accounts }
  ((t.filterEvents s).countTick r.record).settle

/-- The period timer reaches 15 s of running time; it waits while the fan is NOT-RUNNING (R68, R69). -/
def State.accountingTick (s : State) : State :=
  if s.fau.running then s.expire (some s.fau.period) Config.accountingMs State.tick else s

/-! ### RESET-FILTER and SET-STAGE at the account (R81) -/

/-- An account after RESET-FILTER (R81). -/
def Account.reset (a : Account) : Account :=
  { a with load := 0, rem := 0, unverified := false, historyLost := false
           wash := if a.washable then min 255 (a.wash + 1) else a.wash }

/-- An account after SET-STAGE (R81). -/
def Account.setParameters (a : Account) (c e k : Nat) : Account :=
  { a with c := c, e := e, k := k, load := min (2000 * c) a.load }

/-- An account is changed by a command: FILTER, D and a FILTERS checkpoint follow (R81). The dirty mark is set
even where the command leaves every field as it was. DESIGN CHOICE (log 35), unsafe. -/
def State.changeAccount (s : State) (st : Stage) (a : Account) : State :=
  let t := s.setFau { s.fau with accounts := s.fau.accounts.set st a, dirty := true }
  ((t.filterEvents s).request (.single .filters)).settle

/-! ### READ-FILTERS (R85, R174, Table 9-12) -/

def State.stagePart (s : State) (st : Stage) : List Byte :=
  let a := s.fau.accounts.get st
  enc1 st.code ++ encBool (s.stagePresent st) ++ enc1 (s.stageState st).code ++
  encSet [a.serial.isSome, a.washable, a.unverified, a.historyLost] ++ encSerial a.serial ++
  enc2 a.c ++ enc2 a.e ++ enc2 a.k ++ enc4 a.load ++ enc2 a.wear ++ enc2 a.rem ++ enc1 a.wash

/-- READ-FILTERS UNIT. The remainders take 2 bytes each (log 33); RUNNING is the first value of its field. The periodic
tick count is sent as a count, in 1 byte. DESIGN CHOICE (log 62), unsafe. -/
def State.fauUnitPart (s : State) : List Byte :=
  let f := s.fau
  let cfg := s.sst.settings.filters
  enc2 f.d ++ enc2 f.rIn ++ enc2 f.rG ++ encMs f.period ++ encFirst f.running ++
  enc4 f.tickCount.toNat ++ enc1 f.periodic ++ encBool f.dirty ++
  enc2 cfg.worn ++ enc1 cfg.washLimit ++ enc2 cfg.fallbackPm

/-- The last-tick record in the order of Table 4-4; every field absent while the record is (log 12), and the
masses, the gas increment and the amounts discarded in 2 bytes each (log 33). -/
def lastTickPart : Option LastTick → List Byte
  | none =>
    encOpt4 none ++ encOpt2 none ++ encOpt1 none ++ encOpt2 none ++ encOpt1 none ++ encOpt2 none ++
    encOpt2 none ++ encOpt2 none ++ encOpt2 none ++ encOpt2 none ++ encOpt2 none ++ encOpt2 none ++
    encOpt2 none ++ encOpt2 none ++ encOpt2 none
  | some r =>
    enc4 r.number.toNat ++ enc2 r.pm ++ encBool r.pmSubstituted ++ enc2 r.v ++ encBool r.vSubstituted ++
    enc2 r.q ++ enc2 r.mIn ++ encOpt2 r.captured.pre ++ encOpt2 r.captured.carb ++
    encOpt2 r.captured.fine ++ enc2 r.escaped ++ encOpt2 r.gas ++ encOpt2 r.discarded.pre ++
    encOpt2 r.discarded.carb ++ encOpt2 r.discarded.fine

def cmdReadFilters (s : State) (_p : Port) (pl : List Byte) : State × Reply :=
  match arg1 pl 0 with
  | 0 => (s, ⟨.ok, s.stagePart .pre⟩)
  | 1 => (s, ⟨.ok, s.stagePart .carb⟩)
  | 2 => (s, ⟨.ok, s.stagePart .fine⟩)
  | 3 => (s, ⟨.ok, s.fauUnitPart⟩)
  | 4 => (s, ⟨.ok, lastTickPart s.fau.lastTick⟩)
  | _ => (s, ⟨.badArg, []⟩)

end Sys2Proof.Machine
end

