-- ==== Sys2Proof/Machine/Cartridges.lean ====
section
/-! DEFINITION. The cartridge reader (file 05): slots, tag reads, binding, the recent list and its commands. -/

namespace Sys2Proof.Machine

def State.slot (s : State) (st : Stage) : Slot := s.crd.slots.get st

def State.setSlot (s : State) (st : Stage) (x : Slot) : State :=
  s.setCrd { s.crd with slots := s.crd.slots.set st x }

/-- A CARTRIDGE event: the flag on all ports and the record (R95). -/
def State.postCartridge (s : State) (st : Stage) (v : CartridgeValue) : State :=
  (s.postAll .cartridge).log (.cartridge st v)

/-! ### Tag data (R89) -/

/-- A GOOD answer's tag data, clamped; none when the read is FAILED. -/
def RawTag.good (r : RawTag) : Option TagData :=
  match r.stageType with
  | none => none
  | some st =>
    if r.serial = 0 then none
    else some
      { serial := r.serial, stageType := st, c := max 1 r.capacity.toNat
        e := min 1000 r.efficiency.toNat, k := min 1000 r.restriction.toNat, washable := r.washable }

/-! ### The recent list (R94) -/

/-- An entry joins the list at its most recent end; at capacity the least recent is evicted first. -/
def State.addRecent (s : State) (e : RecentEntry) : State :=
  if Config.recentCapacity ≤ s.crd.recent.length then
    let kept := s.crd.recent.dropLast
    let t := match s.crd.recent.getLast? with
      | some old => s.postCartridge old.stage (.evicted old.serial)
      | none => s
    t.setCrd { t.crd with recent := e :: kept }
  else s.setCrd { s.crd with recent := e :: s.crd.recent }

def State.removeRecent (s : State) (serial : BitVec 32) : State :=
  s.setCrd { s.crd with recent := s.crd.recent.filter (fun e => e.serial != serial) }

def State.findRecent (s : State) (serial : BitVec 32) : Option RecentEntry :=
  s.crd.recent.find? (fun e => e.serial == serial)

/-- The outgoing account of a stage is taken into the list when it is TAGGED (R92, R93). -/
def State.keepOutgoing (s : State) (st : Stage) : State :=
  let a := s.fau.accounts.get st
  match a.serial with
  | some n => s.addRecent ⟨n, st, a.load, a.wash⟩
  | none => s

/-! ### Binding (R80, R82, R92 to R95) -/

/-- history-lost after a NEW binding: cleared when the slot was opened since start (R82). -/
def lostAfterNew (a : Account) (removed : Bool) : Bool := if removed then false else a.historyLost

/-- The FAU binds a new account and the CRD asks for a checkpoint of FILTERS and RECENT (R80, R95). -/
def State.bind (s : State) (st : Stage) (a : Account) (v : CartridgeValue) : State :=
  let t := s.setFau { s.fau with accounts := s.fau.accounts.set st a, dirty := true }
  (t.postCartridge st v).request ⟨false, true, true, false⟩

/-- The account of a LISTED binding (R80). It takes the entry's wash count whatever the tag says of washing,
where R64 keeps 0 for one that cannot be washed. DESIGN CHOICE (log 34), unsafe. -/
def listedAccount (tag : TagData) (e : RecentEntry) : Account :=
  { serial := some tag.serial, c := tag.c, e := tag.e, k := tag.k, washable := tag.washable
    load := min (2000 * tag.c) e.load, rem := 0, wash := e.wash, unverified := false, historyLost := false }

/-- The account of a NEW-TAGGED binding (R80). -/
def newTaggedAccount (tag : TagData) (lost : Bool) : Account :=
  { serial := some tag.serial, c := tag.c, e := tag.e, k := tag.k, washable := tag.washable
    load := 0, rem := 0, wash := 0, unverified := false, historyLost := lost }

/-- The account of a NEW-UNTAGGED binding (R80). -/
def newUntaggedAccount (u : UntaggedDefault) (lost : Bool) : Account :=
  { Account.fresh u lost with unverified := true }

/-- NEW-TAGGED (R92, 3). -/
def State.bindNewTagged (s : State) (st : Stage) (tag : TagData) : State :=
  let a := s.fau.accounts.get st
  (s.keepOutgoing st).bind st (newTaggedAccount tag (lostAfterNew a (s.slot st).removed)) .newTagged

/-- The binding of a TAGGED verdict (R92). The FORGOTTEN event of an entry of another stage names the entry's
stage type as its subject. DESIGN CHOICE (log 36), unsafe. -/
def State.bindTagged (s : State) (st : Stage) (tag : TagData) : State :=
  let a := s.fau.accounts.get st
  if a.serial = some tag.serial then s.postCartridge st .resumed
  else match s.findRecent tag.serial with
    | some e =>
      let t := s.removeRecent tag.serial
      if e.stage = st then (t.keepOutgoing st).bind st (listedAccount tag e) .listed
      else (t.postCartridge e.stage (.forgotten tag.serial)).bindNewTagged st tag
    | none => s.bindNewTagged st tag

/-- The binding of an UNTAGGED verdict (R93). -/
def State.bindUntagged (s : State) (st : Stage) : State :=
  let a := s.fau.accounts.get st
  match a.serial with
  | none => s.postCartridge st .resumed
  | some _ =>
    (s.keepOutgoing st).bind st
      (newUntaggedAccount (s.sst.settings.untagged.get st) (lostAfterNew a (s.slot st).removed)) .newUntagged

/-! ### Verdicts (R90, R91) -/

/-- The serial is that of another stage's current account (R90). -/
def State.serialElsewhere (s : State) (st : Stage) (serial : BitVec 32) : Bool :=
  (st != .pre && s.fau.accounts.pre.serial == some serial) ||
  (st != .carb && s.fau.accounts.carb.serial == some serial) ||
  (st != .fine && s.fau.accounts.fine.serial == some serial)

/-- The slot enters MISMATCH; a slot already there posts nothing again (R90, log 17). -/
def State.enterMismatch (s : State) (st : Stage) (c : MismatchCause) : State :=
  let x := s.slot st
  let t := s.setSlot st { x with state := .mismatch, cause := some c }
  if x.state = .mismatch then t.settle else (t.postCartridge st (.mismatch c)).settle

/-- A GOOD read is judged by the table of R90. A slot that becomes TAGGED has no mismatch cause any more. DESIGN
CHOICE (log 48), unsafe. -/
def State.judgeGood (s : State) (st : Stage) (tag : TagData) : State :=
  let s := s.setSlot st { s.slot st with fails := 0, tag := some tag }
  if tag.stageType ≠ st then s.enterMismatch st .wrongType
  else if s.serialElsewhere st tag.serial then s.enterMismatch st .duplicateSerial
  else ((s.setSlot st { s.slot st with state := .tagged, cause := none }).bindTagged st tag).settle

/-- The slot loses its cartridge (R87, R88): ABSENT, the removed mark and REMOVED. -/
def State.postRemoved (s : State) (st : Stage) : State :=
  (s.setSlot st { s.slot st with removed := true }).postCartridge st .removed

/-- A GOOD read (R90, R91). A TAGGED slot that reads another serial or type is taken as a removal, handed
on at once, followed by a verdict. -/
def State.goodRead (s : State) (st : Stage) (tag : TagData) : State :=
  match (s.slot st).state with
  | .identifying | .untagged | .mismatch => s.judgeGood st tag
  | .tagged =>
    if (s.fau.accounts.get st).serial = some tag.serial ∧ tag.stageType = st then
      s.setSlot st { s.slot st with fails := 0, tag := some tag }
    else
      let t := (s.setSlot st { s.slot st with state := .identifying, fails := 0 }).postRemoved st
      t.settle.judgeGood st tag
  | .empty | .settling => s

/-- A FAILED read (R90, R91). In MISMATCH it leaves the failed-read count as it was. DESIGN CHOICE (log 47),
unsafe. -/
def State.failedRead (s : State) (st : Stage) : State :=
  let x := s.slot st
  match x.state with
  | .identifying =>
    let t := s.setSlot st { x with fails := x.fails + 1 }
    if 3 ≤ x.fails + 1 then
      ((t.setSlot st { x with fails := 3, state := .untagged, cause := none }).bindUntagged st).settle
    else t
  | .tagged => s.setSlot st { x with fails := min 3 (x.fails + 1) }
  | .untagged | .mismatch | .empty | .settling => s

/-! ### Slot events -/

/-- The read times come round; a read begins when the slot's state is read (R89). -/
def SlotState.isRead : SlotState → Bool
  | .identifying | .tagged | .untagged | .mismatch => true
  | .empty | .settling => false

def State.tagReadTime (s : State) (st : Stage) : State :=
  s.expire (s.slot st).poll Config.pollCycleMs (fun t =>
    let x := t.slot st
    t.setSlot st { x with poll := some 0, reading := if x.state.isRead then some 0 else x.reading })

/-- The end of the tag read in progress of a slot (R89, R90). -/
def State.tagReadEnd (s : State) (st : Stage) (answer : Option RawTag) : State :=
  match (s.slot st).reading with
  | none => s
  | some _ =>
    let t := s.setSlot st { s.slot st with reading := none }
    match answer.bind RawTag.good with
    | some tag => t.goodRead st tag
    | none => t.failedRead st

/-- A read not ended after 80 ms is FAILED (R89). -/
def State.tagReadAbandon (s : State) (st : Stage) : State :=
  s.expire (s.slot st).reading Config.tagReadMs (fun t =>
    (t.setSlot st { t.slot st with reading := none }).failedRead st)

/-- The settle timer reaches 2 s (R88). It is stopped in IDENTIFYING. DESIGN CHOICE (log 59), unsafe. -/
def State.slotSettleEnd (s : State) (st : Stage) : State :=
  if (s.slot st).state = .settling then
    s.expire (s.slot st).settle Config.slotSettleMs (fun t =>
      t.setSlot st { t.slot st with state := .identifying, settle := none, fails := 0, tag := none, cause := none })
  else s

/-- An accepted closing of a slot switch (R88). -/
def State.slotClosed (s : State) (st : Stage) : State :=
  if (s.slot st).state = .empty then
    s.setSlot st { s.slot st with state := .settling, settle := some 0 }
  else s

/-- An accepted opening of a slot switch (R88). -/
def State.slotOpened (s : State) (st : Stage) : State :=
  let x := s.slot st
  let t := s.setSlot st { x with
    state := .empty, settle := none, fails := 0, reading := none, tag := none, cause := none }
  match x.state with
  | .tagged | .untagged | .mismatch => (t.postRemoved st).settle
  | .empty | .settling | .identifying => t

/-! ### Commands (R97 to R100) -/

def cmdResetFilter (s : State) (_p : Port) (pl : List Byte) : State × Reply :=
  match stageOf (arg1 pl 0) with
  | none => (s, ⟨.badArg, []⟩)
  | some st =>
    let a := s.fau.accounts.get st
    if !s.stagePresent st then (s, ⟨.notFound, []⟩)
    else if (s.slot st).state = .tagged ∧ a.washable = false then (s, ⟨.wrongState, []⟩)
    else
      let t := s.changeAccount st a.reset
      (t, ⟨.ok, enc1 a.reset.wash ++ enc1 (t.stageState st).code⟩)

def cmdSetStage (s : State) (_p : Port) (pl : List Byte) : State × Reply :=
  match stageOf (arg1 pl 0) with
  | none => (s, ⟨.badArg, []⟩)
  | some st =>
    if !s.stagePresent st then (s, ⟨.notFound, []⟩)
    else if (s.slot st).state = .tagged then (s, ⟨.wrongState, []⟩)
    else
      let c := clampTo 1 65535 (arg2 pl 1)
      let e := clampTo 0 1000 (arg2 pl 3)
      let k := clampTo 0 1000 (arg2 pl 5)
      (s.changeAccount st ((s.fau.accounts.get st).setParameters c.1 e.1 k.1),
        ⟨if c.2 || e.2 || k.2 then .adjusted else .ok, []⟩)

def cmdForgetCartridge (s : State) (_p : Port) (pl : List Byte) : State × Reply :=
  let serial := BitVec.ofNat 32 (arg4 pl 0)
  if serial = 0 then (s, ⟨.badArg, []⟩)
  else match s.findRecent serial with
    | none => (s, ⟨.notFound, []⟩)
    | some e =>
      (((s.removeRecent serial).postCartridge e.stage (.forgotten serial)).request (.single .recent),
        ⟨.ok, []⟩)

/-- Tag data as READ-CARTRIDGES returns it (Table 5-2). -/
def encTag : Option TagData → List Byte
  | none => encSerial none ++ encOpt1 none ++ encOpt2 none ++ encOpt2 none ++ encOpt2 none ++ encOptBool none
  | some t => encSerial (some t.serial) ++ enc1 t.stageType.code ++ enc2 t.c ++ enc2 t.e ++ enc2 t.k ++
      encBool t.washable

/-- A slot part of READ-CARTRIDGES (R100, R174). The binding is sent as one byte, TAGGED 0 and UNTAGGED 1, and the
serial after it. DESIGN CHOICE (log 46), unsafe. -/
def State.slotPart (s : State) (st : Stage) : List Byte :=
  let x := s.slot st
  let a := s.fau.accounts.get st
  enc1 x.state.code ++ encSet [(s.sfe.slots.get st).accepted] ++ enc1 x.fails ++ encTag x.tag ++
  encOpt1 (x.cause.map (·.code)) ++ encBool x.removed ++
  enc1 (if a.serial.isSome then 0 else 1) ++ encSerial a.serial

def encRecent (e : RecentEntry) : List Byte :=
  encSerial (some e.serial) ++ enc1 e.stage.code ++ enc4 e.load ++ enc1 e.wash

def cmdReadCartridges (s : State) (_p : Port) (pl : List Byte) : State × Reply :=
  match arg1 pl 0 with
  | 0 => (s, ⟨.ok, s.slotPart .pre⟩)
  | 1 => (s, ⟨.ok, s.slotPart .carb⟩)
  | 2 => (s, ⟨.ok, s.slotPart .fine⟩)
  | 3 => (s, ⟨.ok, s.crd.recent.flatMap encRecent⟩)
  | _ => (s, ⟨.badArg, []⟩)

end Sys2Proof.Machine
end

