-- ==== Sys2Proof/Machine/Tank.lean ====
section
/-! DEFINITION. The condensate controller (file 07): presence, the FULL flag, the pump-out sequence and its
commands. -/

namespace Sys2Proof.Machine

def State.method (s : State) : LevelMethod := s.sst.settings.terminals.method

def State.tankCfg (s : State) : TankConfig := s.sst.settings.tank

/-- A TANK event (R129, R133). -/
def State.postTank (s : State) (v : TankValue) : State := (s.postAll .tank).log (.tank v)

/-! ### Runs and phases (R137, R142, R143, R145, R147, R148) -/

/-- The level a phase begins with, in mL: the level held under PROBE, none for UNKNOWN, and absent under FLOATS
(R143, R146). -/
def State.phaseLevel (s : State) : Option Nat :=
  match s.level with
  | .ml n => some n
  | _ => none

/-- The record when a phase is entered; `floatHigh` is none under PROBE. Outside their own level method the
verify start level and the float closed in VERIFY are absent. DESIGN CHOICE (log 42), unsafe. -/
def Sequence.enter (q : Sequence) (ph : Phase) (lvl : Option Nat) (flow : Option Bool) (floatHigh : Option Bool) :
    Sequence :=
  { q with
    phase := some ph
    phaseStart := lvl
    lowest := match ph with | .verify => none | _ => lvl
    elapsed := some 0
    flow := match ph with | .prime => (if flow = some true then some 0 else none) | _ => none
    blockMark := match ph with | .transfer => lvl | _ => none
    blockElapsed := match ph with | .transfer => (if floatHigh.isNone then some 0 else none) | _ => none
    highRelease := match ph with | .transfer => (if floatHigh = some false then some 0 else none) | _ => none
    verifyStart := match ph with | .verify => lvl | _ => none
    floatClosed := match ph with | .verify => floatHigh | _ => none }

/-- FLOAT-HIGH's accepted level, absent under PROBE. -/
def State.floatHigh (s : State) : Option Bool :=
  match s.method with
  | .floats => some s.sfe.mf0.accepted
  | .probe => none

/-- The run enters a phase of its record `q`: the pump is on in PRIME and TRANSFER, off in VERIFY (R136). -/
def State.enterPhase (s : State) (q : Sequence) (ph : Phase) : State :=
  s.setCdc { s.cdc with
    seq := some (q.enter ph s.phaseLevel s.flowInput s.floatHigh)
    pump := match ph with | .verify => false | _ => true }

/-- A run begins (R137). -/
def State.beginRun (s : State) (q : Sequence) (ph : Phase) : State :=
  s.enterPhase { q with status := .running, condition := .none, abort := false, sample := some 0 } ph

/-- The volume above EMPTY (R138, R139). -/
def State.volumeAboveEmpty (s : State) : Nat :=
  match s.level with
  | .ml n => n - s.tankCfg.empty
  | _ => 0

/-- A new record with nothing moved yet; the volumes are absent under FLOATS (Table 7-4), and the fields of a phase
until one is entered, so that a NEW COMPLETE at once keeps none. DESIGN CHOICE (log 56), unsafe. -/
def State.newSequence (s : State) (origin : Origin) (target : Nat) : Sequence :=
  let vol (n : Nat) : Option Nat := match s.method with | .probe => some n | .floats => none
  { status := .running, phase := none, origin := origin, startLevel := s.level
    target := vol target, remaining := vol target, moved := vol 0, condition := .none
    phaseStart := none, lowest := none, elapsed := none, flow := none, blockMark := none
    blockElapsed := none, highRelease := none, verifyStart := none, floatClosed := none
    abort := false, sample := none }

/-- The level at which an automatic start comes (R138). -/
def State.levelStarts (s : State) : Bool :=
  match s.level with
  | .ml n => s.tankCfg.pumpStart ≤ n
  | .high | .full => true
  | .belowHigh | .unknown => false

/-- No sequence is RUNNING and none is STOPPED (R138). -/
def State.startFree (s : State) : Bool :=
  match s.cdc.seq with
  | none => true
  | some q => q.status == .complete

/-- The automatic start is examined (R138). -/
def State.autoStart (s : State) : State :=
  if s.tankCfg.drain = .pump ∧ s.cdc.presence = .present ∧ s.levelStarts = true ∧ s.startFree = true then
    s.beginRun (s.newSequence .auto s.volumeAboveEmpty) .prime
  else s

/-- The record when a run ends (R149). Block elapsed becomes absent with the end, while the block mark stays. DESIGN
CHOICE (log 56), unsafe. -/
def Sequence.ended (q : Sequence) (st : SeqStatus) (c : Condition) : Sequence :=
  { q with status := st, condition := c, elapsed := none, flow := none, blockElapsed := none
           highRelease := none, sample := none }

/-- The end of a run is posted: PUMP, and PUMP-RESULT with the phase and COMPLETE or the condition (R149). After a
COMPLETE run under FLOATS the conditions of R138 alone decide on the automatic start, so a level FULL by FLOAT-FULL
starts the next run at once. DESIGN CHOICE (log 50), unsafe. -/
def State.endRun (s : State) (q : Sequence) (st : SeqStatus) (c : Condition) : State :=
  let t := s.setCdc { s.cdc with seq := some (q.ended st c), pump := false }
  let t := (t.postAll .pump).log (.pumpResult q.phase c)
  if st = .complete then t.autoStart else t

/-! ### The FULL flag (R132, R133) -/

/-- The FULL flag after a derivation; `entry` is the fresh derivation on entry to PRESENT. -/
def State.nextFull (s : State) (entry : Bool) : Bool :=
  if s.cdc.presence ≠ .present then false
  else match s.method with
    | .probe => match s.level with
      | .ml n => if s.tankCfg.full ≤ n then true else if n ≤ s.tankCfg.resume then false
                 else entry || s.cdc.full
      | _ => true
    | .floats => match s.level with
      | .full | .unknown => true
      | _ => if s.cdc.released then false else entry || s.cdc.full

/-- The FULL flag is derived; a change while PRESENT posts TANK (R133). -/
def State.deriveFull (s : State) (entry : Bool) : State :=
  let f := s.nextFull entry
  let t := s.setCdc { s.cdc with full := f }
  if s.cdc.presence = .present ∧ f ≠ s.cdc.full then t.postTank (if f then .full else .notFull) else t

/-- The CDC takes a level, a release or a configuration: the FULL flag, then the automatic start (R130, R131). -/
def State.cdcTake (s : State) : State := (s.deriveFull false).autoStart

/-! ### Presence (R128, R129, R150) -/

/-- An accepted closing of TANKSW. -/
def State.tankClosed (s : State) : State :=
  if s.cdc.presence = .absent then
    s.setCdc { s.cdc with presence := .settling, settle := some 0 }
  else s

/-- A RUNNING sequence ends TANK-REMOVED (R150). -/
def State.tankRemovedStop (s : State) : State :=
  match s.cdc.seq with
  | some q => if q.status = .running then s.endRun q .stopped .tankRemoved else s
  | none => s

/-- An accepted opening of TANKSW. -/
def State.tankOpened (s : State) : State :=
  let was := s.cdc.presence
  let t := s.setCdc { s.cdc with presence := .absent, settle := none }
  if was = .present then ((t.deriveFull false).postTank .absent).tankRemovedStop.settle else t

/-- The tank's 2 s settling ends (R128, R129). The settle timer is stopped in PRESENT. DESIGN CHOICE (log 57), unsafe. -/
def State.tankSettleEnd (s : State) : State :=
  if s.cdc.presence = .settling then
    s.expire s.cdc.settle Config.tankSettleMs (fun t =>
      let t := (t.setCdc { t.cdc with presence := .present, settle := none }).postTank .present
      (t.deriveFull true).autoStart.settle)
  else s

/-- The FULL release timer reaches 5 s (R133), where it stands. DESIGN CHOICE (log 57), unsafe. -/
def State.fullRelease (s : State) : State :=
  if s.cdc.released then s
  else s.expire s.cdc.release Config.releaseMs (fun t =>
    (t.setCdc { t.cdc with released := true }).cdcTake.settle)

/-! ### Floats and flow (R131, R133, R142, R148) -/

/-- FLOAT-FULL's accepted level changed (R133). -/
def State.floatFullChanged (s : State) (closed : Bool) : State :=
  s.setCdc { s.cdc with release := if closed then none else some 0, released := false }

/-- FLOAT-HIGH's accepted level changed (R148). -/
def State.floatHighChanged (s : State) (closed : Bool) : State :=
  match s.cdc.seq with
  | some q =>
    if q.status ≠ .running then s
    else match q.phase with
      | some .transfer =>
        s.setCdc { s.cdc with seq := some { q with highRelease := if closed then none else some 0 } }
      | some .verify =>
        if closed then s.setCdc { s.cdc with seq := some { q with floatClosed := some true } } else s
      | _ => s
  | none => s

/-- PUMP-FLOW's accepted level changed (R142). -/
def State.flowChanged (s : State) (active : Bool) : State :=
  match s.cdc.seq with
  | some q =>
    if q.status = .running ∧ q.phase = some .prime then
      s.setCdc { s.cdc with seq := some { q with flow := if active then some 0 else none } }
    else s
  | none => s

/-! ### Phase timers and samples -/

/-- The record of the run in progress, if it is in phase `ph`. -/
def State.runIn (s : State) (ph : Phase) : Option Sequence :=
  match s.cdc.seq with
  | some q => if q.status = .running ∧ q.phase = some ph then some q else none
  | none => none

/-- A known sample counts its fall (R141). -/
def Sequence.countFall (q : Sequence) (n : Nat) : Sequence :=
  match q.lowest with
  | some low =>
    if n < low then
      { q with lowest := some n, moved := q.moved.map (· + (low - n)), remaining := q.remaining.map (· - (low - n)) }
    else q
  | none => q

/-- A sample in PRIME (R141, R142). -/
def State.samplePrime (s : State) (q : Sequence) (n : Nat) : State :=
  let q := q.countFall n
  match q.phaseStart with
  | some start => if n + 60 ≤ start then s.enterPhase q .transfer else s.setCdc { s.cdc with seq := some q }
  | none => s.setCdc { s.cdc with seq := some q }

/-- Progress: the block mark follows the lowest level (R143, 3). -/
def Sequence.progress (q : Sequence) : Sequence :=
  match q.lowest, q.blockMark with
  | some low, some mark => if low + 20 ≤ mark then { q with blockMark := some low, blockElapsed := some 0 } else q
  | _, _ => q

/-- Block elapsed has reached 15 s. -/
def Sequence.blocked (q : Sequence) : Bool :=
  match q.blockElapsed with
  | some e => Config.blockedMs ≤ e
  | none => false

/-- The sample is 100 mL or more over the lowest level (R143, 2). -/
def Sequence.backflow (q : Sequence) (n : Nat) : Bool :=
  match q.lowest with
  | some low => low + 100 ≤ n
  | none => false

/-- The record with a lowest level to judge a sample by. Where it is UNKNOWN, since TRANSFER was entered with
the level UNKNOWN, a free level stands for it and for the block mark (log 11). -/
def Sequence.withLowest (q : Sequence) (free : Nat) : Sequence :=
  match q.lowest with
  | some _ => q
  | none => { q with
      lowest := some (Config.unknownLevel free % 4001), blockMark := some (Config.unknownLevel free % 4001) }

/-- The counter of free values after the lowest level was needed. -/
def Sequence.freeAfter (q : Sequence) (free : Nat) : Nat := if q.lowest.isSome then free else free + 1

/-- A known sample in TRANSFER, judged in the order of R143. -/
def State.judgeTransfer (s : State) (q : Sequence) (n : Nat) : State :=
  let q := q.countFall n
  if q.remaining = some 0 ∨ n ≤ s.tankCfg.empty then s.enterPhase q .verify
  else if q.backflow n then s.endRun q .stopped .backflow
  else
    let q := q.progress
    if q.blocked then s.endRun q .stopped .blocked else s.setCdc { s.cdc with seq := some q }

/-- A known sample in TRANSFER (R143; log 11). -/
def State.sampleTransfer (s : State) (q : Sequence) (n : Nat) : State :=
  { s with free := q.freeAfter s.free }.judgeTransfer (q.withLowest s.free) n

/-- The sample timer expires: the level held is judged by the phase (R137, R141 to R146). Under FLOATS there
are no level samples (R147). -/
def State.pumpSampleTaken (s : State) : State :=
  match s.cdc.seq with
  | none => s
  | some q0 =>
    let q := { q0 with sample := some 0 }
    let t := s.setCdc { s.cdc with seq := some q }
    match s.method, q.phase, s.level with
    | .probe, some .prime, .ml n => t.samplePrime q n
    | .probe, some .transfer, .ml n => t.sampleTransfer q n
    | .probe, some .transfer, _ => if q.blocked then t.endRun q .stopped .blocked else t
    | _, _, _ => t

def State.pumpSample (s : State) : State :=
  match s.cdc.seq with
  | some q => if q.status = .running then s.expire q.sample Config.pumpSampleMs State.pumpSampleTaken else s
  | none => s

/-- The flow timer reaches 2 s: PRIME passes (R142, R147). -/
def State.flowTimerPass (s : State) : State :=
  match s.runIn .prime with
  | some q => s.expire q.flow Config.flowMs (fun t =>
      match t.cdc.seq with
      | some q => t.enterPhase q .transfer
      | none => t)
  | none => s

/-- PRIME under FLOATS without PUMP-FLOW passes by time and cannot fail (R147). -/
def State.primeByTime (s : State) : Bool := s.method == .floats && s.flowInput.isNone

/-- 20 s of PRIME without a pass (R142, R147). -/
def State.primeTimeout (s : State) : State :=
  match s.runIn .prime with
  | some q =>
    if s.primeByTime then s
    else s.expire q.elapsed Config.primeMs (fun t =>
      match t.cdc.seq with
      | some q => t.endRun q .stopped .noPrime
      | none => t)
  | none => s

/-- 10 s of PRIME under FLOATS without PUMP-FLOW (R147). -/
def State.primeFloatsTimePass (s : State) : State :=
  match s.runIn .prime with
  | some q =>
    if s.primeByTime then s.expire q.elapsed Config.primeFloatsMs (fun t =>
      match t.cdc.seq with
      | some q => t.enterPhase q .transfer
      | none => t)
    else s
  | none => s

/-- 300 s of TRANSFER without an end (R144, R148). -/
def State.transferTimeout (s : State) : State :=
  match s.runIn .transfer with
  | some q => s.expire q.elapsed Config.transferMs (fun t =>
      match t.cdc.seq with
      | some q => t.endRun q .stopped .timeout
      | none => t)
  | none => s

/-- The high release timer reaches 40 s (R148). -/
def State.highReleaseEnd (s : State) : State :=
  match s.runIn .transfer with
  | some q => s.expire q.highRelease Config.highReleaseMs (fun t =>
      match t.cdc.seq with
      | some q => t.enterPhase q .verify
      | none => t)
  | none => s

/-- VERIFY's verdict (R145 under PROBE, R148 under FLOATS). -/
def State.verifyPasses (s : State) (q : Sequence) : Bool :=
  match s.method with
  | .floats => q.floatClosed != some true
  | .probe => match s.level, q.verifyStart with
    | .ml n, some start => n ≤ s.tankCfg.empty + 100 && n ≤ start + 50
    | _, _ => false

/-- 10 s of VERIFY (R145, R148). -/
def State.verifyEnd (s : State) : State :=
  match s.runIn .verify with
  | some q => s.expire q.elapsed Config.verifyMs (fun t =>
      match t.cdc.seq with
      | some q => if t.verifyPasses q then t.endRun q .complete .none else t.endRun q .stopped .checkFailed
      | none => t)
  | none => s

/-! ### Commands (R139, R140, R151, R152) -/

/-- A sequence is RUNNING. -/
def State.pumping (s : State) : Bool :=
  match s.cdc.seq with
  | some q => q.status == .running
  | none => false

/-- No pump-out may begin: tank not PRESENT, drain mode BUCKET, or level UNKNOWN (R139, R140). -/
def State.pumpUnready (s : State) : Bool :=
  s.cdc.presence != .present || s.tankCfg.drain == .bucket || !s.level.known

/-- The status and target a NEW answers (R139, log 12); under FLOATS the absent target is sent as 0xFFFF.
DESIGN CHOICE (log 41), unsafe. -/
def newReply (st : Status) (q : Option Sequence) : Reply :=
  match q with
  | some q => ⟨st, enc1 q.status.code ++ encOpt2 q.target⟩
  | none => ⟨st, []⟩

/-- PUMP-OUT NEW with its maximum volume (R139). -/
def State.pumpOutNew (s : State) (p : Port) (max : Option Nat) : State × Reply :=
  if max = some 0 then (s, ⟨.badArg, []⟩)
  else if s.pumping then (s, ⟨.busy, []⟩)
  else if s.pumpUnready then (s, ⟨.wrongState, []⟩)
  else
    let status : Status := match max with | some m => if 4000 < m then .adjusted else .ok | none => .ok
    let target := match max with
      | some m => min (min 4000 m) s.volumeAboveEmpty
      | none => s.volumeAboveEmpty
    let q := s.newSequence (.port p) target
    let t := match s.method with
      | .floats => s.beginRun q .prime
      | .probe => if target = 0 then s.endRun q .complete .none else s.beginRun q .prime
    (t, newReply status t.cdc.seq)

/-- PUMP-OUT RESUME (R140). -/
def State.pumpOutResume (s : State) : State × Reply :=
  match s.cdc.seq with
  | some q => match q.status with
    | .running => (s, ⟨.busy, []⟩)
    | .complete => (s, ⟨.notFound, []⟩)
    | .stopped =>
      if s.pumpUnready then (s, ⟨.wrongState, []⟩)
      else (s.beginRun q (q.phase.getD .prime), ⟨.ok, []⟩)
  | none => (s, ⟨.notFound, []⟩)

/-- A PUMP-OUT frame after its port checks: variants (R139, R140, Table 9-8). -/
def cmdPumpOut (s : State) (p : Port) (pl : List Byte) : State × Reply :=
  match arg1 pl 0 with
  | 0 => s.pumpOutNew p (if pl.length = 3 then some (arg2 pl 1) else none)
  | 1 => if pl.length = 3 then (s, ⟨.badArg, []⟩) else s.pumpOutResume
  | _ => (s, ⟨.badArg, []⟩)

/-- The status and phase an abort answers (R151). -/
def abortReply (q : Sequence) : Reply := ⟨.ok, enc1 q.status.code ++ encOpt1 (q.phase.map (·.code))⟩

/-- PUMP-ABORT (R151). One answered NOT-FOUND carries no status and phase. DESIGN CHOICE (log 55), unsafe. -/
def cmdPumpAbort (s : State) (_p : Port) (_pl : List Byte) : State × Reply :=
  match s.cdc.seq with
  | some q =>
    if q.status = .running then
      if q.phase = some .verify then
        let q' := { q with abort := true }
        (s.setCdc { s.cdc with seq := some q' }, abortReply q')
      else (s.endRun q .stopped .aborted, abortReply (q.ended .stopped .aborted))
    else (s, ⟨.notFound, []⟩)
  | none => (s, ⟨.notFound, []⟩)

/-- The TANK part (Table 9-13). On is the first value of the pump drive. The byte of the float levels is 0x00
under PROBE. DESIGN CHOICE (log 43), unsafe. -/
def State.tankPart (s : State) : List Byte :=
  let c := s.cdc
  let floats := s.method == .floats
  enc1 c.presence.code ++ encTimer c.settle ++ enc1 s.method.code ++ encOpt2 s.level.code ++
  encSet [floats && s.sfe.mf0.accepted, floats && s.sfe.mf1.accepted] ++ encTimer c.release ++
  encBool c.full ++ encOptBool s.flowInput ++ encFirst c.pump ++
  enc1 s.tankCfg.drain.code ++ enc2 s.tankCfg.empty ++ enc2 s.tankCfg.pumpStart ++
  enc2 s.tankCfg.resume ++ enc2 s.tankCfg.full

/-- The SEQUENCE part (Table 9-13); under status none every later field is absent. -/
def sequencePart : Option Sequence → List Byte
  | none =>
    enc1 0 ++ encOpt1 none ++ encOpt1 none ++ encOpt2 none ++ encOpt2 none ++ encOpt2 none ++ encOpt2 none ++
    encOpt1 none ++ encOpt2 none ++ encOpt2 none ++ encOpt2 none ++ encOpt2 none ++ encOpt2 none ++
    encOpt2 none ++ encOpt2 none ++ encOpt2 none ++ encOptBool none ++ encOptBool none
  | some q =>
    enc1 q.status.code ++ encOpt1 (q.phase.map (·.code)) ++ enc1 q.origin.code ++ encOpt2 q.startLevel.code ++
    encOpt2 q.target ++ encOpt2 q.remaining ++ encOpt2 q.moved ++ enc1 q.condition.code ++
    encOpt2 q.phaseStart ++ encOpt2 q.lowest ++ encTimer q.elapsed ++ encTimer q.flow ++
    encOpt2 q.blockMark ++ encTimer q.blockElapsed ++ encTimer q.highRelease ++ encOpt2 q.verifyStart ++
    encOptBool q.floatClosed ++ encOptBool (if q.status = .running then some q.abort else none)

def cmdReadTank (s : State) (_p : Port) (pl : List Byte) : State × Reply :=
  match arg1 pl 0 with
  | 0 => (s, ⟨.ok, s.tankPart⟩)
  | 1 => (s, ⟨.ok, sequencePart s.cdc.seq⟩)
  | _ => (s, ⟨.badArg, []⟩)

end Sys2Proof.Machine
end

