-- ==== Sys2Proof/Machine/Demands.lean ====
section
/-! DEFINITION. The demand arbiter (file 02): the order of strength, resolution, the second timer and the
demand commands. -/

namespace Sys2Proof.Machine

/-! ### Order of strength and standings (R38, R39) -/

/-- Between equal ranks, SERVICE before PANEL before LINK (R38). -/
def portWeight : Port → Nat
  | .service => 2
  | .panel => 1
  | .link => 0

/-- `x` is at least as strong as an entry `y` that stands before it in arrival order (R38): higher rank, then
port order, then the newer. -/
def Demand.overtakes (x y : Demand) : Bool :=
  y.rank.num < x.rank.num || (x.rank.num == y.rank.num && portWeight y.origin ≤ portWeight x.origin)

/-- The strongest entry of a list in arrival order. -/
def strongest : List Demand → Option Demand
  | [] => none
  | x :: xs => match strongest xs with
    | none => some x
    | some y => if y.overtakes x then some y else some x

/-- Two entries have the same origin and slot; the table holds one at most (R23). -/
def Demand.sameKey (x y : Demand) : Bool := x.origin == y.origin && x.slot == y.slot

def Demand.ref (x : Demand) : DemandRef := ⟨x.origin, x.slot⟩

inductive DemandKind where
  | air | dry | quiet | halt
deriving DecidableEq, Repr

def Ask.kind : Ask → DemandKind
  | .air _ => .air
  | .dry _ => .dry
  | .quiet _ _ => .quiet
  | .halt => .halt

def ofKind (k : DemandKind) (t : List Demand) : List Demand := t.filter (fun e => e.ask.kind == k)

/-- The halting entry: the strongest HALT (R39). -/
def haltingEntry (t : List Demand) : Option Demand := strongest (ofKind .halt t)

/-- SUPPRESSED: of the halting entry's rank or below, and not that entry (R39). -/
def isSuppressed (t : List Demand) (e : Demand) : Bool :=
  match haltingEntry t with
  | none => false
  | some h => !e.sameKey h && e.rank.num ≤ h.rank.num

/-- The governing entry of a kind: its strongest unsuppressed entry (R39). -/
def governingEntry (t : List Demand) (k : DemandKind) : Option Demand :=
  strongest (ofKind k (t.filter (fun e => !isSuppressed t e)))

/-- The standing of an entry (R39). -/
def standingIn (t : List Demand) (e : Demand) : Standing :=
  if isSuppressed t e then .suppressed
  else match governingEntry t e.ask.kind with
    | some g => if e.sameKey g then .governing else .outranked
    | none => .outranked

/-- The plan content of a table (R40). -/
def planOf (t : List Demand) : Plan :=
  let air := governingEntry t .air
  let dry := governingEntry t .dry
  let quiet := governingEntry t .quiet
  let halt := haltingEntry t
  { air := air.bind (fun e => match e.ask with | .air a => some a | _ => none)
    ceiling := quiet.bind (fun e => match e.ask with | .quiet c _ => some c | _ => none)
    allowed := (quiet.bind (fun e => match e.ask with | .quiet _ b => some b | _ => none)).getD true
    dry := dry.bind (fun e => match e.ask with | .dry x => some x | _ => none)
    haltRank := halt.map (·.rank)
    haltRef := halt.map (·.ref)
    airRef := air.map (·.ref)
    dryRef := dry.map (·.ref)
    quietRef := quiet.map (·.ref) }

/-- Plan state ACTIVE (2.7). -/
def Plan.active (x : Plan) : Bool := x.air.isSome || x.dry.isSome

/-- The table is resolved (R37, R40, R41): standings, content, and on a change the version and PLAN. -/
def State.resolve (s : State) : State :=
  let t := s.dar.table
  let content := planOf t
  let t' := t.map (fun e => { e with standing := standingIn t e })
  if content = s.dar.plan then s.setDar { s.dar with table := t' }
  else (s.setDar { s.dar with table := t', plan := content, version := s.dar.version + 1 }).postAll .plan

/-- A change to the table is resolved once and handed on (R37, R41). -/
def State.resolveTable (s : State) (t : List Demand) : State :=
  ((s.setDar { s.dar with table := t }).resolve).settle

/-! ### Expiry (R30, R31) -/

def Demand.tick (e : Demand) : Demand := { e with remaining := e.remaining.map (· - 1) }

/-- Each removed entry sets EXPIRED on its origin and is logged, oldest first. -/
def State.reportDropped (s : State) (es : List Demand) (ev : DemandRef → Event) : State :=
  es.foldl (fun t e => (t.post e.origin .expired).log (ev e.ref)) s

/-- One expiry of the second timer (R30, R31). -/
def State.darSecond (s : State) : State :=
  let s := s.setDar { s.dar with second := some 0 }
  let t := s.dar.table.map Demand.tick
  let gone := t.filter (fun e => e.remaining = some 0)
  if gone.isEmpty then s.setDar { s.dar with table := t }
  else (s.reportDropped gone .demandExpired).resolveTable (t.filter (fun e => e.remaining ≠ some 0))

def State.darSecondTimer (s : State) : State := s.expire s.dar.second Config.darSecondMs State.darSecond

/-! ### PUT-DEMAND (R21 to R25, R182) -/

/-- An argument read and clamped: refused, or taken with whether a value was clamped. -/
inductive Checked (α : Type) where
  | bad
  | taken (x : α) (clamped : Bool)
deriving DecidableEq, Repr

/-- The kind and argument of a PUT-DEMAND (R21, R182). -/
def askOf (pl : List Byte) : Checked Ask :=
  match arg1 pl 1 with
  | 0 => match arg1 pl 2 with
    | 0 => if arg1 pl 3 = 0 then .bad
           else .taken (.air (.step (min 10 (arg1 pl 3)))) (decide (10 < arg1 pl 3))
    | 1 => .taken (.air .auto) false
    | _ => .bad
  | 1 => match arg1 pl 2 with
    | 0 => .taken (.dry (.percent (clampTo 30 80 (arg1 pl 3)).1)) (clampTo 30 80 (arg1 pl 3)).2
    | 1 => .taken (.dry .continuous) false
    | _ => .bad
  | 2 => match yesNoOf (arg1 pl 3) with
    | some b => if arg1 pl 2 = 0 then .bad
                else .taken (.quiet (min 10 (arg1 pl 2)) b) (decide (10 < arg1 pl 2))
    | none => .bad
  | 3 => .taken .halt false
  | _ => .bad

/-- The duration field of a PUT-DEMAND: at byte 2 of a HALT, byte 4 otherwise; 0xFFFF for none (R182). -/
def durationOf (pl : List Byte) : Checked (Option Nat) :=
  let d := arg2 pl (if arg1 pl 1 = 3 then 2 else 4)
  if d = 0xFFFF then .taken none false
  else if d = 0 then .bad
  else .taken (some (60 * min 1440 d)) (decide (1440 < d))

/-- The table after a PUT-DEMAND is taken: the port's entry in that slot leaves, the new one joins at the
newest end (R23, R24). -/
def putEntry (t : List Demand) (e : Demand) : List Demand := t.filter (fun x => !x.sameKey e) ++ [e]

/-- The standing of the entry of a port and slot after resolution (R25). -/
def State.standingAt (s : State) (p : Port) (slot : Nat) : Option Standing :=
  (s.dar.table.find? (fun e => e.origin == p && e.slot == slot)).map (·.standing)

def encVersion (s : State) : List Byte := enc2 s.dar.version.toNat

def cmdPutDemand (s : State) (p : Port) (pl : List Byte) : State × Reply :=
  if 3 < arg1 pl 1 then (s, ⟨.badArg, []⟩)
  else if 3 < arg1 pl 0 then (s, ⟨.badArg, []⟩)
  else match askOf pl, durationOf pl with
    | .taken ask c1, .taken rem c2 =>
      let e : Demand := ⟨p, arg1 pl 0, ask, rem, s.rank p, .outranked⟩
      let t := s.resolveTable (putEntry s.dar.table e)
      (t, ⟨if c1 || c2 then .adjusted else .ok,
           encVersion t ++ encOpt1 ((t.standingAt p (arg1 pl 0)).map (·.code))⟩)
    | _, _ => (s, ⟨.badArg, []⟩)

/-! ### CLEAR-DEMAND and CLEAR-ALL-DEMANDS (R26 to R28) -/

def cmdClearDemand (s : State) (p : Port) (pl : List Byte) : State × Reply :=
  let slot := arg1 pl 0
  if 3 < slot then (s, ⟨.badArg, []⟩)
  else if s.dar.table.any (fun e => e.origin == p && e.slot == slot) then
    let t := s.resolveTable (s.dar.table.filter (fun e => !(e.origin == p && e.slot == slot)))
    (t, ⟨.ok, encVersion t⟩)
  else (s, ⟨.notFound, []⟩)

/-- The entries a CLEAR-ALL-DEMANDS removes: those of one port, or all. -/
inductive ClearScope where
  | one (p : Port)
  | every
deriving DecidableEq, Repr

def ClearScope.covers (c : ClearScope) (e : Demand) : Bool :=
  match c with
  | .one p => e.origin == p
  | .every => true

/-- The scope a command names: its own port without an argument; none for an argument naming no port. -/
def scopeOf (p : Port) (pl : List Byte) : Option ClearScope :=
  if pl.isEmpty then some (.one p)
  else match arg1 pl 0 with
    | 3 => some .every
    | n => (portOf n).map .one

/-- All removals of one command, with a single resolution; entries of another port than SERVICE removed by
SERVICE are reported to their origin (R27, R28). -/
def State.clearAll (s : State) (p : Port) (c : ClearScope) : State × Reply :=
  let gone := s.dar.table.filter c.covers
  if gone.isEmpty then (s, ⟨.ok, enc1 0 ++ encVersion s⟩)
  else
    let told := gone.filter (fun e => e.origin != p)
    let t := (s.reportDropped told (fun r => .demandDropped r .serviceClear)).resolveTable
      (s.dar.table.filter (fun e => !c.covers e))
    (t, ⟨.ok, enc1 gone.length ++ encVersion t⟩)

def cmdClearAllDemands (s : State) (p : Port) (pl : List Byte) : State × Reply :=
  match scopeOf p pl with
  | none => (s, ⟨.badArg, []⟩)
  | some c =>
    if p = .service ∨ c = .one p then s.clearAll p c else (s, ⟨.notPermitted, []⟩)

/-! ### Rank changes (R34, R35) -/

/-- The ranks change: entries of a port taken to OFF are dropped, the others re-ranked, and the table is
resolved once if an entry changed. The new ranks are in force already. -/
def State.takeRanks (s : State) : State :=
  let gone := s.dar.table.filter (fun e => s.rank e.origin == .off)
  let kept := (s.dar.table.filter (fun e => s.rank e.origin != .off)).map
    (fun e => { e with rank := s.rank e.origin })
  if gone.isEmpty && kept == s.dar.table then s
  else
    let t := s.reportDropped gone (fun r => .demandDropped r .rankOff)
    (t.setDar { t.dar with table := kept }).resolve

/-! ### READ-PLAN and READ-DEMANDS (R42, R43, Tables 9-10 and 9-11) -/

/-- A governing reference or halt origin as port × 4 + slot; an absent one is 0xFF. DESIGN CHOICE (log 53), unsafe. -/
def encRef (r : Option DemandRef) : List Byte := encOpt1 (r.map (·.code))

/-- The plan record (Table 9-11). An absent air request or dry target is 0xFF. DESIGN CHOICE (log 53), unsafe. -/
def planPart (s : State) : List Byte :=
  let x := s.dar.plan
  encVersion s ++
  encSet [x.active, x.haltRef.isSome, x.allowed, x.air.isSome, x.ceiling.isSome, x.dry.isSome] ++
  encOpt1 (x.air.map (·.code)) ++ encOpt1 x.ceiling ++ encOpt1 (x.dry.map (·.code)) ++
  encOpt1 (x.haltRank.map (·.num)) ++ encRef x.haltRef ++
  encRef x.airRef ++ encRef x.dryRef ++ encRef x.quietRef

def cmdReadPlan (s : State) (_p : Port) (_pl : List Byte) : State × Reply := (s, ⟨.ok, planPart s⟩)

/-- Kind and argument in seven bits (Table 9-10). -/
def Ask.code : Ask → Nat
  | .halt => 0x00
  | .air a => a.code
  | .quiet c true => 0x10 + c
  | .quiet c false => 0x20 + c
  | .dry (.percent t) => 0x40 + (t - 30)
  | .dry .continuous => 0x73

/-- Remaining in whole minutes, rounded up; 0 without remaining (R43, Table 9-10). -/
def Demand.minutes (e : Demand) : Nat :=
  match e.remaining with
  | none => 0
  | some r => (r + 59) / 60

def encDemand (e : Demand) : List Byte :=
  let m := e.minutes
  enc1 (e.origin.code * 64 + e.slot * 16 + e.standing.code * 4 + m / 256 % 4) ++
  enc1 (m / 1024 % 2 * 128 + e.ask.code) ++ enc1 (m % 256)

def encRanks (r : PerPort Rank) : List Byte :=
  enc1 (r.panel.num + 4 * r.link.num + 16 * r.service.num)

def cmdReadDemands (s : State) (_p : Port) (_pl : List Byte) : State × Reply :=
  (s, ⟨.ok, encVersion s ++ encRanks s.sst.settings.ports ++ s.dar.table.flatMap encDemand⟩)

end Sys2Proof.Machine
end

