-- ==== Sys2Proof/Machine/Airflow.lean ====
section
/-! DEFINITION. The airflow controller (file 03): curve banks, the regulation boundary, stalls, and its
commands. -/

namespace Sys2Proof.Machine

/-! ### Curve banks (R45 to R47) -/

/-- Duty and Qnom do not decrease from one step to the next. -/
def Bank.ordered : Bank → Bool
  | x :: y :: rest => x.duty ≤ y.duty && x.qnom ≤ y.qnom && Bank.ordered (y :: rest)
  | _ => true

/-- The entries clamped to 1000 ‰ and 600 m³/h (R46). -/
def Bank.clamped (b : Bank) : Bank := b.map (fun x => ⟨min 1000 x.duty, min 600 x.qnom⟩)

/-- Orders 3 to 5 of R46. -/
def Bank.acceptable (b : Bank) : Bool :=
  b.length == 11 &&
  (match b with
   | [] => false
   | x :: rest => x.duty == 0 && x.qnom == 0 && rest.all (fun y => y.duty != 0 && y.qnom != 0)) &&
  Bank.ordered b.clamped

/-- The four conditions every bank satisfies (R45). -/
def Bank.legal (b : Bank) : Bool := b.acceptable && b.clamped == b

def Afc.setBank (x : Afc) (n : BankName) (b : Bank) : Afc :=
  match n with
  | .a => { x with bankA := b }
  | .b => { x with bankB := b }

def cmdLoadCurve (s : State) (_p : Port) (pl : List Byte) : State × Reply :=
  match bankOf (arg1 pl 0) with
  | none => (s, ⟨.badArg, []⟩)
  | some n =>
    if n = s.afc.active ∨ s.afc.pendingBank = some n then (s, ⟨.wrongState, []⟩)
    else
      let b := curveOf pl 1
      if !b.acceptable then (s, ⟨.badArg, []⟩)
      else (s.setAfc (s.afc.setBank n b.clamped), ⟨if b.clamped = b then .ok else .adjusted, []⟩)

/-- The active bank and the pending bank, or none (R47). -/
def encBanks (x : Afc) : List Byte := enc1 x.active.code ++ encOpt1 (x.pendingBank.map (·.code))

/-- SELECT-CURVE (R47). A refusal, BUSY included, carries no banks. DESIGN CHOICE (log 45), unsafe. -/
def cmdSelectCurve (s : State) (_p : Port) (pl : List Byte) : State × Reply :=
  match bankOf (arg1 pl 0) with
  | none => (s, ⟨.badArg, []⟩)
  | some n =>
    if s.afc.pendingBank.isSome then (s, ⟨.busy, []⟩)
    else if n = s.afc.active then (s, ⟨.ok, encBanks s.afc⟩)
    else
      let x := { s.afc with pendingBank := some n }
      (s.setAfc x, ⟨.ok, encBanks x⟩)

/-! ### AUTO (R51, R52, Table 3-2) -/

def bandOf (pm : Nat) : Nat :=
  if pm ≤ 12 then 1 else if pm ≤ 35 then 2 else if pm ≤ 55 then 3 else if pm ≤ 150 then 4
  else if pm ≤ 250 then 5 else 6

/-- Lower bound less 3 (R52); band 1 has no threshold. -/
def fallThreshold : Nat → Nat
  | 2 => 10 | 3 => 33 | 4 => 53 | 5 => 148 | 6 => 248 | _ => 0

/-- The AUTO step of a band, 4 in FALLBACK (R51). -/
def autoStep : Option Nat → Nat
  | none => 4
  | some 1 => 1 | some 2 => 3 | some 3 => 5 | some 4 => 7 | some 5 => 9 | some _ => 10

/-- The AUTO state after a boundary (R51, R52). -/
def nextAuto (pm : Option Nat) (band : Option Nat) (fall : Timer) : Option Nat × Timer :=
  match pm, band with
  | none, _ => (none, none)
  | some v, none => (some (bandOf v), none)
  | some v, some b =>
    if b < bandOf v then (some (bandOf v), none)
    else if b ≤ 1 ∨ fallThreshold b ≤ v then (some b, none)
    else match fall with
      | none => (some b, some 0)
      | some e => if Config.autoFallMs ≤ e then (some (b - 1), none) else (some b, some e)

/-! ### The regulation boundary (R49) -/

/-- A FAN event (R57 to R59). -/
def State.postFan (s : State) (v : FanValue) : State := (s.postAll .fan).log (.fan v)

/-- A stall is detected: a stall with retry, or the latched fault at the third within 600 s (R57, R58). -/
def State.stallDetected (s : State) : State :=
  let h := s.afc.history.filter (fun t => decide (s.now - t ≤ Config.stallWindowMs)) ++ [s.now]
  let x := { s.afc with lowCount := 0, history := h }
  if 3 ≤ h.length then (s.setAfc { x with fault := true }).postFan .fault
  else (s.setAfc { x with stalled := true, stallOff := some 0 }).postFan .stall

/-- The period just ended was low-speed (R56). -/
def State.lowSpeed (s : State) : Bool := 150 ≤ s.afc.duty && s.sfe.tach.rpm < 200

/-- Step 1: the period just ended is judged (R56). -/
def State.judgeStall (s : State) : State :=
  if s.afc.stalled || s.afc.fault then s
  else if s.lowSpeed then
    if 3 ≤ s.afc.lowCount + 1 then s.stallDetected
    else s.setAfc { s.afc with lowCount := s.afc.lowCount + 1 }
  else s.setAfc { s.afc with lowCount := 0 }

/-- Step 2: a pending swap is applied (R48). -/
def State.applySwap (s : State) : State :=
  match s.afc.pendingBank with
  | none => s
  | some n =>
    (((s.setAfc { s.afc with active := n, pendingBank := none }).postAll .curve).log (.curve n)).publish

/-- Step 3: the AUTO step (R51, R52). -/
def State.updateAuto (s : State) : State :=
  let a := nextAuto s.pmA s.afc.band s.afc.fall
  s.setAfc { s.afc with band := a.1, fall := a.2 }

/-- The step the plan asks for (R53). -/
def State.planStep (s : State) : Nat :=
  match s.dar.plan.air with
  | some (.step n) => n
  | some .auto => autoStep s.afc.band
  | none => 0

/-- The plan's ceiling, 10 when none governs (R53). -/
def State.ceiling (s : State) : Nat := s.dar.plan.ceiling.getD 10

/-- The step drying needs (R53). -/
def State.needStep (s : State) : Nat :=
  match s.afc.need with
  | .none => 0
  | .floor => s.afc.floor.getD 10
  | .defrost => s.sst.settings.airflow.defrostStep

/-- The target step (R53, R54). -/
def State.targetStep (s : State) : Nat :=
  if s.requiredAbsent || s.afc.fault || s.afc.stalled then 0
  else max (min s.planStep s.ceiling) s.needStep

/-- Limited-by: the first case of R54 that holds. -/
def State.limitedBy (s : State) : LimitedBy :=
  if s.afc.fault then .fault
  else if s.afc.stalled then .stall
  else if s.requiredAbsent then .filter
  else if min s.planStep s.ceiling < s.needStep then .need
  else if s.ceiling < s.planStep then .ceiling
  else .none

/-- One step toward the target (R55). -/
def ramp (actual target : Nat) : Nat :=
  if actual < target then actual + 1 else if target < actual then actual - 1 else actual

/-- The duty for the actual step (R55). -/
def Afc.dutyNow (x : Afc) : Nat :=
  if x.stalled || x.fault then 0 else (Bank.point (x.bank x.active) x.actual).duty

/-- Steps 4 to 6 but Q: target, ramp and duty (R53 to R55). -/
def State.drive (s : State) : State :=
  let x := { s.afc with
    target := s.targetStep, limitedBy := s.limitedBy, actual := ramp s.afc.actual s.targetStep }
  s.setAfc { x with duty := x.dutyNow }

/-- A regulation boundary, in the order of R49; Q, the running change and the step are handed on at its end. -/
def State.boundary (s : State) : State :=
  ((s.setAfc { s.afc with regulation := some 0 }).judgeStall.applySwap.updateAuto.drive).settle

def State.regulationBoundary (s : State) : State := s.expire s.afc.regulation Config.regulationMs State.boundary

/-- The stall off-timer expires (R57). -/
def State.stallOffExpiry (s : State) : State :=
  s.expire s.afc.stallOff Config.stallOffMs (fun t =>
    (t.setAfc { t.afc with stalled := false, stallOff := none }).settle)

/-- The DRC's clear reaches the AFC (R59). -/
def State.clearFan (s : State) : State :=
  let t := s.setAfc { s.afc with history := [], lowCount := 0, fault := false }
  if s.afc.fault then t.postFan .cleared else t

/-! ### READ-AIRFLOW (R62, R174) -/

def State.airflowStatus (s : State) : List Byte :=
  let x := s.afc
  encBanks x ++ enc1 x.target ++ enc1 x.actual ++ enc2 x.duty ++ enc1 (autoStep x.band) ++
  enc1 (x.band.getD 0) ++ encTimer x.fall ++ enc1 x.limitedBy.code ++
  enc1 (if x.stalled then 1 else 0) ++ enc1 x.lowCount ++ enc1 x.history.length ++ encBool x.fault ++
  enc2 s.sfe.tach.rpm ++ enc2 s.fau.d ++ enc2 x.q ++ encOpt1 x.floor ++ enc1 x.need.code

def encCurve (b : Bank) : List Byte := b.flatMap (fun x => enc2 x.duty ++ enc2 x.qnom)

/-- A bank's entries, and whether it is active (0), pending (1) or neither (2) (log 12). -/
def bankPart (x : Afc) (n : BankName) : List Byte :=
  encCurve (x.bank n) ++ enc1 (if x.active = n then 0 else if x.pendingBank = some n then 1 else 2)

def cmdReadAirflow (s : State) (_p : Port) (pl : List Byte) : State × Reply :=
  match arg1 pl 0 with
  | 0 => (s, ⟨.ok, s.airflowStatus⟩)
  | 1 => (s, ⟨.ok, bankPart s.afc .a⟩)
  | 2 => (s, ⟨.ok, bankPart s.afc .b⟩)
  | _ => (s, ⟨.badArg, []⟩)

end Sys2Proof.Machine
end

