-- ==== Sys2Proof/Machine/Sensing.lean ====
section
/-! DEFINITION. The sensor front end (file 01): readings and their validity, the private bus, switch inputs, the
fan speed, and READ-SENSORS. -/

namespace Sys2Proof.Machine

/-- A SENSOR event: the flag on all ports and the record (R16). -/
def State.postSensor (s : State) (which : Sensor) (valid : Bool) : State :=
  (s.postAll .sensor).log (.sensor which valid)

/-- A value clamped to a range (0.6). -/
def clampInt (lo hi x : Int) : Int := max lo (min hi x)

/-! ### Particle input (R2, R3) -/

/-- The particle input after an accepted reading (R2). -/
def ParticleInput.accept (x : ParticleInput) (n : Nat) : ParticleInput :=
  { x with
    window := joinWindow Config.particleCapacity x.window (min 2000 n)
    last := some (min 2000 n), saturated := decide (2000 < n), wait := some 0 }

/-- A particle frame: a bad one is no reading, and a reading within the warm-up is discarded (R2, R3). -/
def State.particleFrame (s : State) (reading : Option Nat) : State :=
  match reading with
  | none => s
  | some n =>
    let x := s.sfe.particle
    if x.warmup.isSome then s
    else
      let t := s.setSfe { s.sfe with particle := x.accept n }
      if x.window.isEmpty then t.postSensor .particle true else t

def State.particleWarmupEnd (s : State) : State :=
  s.expire s.sfe.particle.warmup Config.warmupMs (fun t =>
    t.setSfe { t.sfe with particle := { t.sfe.particle with warmup := none } })

/-- 10 s without an accepted reading (R3). -/
def State.particleTimeout (s : State) : State :=
  s.expire s.sfe.particle.wait Config.readingWaitMs (fun t =>
    let x := t.sfe.particle
    let u := t.setSfe { t.sfe with particle := { x with window := [], saturated := false, wait := none } }
    if x.window.isEmpty then u else u.postSensor .particle false)

/-! ### The private bus (R4 to R6) -/

def State.setBus (s : State) (x : PrivateBus) : State := s.setSfe { s.sfe with bus := x }

/-- A failed room read (R6). -/
def State.roomFailed (s : State) : State :=
  let x := s.sfe.room
  if 3 ≤ x.fails + 1 then
    let t := s.setSfe { s.sfe with room := ⟨[], [], 0⟩ }
    (if x.rh.isEmpty then t else t.postSensor .room false).settle
  else s.setSfe { s.sfe with room := { x with fails := x.fails + 1 } }

/-- A successful room read (R6). -/
def State.roomGood (s : State) (r : RoomRead) : State :=
  let x := s.sfe.room
  let t := s.setSfe { s.sfe with room :=
    { rh := joinWindow Config.roomCapacity x.rh (clampInt 0 1000 r.rh)
      temp := joinWindow Config.roomCapacity x.temp (clampInt (-200) 600 r.temp)
      fails := 0 } }
  (if x.rh.isEmpty then t.postSensor .room true else t).settle

/-- A successful gas read (R5). -/
def State.gasGood (s : State) (n : Nat) : State :=
  let x := s.sfe.gas
  let t := s.setSfe { s.sfe with gas := ⟨joinWindow Config.gasCapacity x.window (min 500 n), some 0⟩ }
  if x.window.isEmpty then t.postSensor .gas true else t

/-- A gas transaction has ended: the room read follows it in an even second (R4). -/
def State.afterGas (s : State) : State :=
  let b := s.sfe.bus
  s.setBus (if b.roomDue then { b with roomDue := false, current := some .room, busy := some 0 }
            else { b with current := none, busy := none })

def State.busFree (s : State) : State := s.setBus { s.sfe.bus with current := none, busy := none }

/-- The transaction in progress fails (R4); a failed gas read on its own changes nothing (R5). -/
def State.busFailed (s : State) : State :=
  match s.sfe.bus.current with
  | none => s
  | some .gas => s.afterGas
  | some .room => s.busFree.roomFailed

/-- A whole second of the bus schedule: the gas read begins, and the room read follows it in an even one.
A transaction still in progress is abandoned as failed first (R4, log 16). -/
def State.busSecond (s : State) : State :=
  let t := match s.sfe.bus.current with
    | some .room => s.busFree.roomFailed
    | _ => s
  t.setBus { t.sfe.bus with
    second := some 0, roomDue := t.sfe.bus.nextEven, nextEven := !t.sfe.bus.nextEven
    current := some .gas, busy := some 0 }

def State.privateBusSecond (s : State) : State :=
  s.expire s.sfe.bus.second Config.busSecondMs State.busSecond

def State.busTransactionTimeout (s : State) : State :=
  s.expire s.sfe.bus.busy Config.busTransactionMs State.busFailed

/-- The gas read in progress ends (R4, R5). -/
def State.gasReadEnd (s : State) (index : Option Nat) : State :=
  if s.sfe.bus.current = some .gas then
    match index with
    | none => s.busFailed
    | some n => (s.gasGood n).afterGas
  else s

/-- 10 s without a successful gas read (R5). -/
def State.gasTimeout (s : State) : State :=
  s.expire s.sfe.gas.wait Config.readingWaitMs (fun t =>
    let x := t.sfe.gas
    let u := t.setSfe { t.sfe with gas := ⟨[], none⟩ }
    if x.window.isEmpty then u else u.postSensor .gas false)

/-- The room read in progress ends (R4, R6). -/
def State.roomReadEnd (s : State) (reading : Option RoomRead) : State :=
  if s.sfe.bus.current = some .room then
    match reading with
    | none => s.busFailed
    | some r => s.busFree.roomGood r
  else s

/-! ### Coil and probe conversions (R7 to R9) -/

def State.coilConversion (s : State) (t : Int) : State :=
  let x := s.sfe.coil
  if -300 ≤ t ∧ t ≤ 600 then
    let u := s.setSfe { s.sfe with coil := ⟨some t, 0⟩ }
    ((if x.temp.isNone then u.postSensor .coil true else u).coilReading t).settle
  else if 2 ≤ x.outCount + 1 then
    let u := s.setSfe { s.sfe with coil := ⟨none, 2⟩ }
    (if x.temp.isSome then u.postSensor .coil false else u).settle
  else s.setSfe { s.sfe with coil := { x with outCount := x.outCount + 1 } }

/-- The level published after a conversion goes to the CDC when it changed (R8, R130). -/
def State.levelPublished (s : State) (before : Option Nat) : State :=
  if s.probeLevel = before then s else s.cdcTake.settle

def State.probeConversion (s : State) (n : Int) : State :=
  if s.sst.settings.terminals.mf0 ≠ .probe then s
  else
    let x := s.sfe.probe
    if 0 ≤ n ∧ n ≤ 4000 then
      let u := s.setSfe { s.sfe with probe := ⟨joinWindow Config.probeCapacity x.window n.toNat, 0⟩ }
      (if x.window.isEmpty then u.postSensor .probe true else u).levelPublished s.probeLevel
    else if 3 ≤ x.outCount + 1 then
      let u := s.setSfe { s.sfe with probe := ⟨[], 0⟩ }
      (if x.window.isEmpty then u else u.postSensor .probe false).levelPublished s.probeLevel
    else s.setSfe { s.sfe with probe := { x with outCount := x.outCount + 1 } }

/-! ### Switch inputs (R10, R11) -/

def Pins.get (x : Pins) : Switch → Bool
  | .tanksw => x.tanksw
  | .slot st => x.slots.get st
  | .mf0 => x.mf0
  | .mf1 => x.mf1
  | .mf2 => x.mf2

def Pins.set (x : Pins) (sw : Switch) (b : Bool) : Pins :=
  match sw with
  | .tanksw => { x with tanksw := b }
  | .slot st => { x with slots := x.slots.set st b }
  | .mf0 => { x with mf0 := b }
  | .mf1 => { x with mf1 := b }
  | .mf2 => { x with mf2 := b }

/-- The steadiness wait after an edge to `level`: none when the terminal is back at the level accepted. -/
def SwitchInput.edge (x : SwitchInput) (level : Bool) : SwitchInput :=
  { x with steady := if x.first && x.accepted == level then none else some 0 }

/-- A terminal changes level (R10). The SFE follows it once it has started. -/
def State.switchInputEdge (s : State) (sw : Switch) (level : Bool) : State :=
  if s.pins.get sw = level then s
  else
    let t := s.setPins (s.pins.set sw level)
    if t.up && t.sst.settings.terminals.samples sw then
      t.setSfe (t.sfe.setSwitch sw ((t.sfe.switch sw).edge level))
    else t

/-- A float's accepted level reaches the CDC, the first one included (R131). -/
def State.floatTaken (s : State) (f : MfFunction) (level changed : Bool) : State :=
  let t := if !changed then s
    else if f = .floatFull then s.floatFullChanged level else s.floatHighChanged level
  t.cdcTake.settle

/-- The accepted level of a multi-function terminal reaches its owner (R10, R11). -/
def State.functionTaken (s : State) (f : MfFunction) (level changed : Bool) : State :=
  match f with
  | .floatHigh | .floatFull => s.floatTaken f level changed
  | .pumpFlow => if changed then s.flowChanged level else s
  | .powerFailWarn => if changed && level then s.request (.single .filters) else s
  | .none | .probe => s

/-- The accepted level of a switch input reaches its owner (R10). -/
def State.switchTaken (s : State) (sw : Switch) (level changed : Bool) : State :=
  match sw with
  | .tanksw => if !changed then s else if level then s.tankClosed else s.tankOpened
  | .slot st => if !changed then s else if level then s.slotClosed st else s.slotOpened st
  | .mf0 => s.functionTaken s.sst.settings.terminals.mf0 level changed
  | .mf1 => s.functionTaken s.sst.settings.terminals.mf1 level changed
  | .mf2 => s.functionTaken s.sst.settings.terminals.mf2 level changed

/-- 20 ms of steady level: it is accepted and handed on (R10). -/
def State.switchChangeAccepted (s : State) (sw : Switch) : State :=
  s.expire (s.sfe.switch sw).steady Config.steadyMs (fun t =>
    let level := t.pins.get sw
    (t.setSfe (t.sfe.setSwitch sw ⟨level, true, none⟩)).switchTaken sw level
      ((t.sfe.switch sw).accepted != level))

/-! ### Fan speed (R12) -/

def State.fantachPulse (s : State) : State :=
  s.setSfe { s.sfe with tach := { s.sfe.tach with count := s.sfe.tach.count + 1 } }

def State.fanSpeedWindowEnd (s : State) : State :=
  s.expire s.sfe.tach.window Config.tachWindowMs (fun t =>
    t.setSfe { t.sfe with tach := ⟨0, some 0, min 9999 (t.sfe.tach.count * 15)⟩ })

/-! ### READ-SENSORS (R17; log 12, log 25) -/

/-- The fields READ-SENSORS returns (R17). The probe level is sent as 0xFFFF while it is UNKNOWN and while it is
absent. DESIGN CHOICE (log 44), unsafe. -/
def State.sensorsPart (s : State) : List Byte :=
  let x := s.sfe
  let tm := s.sst.settings.terminals
  encOpt2 s.pmA ++ encOpt2 (if s.pmA.isSome then x.particle.last else none) ++ encBool x.particle.saturated ++
  encBool s.pmA.isSome ++ encBool x.particle.warmup.isSome ++
  encOpt2 s.va ++ encBool s.va.isSome ++
  encTenths s.rh ++ encTenths s.roomTemp ++ encBool s.rh.isSome ++
  encTenths x.coil.temp ++ encBool x.coil.temp.isSome ++
  encOpt2 s.probeLevel ++ enc2 x.tach.rpm ++
  encSet [x.tanksw.accepted, x.slots.pre.accepted, x.slots.carb.accepted, x.slots.fine.accepted] ++
  encOptBool (s.functionLevel .floatHigh) ++ encOptBool (s.functionLevel .floatFull) ++
  encOptBool (s.functionLevel .pumpFlow) ++ encOptBool (s.functionLevel .powerFailWarn) ++
  enc1 tm.mf0.code ++ enc1 tm.mf1.code ++ enc1 tm.mf2.code ++ enc1 tm.method.code

def cmdReadSensors (s : State) (_p : Port) (_pl : List Byte) : State × Reply := (s, ⟨.ok, s.sensorsPart⟩)

end Sys2Proof.Machine
end

