-- ==== Sys2Proof/Machine/TrendLog.lean ====
section
/-! DEFINITION. The trend log (file 08): the minute SAMPLE, the encoding of records, and the reader commands. The
write of a record stands in Ops. -/

namespace Sys2Proof.Machine

/-! ### The minute timer (R155, R156) -/

def State.sampleWear (s : State) (st : Stage) : Option Nat :=
  if s.stagePresent st then some (s.fau.accounts.get st).wear else none

/-- The level of a SAMPLE: absent under FLOATS and while UNKNOWN (R156). -/
def State.sampleLevel (s : State) : Option Nat :=
  match s.level with
  | .ml n => some n
  | _ => none

/-- The values a SAMPLE takes (R156). -/
def State.sample (s : State) : Sample :=
  { pm := s.pmA, v := s.va, rh := s.rh, room := s.roomTemp, coil := s.sfe.coil.temp
    step := s.afc.actual, q := s.afc.q, drying := s.drc.state, level := s.sampleLevel
    wear := ⟨s.sampleWear .pre, s.sampleWear .carb, s.sampleWear .fine⟩ }

/-- The minute timer expires: the uptime counts, then the SAMPLE is written (R155). -/
def State.minute (s : State) : State :=
  (s.setTlg { s.tlg with minute := some 0, uptime := s.tlg.uptime + 1 }).write (.sample s.sample)

def State.minuteTimer (s : State) : State := s.expire s.tlg.minute Config.minuteMs State.minute

/-! ### Record encodings (Table 9-14) -/

def Sensor.code : Sensor → Nat
  | .particle => 0 | .gas => 1 | .room => 2 | .coil => 3 | .probe => 4

def regionCode : Region → Nat
  | .config => 0 | .filters => 1 | .recent => 2 | .lockout => 3

def DropCause.code : DropCause → Nat
  | .serviceClear => 0 | .rankOff => 1

/-- The FILTER-STATE value: the list of Table 8-1 begins with FRESH. A stage never enters it as ABSENT (R67). -/
def filterValueCode : StageState → Option Nat
  | .absent => none
  | .fresh => some 0 | .serviceable => some 1 | .worn => some 2 | .exhausted => some 3

def CartridgeValue.code : CartridgeValue → Nat
  | .removed => 0
  | .mismatch .wrongType => 1
  | .mismatch .duplicateSerial => 2
  | .resumed => 3 | .listed => 4 | .newTagged => 5 | .newUntagged => 6
  | .evicted _ => 7
  | .forgotten _ => 8

def CartridgeValue.serial : CartridgeValue → List Byte
  | .evicted n => enc4 n.toNat
  | .forgotten n => enc4 n.toNat
  | _ => []

def TankValue.code : TankValue → Nat
  | .present => 0 | .absent => 1 | .full => 2 | .notFull => 3

def DefrostValue.code : DefrostValue → Nat
  | .frost => 0 | .forced => 1 | .success => 2 | .timeout => 3

def FanValue.code : FanValue → Nat
  | .stall => 0 | .fault => 1 | .cleared => 2

def StoreValue.code : StoreValue → Nat
  | .replaced => 0 | .writeFailed => 1

def ResetKind.code : ResetKind → Nat
  | .powerOn => 0 | .resetn => 1 | .restart => 2

/-- The code byte of an event: 1 to 14 in the order of Table 8-1. -/
def Event.code : Event → Nat
  | .demandExpired _ => 1
  | .demandDropped _ _ => 2
  | .filterState _ _ => 3
  | .cartridge _ _ => 4
  | .tank _ => 5
  | .pumpResult _ _ => 6
  | .lockout _ => 7
  | .lockoutCleared _ => 8
  | .defrost _ => 9
  | .fan _ => 10
  | .sensor _ _ => 11
  | .curve _ => 12
  | .store _ _ => 13
  | .restart _ => 14

def Event.subject : Event → Option Nat
  | .demandExpired r => some r.code
  | .demandDropped r _ => some r.code
  | .filterState st _ => some st.code
  | .cartridge st _ => some st.code
  | .pumpResult ph _ => ph.map (·.code)
  | .sensor x _ => some x.code
  | .store r _ => some (regionCode r)
  | _ => none

def Event.value : Event → Option Nat
  | .demandExpired _ => none
  | .demandDropped _ c => some c.code
  | .filterState _ v => filterValueCode v
  | .cartridge _ v => some v.code
  | .tank v => some v.code
  | .pumpResult _ v => some v.code
  | .lockout r => some r.code
  | .lockoutCleared r => some r.code
  | .defrost v => some v.code
  | .fan v => some v.code
  | .sensor _ valid => some (if valid then 0 else 1)
  | .curve bank => some bank.code
  | .store _ v => some v.code
  | .restart k => some k.code

def Event.tail : Event → List Byte
  | .cartridge _ v => v.serial
  | _ => []

/-- The marks of a SAMPLE's optional fields, lowest first. -/
def Sample.marks (x : Sample) : Nat :=
  let bits := [x.pm.isSome, x.v.isSome, x.rh.isSome, x.room.isSome, x.coil.isSome, x.level.isSome,
    x.wear.pre.isSome, x.wear.carb.isSome, x.wear.fine.isSome]
  bits.foldr (fun b n => (if b then 1 else 0) + 2 * n) 0

def encSample (x : Sample) : List Byte :=
  enc2 x.marks ++ encOpt2 x.pm ++ encOpt2 x.v ++ encTenths x.rh ++ encTenths x.room ++ encTenths x.coil ++
  enc1 x.step ++ enc2 x.q ++ enc1 x.drying.code ++ encOpt2 x.level ++
  encOpt2 x.wear.pre ++ encOpt2 x.wear.carb ++ encOpt2 x.wear.fine

def encRecord (r : TrendRecord) : List Byte :=
  match r.body with
  | .sample x => enc1 0 ++ enc4 r.seq.toNat ++ enc4 r.minute.toNat ++ encSample x
  | .event e => enc1 e.code ++ enc4 r.seq.toNat ++ enc4 r.minute.toNat ++ encOpt1 e.subject ++ encOpt1 e.value ++ e.tail

/-! ### Reader commands (R161 to R163) -/

/-- The record's kind is in the reader's join set. -/
def Reader.joins (r : Reader) (x : TrendRecord) : Bool :=
  match x.body with
  | .sample _ => r.joinSample
  | .event _ => r.joinEvent

/-- The records a READ-LOG takes, and how many it leaves unexamined: it examines them in order, skips what is
not joined, and stops before a joined one that no longer fits (R161). Records not joined that stand before such a one
are skipped too. DESIGN CHOICE (log 60), unsafe. -/
def examine (r : Reader) : Nat → List TrendRecord → List TrendRecord × Nat
  | _, [] => ([], 0)
  | room, x :: xs =>
    if r.joins x then
      if (encRecord x).length ≤ room then
        let y := examine r (room - (encRecord x).length) xs
        (x :: y.1, y.2)
      else ([], xs.length + 1)
    else examine r room xs

/-- The records from a reader's cursor to the newest. -/
def Tlg.unread (t : Tlg) (r : Reader) : List TrendRecord := t.ring.drop (t.ring.length - t.backlog r)

/-- A port's cursor moves: its marks follow the new backlog, and the marks crossed set their flags (R160). -/
def State.placeCursor (s : State) (p : Port) (cursor : BitVec 32) : State :=
  let r := s.tlg.readers.get p
  let b := s.tlg.backlog { r with cursor := cursor }
  (s.setTlg { s.tlg with readers := s.tlg.readers.set p ({ r with cursor := cursor }.remark b) }).raise
    (fun q => if q = p then r.crossed b else 0)

/-- The cursor and backlog of a port, as READ-LOG and SET-CURSOR answer them (R161, R162). SET-CURSOR sends the backlog
in 2 bytes, as R181 gives it for READ-LOG. DESIGN CHOICE (log 51), unsafe. -/
def State.cursorPart (s : State) (p : Port) : List Byte :=
  let r := s.tlg.readers.get p
  enc4 r.cursor.toNat ++ enc2 (s.tlg.backlog r)

def cmdReadLog (s : State) (p : Port) (_pl : List Byte) : State × Reply :=
  let r := s.tlg.readers.get p
  let y := examine r Config.logRoom (s.tlg.unread r)
  let t := s.placeCursor p (s.tlg.nextSeq - BitVec.ofNat 32 y.2)
  (t, ⟨.ok, y.1.flatMap encRecord ++ t.cursorPart p⟩)

/-- The oldest held sequence number; the next one while the ring is empty. -/
def Tlg.oldest (t : Tlg) : BitVec 32 := (t.ring.head?.map (·.seq)).getD t.nextSeq

def cmdSetCursor (s : State) (p : Port) (pl : List Byte) : State × Reply :=
  match arg1 pl 0 with
  | 0 => let t := s.placeCursor p s.tlg.oldest
         (t, ⟨.ok, t.cursorPart p⟩)
  | 1 => let t := s.placeCursor p s.tlg.nextSeq
         (t, ⟨.ok, t.cursorPart p⟩)
  | _ => (s, ⟨.badArg, []⟩)

/-- A port's join set takes a new value (R163). -/
def State.setJoin (s : State) (p : Port) (sample event : Bool) : State :=
  let r := s.tlg.readers.get p
  s.setTlg { s.tlg with readers := s.tlg.readers.set p { r with joinSample := sample, joinEvent := event } }

def cmdSetLogJoin (s : State) (p : Port) (pl : List Byte) : State × Reply :=
  match arg1 pl 0 with
  | 1 => (s.setJoin p true false, ⟨.ok, enc1 1⟩)
  | 2 => (s.setJoin p false true, ⟨.ok, enc1 2⟩)
  | 3 => (s.setJoin p true true, ⟨.ok, enc1 3⟩)
  | _ => (s, ⟨.badArg, []⟩)

/-! ### The log's start (R164) -/

/-- The reader at the start: cursor at the oldest, both kinds, marks from the backlog. -/
def Tlg.startReader (t : Tlg) : Reader :=
  { cursor := t.oldest, joinSample := true, joinEvent := true
    m64 := decide (64 ≤ t.ring.length), m128 := decide (128 ≤ t.ring.length), m192 := decide (192 ≤ t.ring.length) }

/-- The log starts: the RESTART record, then the readers and their marks, whose flags are set (R164). The
discard of this write passes no cursor, since the readers start after it. -/
def State.startLog (s : State) : State :=
  let t := { s.tlg with ring := s.tlg.pushed (.event (.restart s.kind)), nextSeq := s.tlg.nextSeq + 1, minute := some 0 }
  let r := t.startReader
  (s.setTlg { t with readers := ⟨r, r, r⟩ }).raise (fun _ => Reader.idle.crossed t.ring.length)

end Sys2Proof.Machine
end

