-- ==== Sys2Proof/Machine/Settings.lean ====
section
/-! DEFINITION. The configuration (file 10, 10.2): its checks, WRITE-CONFIG and READ-CONFIG. -/

namespace Sys2Proof.Machine

/-! ### Coded choices (R184) -/

def rankOf : Nat → Option Rank
  | 0 => some .off
  | 1 => some .r1
  | 2 => some .r2
  | 3 => some .r3
  | _ => none

def functionOf : Nat → Option MfFunction
  | 0 => some .none
  | 1 => some .probe
  | 2 => some .floatHigh
  | 3 => some .floatFull
  | 4 => some .pumpFlow
  | 5 => some .powerFailWarn
  | _ => none

def methodOf : Nat → Option LevelMethod
  | 0 => some .probe
  | 1 => some .floats
  | _ => none

def drainOf : Nat → Option DrainMode
  | 0 => some .bucket
  | 1 => some .pump
  | _ => none

def policyOf : Nat → Option StartFailPolicy
  | 0 => some .retry
  | 1 => some .lockout
  | _ => none

/-! ### Checks (R14, R19, R45, R83, R135, R183) -/

/-- The checks of R14. -/
def Terminals.ok (t : Terminals) : Bool :=
  (t.mf0 == .probe || t.mf0 == .floatHigh || t.mf0 == .none) &&
  (t.mf1 == .floatFull || t.mf1 == .pumpFlow || t.mf1 == .none) &&
  (t.mf2 == .pumpFlow || t.mf2 == .powerFailWarn || t.mf2 == .none) &&
  !(t.mf1 == .pumpFlow && t.mf2 == .pumpFlow) &&
  (match t.method with
   | .probe => t.mf0 == .probe && t.mf1 != .floatFull
   | .floats => t.mf0 == .floatHigh && t.mf1 == .floatFull)

/-- EMPTY < PUMP-START < RESUME ≤ FULL − 200 (R135). -/
def TankConfig.ordered (t : TankConfig) : Bool :=
  t.empty < t.pumpStart && t.pumpStart < t.resume && t.resume + 200 ≤ t.full

def within (lo hi x : Nat) : Bool := lo ≤ x && x ≤ hi

/-- The ranges of Table 7-2. -/
def TankConfig.inRange (t : TankConfig) : Bool :=
  within 50 500 t.empty && within 500 2800 t.pumpStart && within 600 3400 t.resume && within 1000 3600 t.full

def AirflowConfig.inRange (x : AirflowConfig) : Bool :=
  within 1 6 x.dryMin && within 1 6 x.defrostStep && within 60 300 x.minCoil

def FiltersConfig.inRange (x : FiltersConfig) : Bool :=
  within 500 990 x.worn && within 1 20 x.washLimit && within 0 500 x.fallbackPm

def UntaggedDefault.inRange (x : UntaggedDefault) : Bool :=
  within 1 65535 x.c && within 0 1000 x.e && within 0 1000 x.k

/-- Every field of a CONFIG is one that R185 accepts without clamping (R183). -/
def Settings.valid (x : Settings) : Bool :=
  x.ports.service != .off && x.terminals.ok && x.tank.inRange && x.tank.ordered && x.airflow.inRange &&
  x.filters.inRange && x.untagged.pre.inRange && x.untagged.carb.inRange && x.untagged.fine.inRange &&
  x.curve.legal

/-! ### Reading a WRITE-CONFIG (R184, R185) -/

/-- The payload lengths of a WRITE-CONFIG group (R184). -/
def groupLength : Nat → Option Nat
  | 0 => some 4 | 1 => some 5 | 2 => some 10 | 3 => some 5
  | 4 => some 3 | 5 => some 6 | 6 => some 22 | 7 => some 45
  | _ => none

/-- PORTS: SERVICE given OFF is taken at rank 1 (R19). -/
def portsOf (cfg : Settings) (pl : List Byte) : Checked Settings :=
  match rankOf (arg1 pl 1), rankOf (arg1 pl 2), rankOf (arg1 pl 3) with
  | some a, some b, some c =>
    .taken { cfg with ports := ⟨a, b, if c = .off then .r1 else c⟩ } (decide (c = .off))
  | _, _, _ => .bad

def terminalsOf (cfg : Settings) (pl : List Byte) : Checked Settings :=
  match functionOf (arg1 pl 1), functionOf (arg1 pl 2), functionOf (arg1 pl 3), methodOf (arg1 pl 4) with
  | some a, some b, some c, some m =>
    let t : Terminals := ⟨a, b, c, m⟩
    if t.ok then .taken { cfg with terminals := t } false else .bad
  | _, _, _, _ => .bad

/-- TANK: the mark order is judged after the marks are clamped (R135). -/
def tankOf (cfg : Settings) (pl : List Byte) : Checked Settings :=
  match drainOf (arg1 pl 1) with
  | none => .bad
  | some d =>
    let e := clampTo 50 500 (arg2 pl 2)
    let p := clampTo 500 2800 (arg2 pl 4)
    let r := clampTo 600 3400 (arg2 pl 6)
    let f := clampTo 1000 3600 (arg2 pl 8)
    let t : TankConfig := ⟨d, e.1, p.1, r.1, f.1⟩
    if t.ordered then .taken { cfg with tank := t } (e.2 || p.2 || r.2 || f.2) else .bad

def airflowOf (cfg : Settings) (pl : List Byte) : Checked Settings :=
  let a := clampTo 1 6 (arg1 pl 1)
  let b := clampTo 1 6 (arg1 pl 2)
  let c := clampTo 60 300 (arg2 pl 3)
  .taken { cfg with airflow := ⟨a.1, b.1, c.1⟩ } (a.2 || b.2 || c.2)

/-- DRYING: the required stages are one byte with PRE lowest. -/
def dryingOf (cfg : Settings) (pl : List Byte) : Checked Settings :=
  match policyOf (arg1 pl 1) with
  | none => .bad
  | some p =>
    let r := arg1 pl 2
    if 7 < r then .bad
    else .taken { cfg with drying := ⟨p, ⟨r.testBit 0, r.testBit 1, r.testBit 2⟩⟩ } false

def filtersOf (cfg : Settings) (pl : List Byte) : Checked Settings :=
  let a := clampTo 500 990 (arg2 pl 1)
  let b := clampTo 1 20 (arg1 pl 3)
  let c := clampTo 0 500 (arg2 pl 4)
  .taken { cfg with filters := ⟨a.1, b.1, c.1⟩ } (a.2 || b.2 || c.2)

/-- One stage's untagged default from byte `i` on. -/
def untaggedAt (pl : List Byte) (i : Nat) : Checked UntaggedDefault :=
  match yesNoOf (arg1 pl (i + 6)) with
  | none => .bad
  | some w =>
    let c := clampTo 1 65535 (arg2 pl i)
    let e := clampTo 0 1000 (arg2 pl (i + 2))
    let k := clampTo 0 1000 (arg2 pl (i + 4))
    .taken ⟨c.1, e.1, k.1, w⟩ (c.2 || e.2 || k.2)

def untaggedOf (cfg : Settings) (pl : List Byte) : Checked Settings :=
  match untaggedAt pl 1, untaggedAt pl 8, untaggedAt pl 15 with
  | .taken a x, .taken b y, .taken c z => .taken { cfg with untagged := ⟨a, b, c⟩ } (x || y || z)
  | _, _, _ => .bad

/-- CURVE: orders 3 to 5 of R46. -/
def storedCurveOf (cfg : Settings) (pl : List Byte) : Checked Settings :=
  let b := curveOf pl 1
  if b.acceptable then .taken { cfg with curve := b.clamped } (b.clamped != b) else .bad

/-- The CONFIG that a WRITE-CONFIG gives, with its clamps, or a refusal with BAD-ARG (R185, 1, 3 and 4). -/
def configOf (cfg : Settings) (pl : List Byte) : Checked Settings :=
  match arg1 pl 0 with
  | 0 => portsOf cfg pl
  | 1 => terminalsOf cfg pl
  | 2 => tankOf cfg pl
  | 3 => airflowOf cfg pl
  | 4 => dryingOf cfg pl
  | 5 => filtersOf cfg pl
  | 6 => untaggedOf cfg pl
  | 7 => storedCurveOf cfg pl
  | _ => .bad

/-! ### Taking a CONFIG into force (R15, R34, R35, R83, R126, R135, R186) -/

/-- A switch input whose function was just taken up, or of a terminal with no switch function (R15). -/
def freshInput (f : MfFunction) : SwitchInput :=
  if f.isSwitch then ⟨false, false, some 0⟩ else .idle

/-- The switch inputs after a change of assignment: an unchanged terminal keeps its state (R15). -/
def Sfe.reassign (x : Sfe) (old new : Terminals) : Sfe :=
  { x with
    mf0 := if old.mf0 = new.mf0 then x.mf0 else freshInput new.mf0
    mf1 := if old.mf1 = new.mf1 then x.mf1 else freshInput new.mf1
    mf2 := if old.mf2 = new.mf2 then x.mf2 else freshInput new.mf2
    probe := if old.mf0 = new.mf0 then x.probe else ⟨[], 0⟩ }

/-- The FULL release timer under a method just taken up: FLOAT-FULL starts open (R133). -/
def startRelease (m : LevelMethod) : Timer :=
  match m with
  | .floats => some 0
  | .probe => none

/-- The CDC changes to the level method in force; a record of the old method is removed with PUMP (R135). -/
def State.takeMethod (s : State) : State :=
  let t := s.setCdc { s.cdc with release := startRelease s.method, released := false, seq := none }
  if s.cdc.seq.isSome then t.postAll .pump else t

/-- The assignment in force has changed from `old` (R15, R16). -/
def State.takeTerminals (s : State) (old : Terminals) : State :=
  let new := s.sst.settings.terminals
  let t := s.setSfe (s.sfe.reassign old new)
  let t := if s.probeLevel.isSome && t.probeLevel.isNone then t.postSensor .probe false else t
  if old.method = new.method then t else t.takeMethod

/-- A CONFIG comes into force and is handed on; a changed field asks for a CONFIG checkpoint (R186). -/
def State.applyConfig (s : State) (new : Settings) : State :=
  let old := s.sst.settings
  if new = old then s
  else
    let t := s.setSst { s.sst with settings := new }
    let t := if new.ports = old.ports then t else t.takeRanks
    let t := if new.terminals = old.terminals then t else t.takeTerminals old.terminals
    let t := if new.tank = old.tank ∧ new.terminals = old.terminals then t else t.cdcTake
    let t := if new.filters = old.filters then t else t.filterEvents s
    t.settle.request (.single .config)

/-- A WRITE-CONFIG is refused in these states (R185, 2). -/
def State.configBusy (s : State) : Bool :=
  s.drc.state.on || s.drc.state == .defrost || s.pumping

def cmdWriteConfig (s : State) (_p : Port) (pl : List Byte) : State × Reply :=
  if 7 < arg1 pl 0 then (s, ⟨.badArg, []⟩)
  else if s.configBusy then (s, ⟨.wrongState, []⟩)
  else match configOf s.sst.settings pl with
    | .bad => (s, ⟨.badArg, []⟩)
    | .taken new clamped => (s.applyConfig new, ⟨if clamped then .adjusted else .ok, []⟩)

/-! ### READ-CONFIG (R187) -/

def encUntagged (u : UntaggedDefault) : List Byte := enc2 u.c ++ enc2 u.e ++ enc2 u.k ++ encBool u.washable

/-- The fields of a group, as a WRITE-CONFIG payload carries them after the group byte. -/
def encGroup (x : Settings) : Nat → List Byte
  | 0 => enc1 x.ports.panel.num ++ enc1 x.ports.link.num ++ enc1 x.ports.service.num
  | 1 => enc1 x.terminals.mf0.code ++ enc1 x.terminals.mf1.code ++ enc1 x.terminals.mf2.code ++
      enc1 x.terminals.method.code
  | 2 => enc1 x.tank.drain.code ++ enc2 x.tank.empty ++ enc2 x.tank.pumpStart ++ enc2 x.tank.resume ++
      enc2 x.tank.full
  | 3 => enc1 x.airflow.dryMin ++ enc1 x.airflow.defrostStep ++ enc2 x.airflow.minCoil
  | 4 => enc1 x.drying.policy.code ++
      encSet [x.drying.required.pre, x.drying.required.carb, x.drying.required.fine]
  | 5 => enc2 x.filters.worn ++ enc1 x.filters.washLimit ++ enc2 x.filters.fallbackPm
  | 6 => encUntagged x.untagged.pre ++ encUntagged x.untagged.carb ++ encUntagged x.untagged.fine
  | 7 => encCurve x.curve
  | _ => []

/-! ### The CONFIG region (R183; log 9) -/

/-- A CONFIG as its region holds it: for each group the WRITE-CONFIG payload that gives it. -/
def Settings.image (x : Settings) : List (List Byte) :=
  (List.range 8).map (fun g => BitVec.ofNat 8 g :: encGroup x g)

/-- The CONFIG with one stored group taken: none where a WRITE-CONFIG would refuse it or clamp a field. -/
def takeGroup (x : Settings) (g : Nat) (pl : List Byte) : Option Settings :=
  if groupLength g = some pl.length ∧ arg1 pl 0 = g then
    match configOf x pl with
    | .taken y false => some y
    | _ => none
  else none

/-- The stored groups from group `g` on, in order; all eight must be there. -/
def takeGroups (x : Settings) (g : Nat) : List (List Byte) → Option Settings
  | [] => if g = 8 then some x else none
  | pl :: rest => match takeGroup x g pl with
    | some y => takeGroups y (g + 1) rest
    | none => none

/-- The CONFIG that a region holds; none where its contents break a rule that a WRITE-CONFIG enforces. The groups
give every field, so the CONFIG they start from does not matter. -/
def Settings.ofImage (image : List (List Byte)) : Option Settings := takeGroups .factory 0 image

/-- The regions a write covers. -/
def Copies.regions (c : Copies) : RegionSet :=
  ⟨c.config.isSome, c.filters.isSome, c.recent.isSome, c.lockout.isSome⟩

/-- The regions of the write in progress, none while none is. -/
def Sst.writingRegions (x : Sst) : RegionSet :=
  match x.writing with
  | some c => c.regions
  | none => .empty

/-- READ-CONFIG code 8: the four region sets. -/
def storePart (x : Sst) : List Byte :=
  encRegions x.writingRegions ++ encRegions x.pendingWrite ++ encRegions x.unsaved ++ encRegions x.replaced

def cmdReadConfig (s : State) (_p : Port) (pl : List Byte) : State × Reply :=
  if arg1 pl 0 ≤ 7 then (s, ⟨.ok, encGroup s.sst.settings (arg1 pl 0)⟩)
  else if arg1 pl 0 = 8 then (s, ⟨.ok, storePart s.sst⟩)
  else (s, ⟨.badArg, []⟩)

end Sys2Proof.Machine
end

