-- ==== Sys2Proof/Machine/Store.lean ====
section
/-! DEFINITION. The settings store's writes and the start-up (file 10, 10.3 and 10.4), and the resets. -/

namespace Sys2Proof.Machine

/-! ### Writes (R183, R188 to R190) -/

/-- One region of a write after it: saved from its copy, or as it was when the write of it failed. -/
def Stored.after {α : Type} (old : Stored α) (copy : Option α) (failed : Bool) : Stored α :=
  match copy with
  | some c => if failed then old else ⟨c, true⟩
  | none => old

/-- A recent entry and a lockout reason as their regions hold them. -/
def RecentEntry.stored (e : RecentEntry) : StoredEntry := ⟨e.serial, some e.stage, e.load, e.wash⟩

def storedLockout : Option StoredReason → StoredLockout
  | none => .none
  | some .noPulldown => .noPulldown
  | some .defrost => .defrost

/-- The contents a write gives the regions it covers. -/
structure Images where
  config : Option (List (List Byte))
  filters : Option (PerStage Account)
  recent : Option (List StoredEntry)
  lockout : Option StoredLockout
deriving DecidableEq, Repr

def Copies.images (c : Copies) : Images :=
  { config := c.config.map Settings.image, filters := c.filters
    recent := c.recent.map (·.map RecentEntry.stored), lockout := c.lockout.map storedLockout }

/-- The store after a write whose regions in `failed` did not verify (R183, R189). -/
def Store.after (x : Store) (c : Copies) (failed : RegionSet) : Store :=
  { config := x.config.after c.images.config failed.config
    filters := x.filters.after c.images.filters failed.filters
    recent := x.recent.after c.images.recent failed.recent
    lockout := x.lockout.after c.images.lockout failed.lockout }

/-- The unsaved regions after a write of `covered` (R189). -/
def unsavedAfter (unsaved covered failed : RegionSet) : RegionSet :=
  let one (u c f : Bool) : Bool := if c then f else u
  ⟨one unsaved.config covered.config failed.config, one unsaved.filters covered.filters failed.filters,
   one unsaved.recent covered.recent failed.recent, one unsaved.lockout covered.lockout failed.lockout⟩

/-- A STORE event (R189, R191). -/
def State.postStore (s : State) (r : Region) (v : StoreValue) : State :=
  (s.postAll .store).log (.store r v)

/-- A STORE event for each region of a set, in region order. -/
def State.postStoreAll (s : State) (rs : RegionSet) (v : StoreValue) : State :=
  let s := if rs.config then s.postStore .config v else s
  let s := if rs.filters then s.postStore .filters v else s
  let s := if rs.recent then s.postStore .recent v else s
  if rs.lockout then s.postStore .lockout v else s

def RegionSet.inter (x y : RegionSet) : RegionSet :=
  ⟨x.config && y.config, x.filters && y.filters, x.recent && y.recent, x.lockout && y.lockout⟩

/-- What follows the end of a write (R188, R190). -/
def State.nextWrite (s : State) : State :=
  match s.sst.restart with
  | .none => if s.sst.pendingWrite.isEmpty then s else s.beginWrite s.sst.pendingWrite
  | .finishing =>
    if s.sst.pendingWrite.isEmpty then s.setSst { s.sst with restart := .drained }
    else (s.setSst { s.sst with restart := .lastWrite }).beginWrite s.sst.pendingWrite
  | .lastWrite | .drained => s.setSst { s.sst with restart := .drained }

/-- The write in progress ends; `failed` are the regions whose write and retry both failed to verify. -/
def State.storeWriteEnd (s : State) (failed : RegionSet) : State :=
  match s.sst.writing with
  | none => s
  | some c =>
    let lost := RegionSet.inter c.regions failed
    let t := s.setStore (s.store.after c failed)
    let t := t.setSst { t.sst with writing := none, unsaved := unsavedAfter t.sst.unsaved c.regions failed }
    let t := t.setFau { t.fau with dirty := t.fau.dirty || lost.filters }
    (t.postStoreAll lost .writeFailed).nextWrite

/-! ### A write cut off (R183; log 10) -/

/-- A region being written when the write is cut off. -/
def Stored.torn {α : Type} (old : Stored α) (copy : Option α) (x : Torn) : Stored α :=
  match copy, x with
  | some _, .fails => { old with intact := false }
  | some c, .holdsNew => ⟨c, true⟩
  | some _, .keepsOld => old
  | none, _ => old

/-- One region of a cut-off write, `n` covered regions standing before it in region order: done with, being
written, or not reached. -/
def Stored.cut {α : Type} (old : Stored α) (copy : Option α) (n : Nat) (failed : Bool) (x : CutOff) : Stored α :=
  if n < x.finished then old.after copy failed
  else if n = x.finished then old.torn copy x.torn
  else old

/-- How many regions a write covers before a region, in region order. -/
def regionsBefore (x : RegionSet) : Region → Nat
  | .config => 0
  | .filters => x.config.toNat
  | .recent => x.config.toNat + x.filters.toNat
  | .lockout => x.config.toNat + x.filters.toNat + x.recent.toNat

/-- The store after the write in progress is cut off. -/
def Store.cut (x : Store) (c : Copies) (o : CutOff) : Store :=
  { config := x.config.cut c.images.config (regionsBefore c.regions .config) o.failed.config o
    filters := x.filters.cut c.images.filters (regionsBefore c.regions .filters) o.failed.filters o
    recent := x.recent.cut c.images.recent (regionsBefore c.regions .recent) o.failed.recent o
    lockout := x.lockout.cut c.images.lockout (regionsBefore c.regions .lockout) o.failed.lockout o }

/-- The regions of a write that it was done with when it was cut off. -/
def regionsDone (x : RegionSet) (o : CutOff) : RegionSet :=
  let one (r : Region) : Bool := x.has r && decide (regionsBefore x r < o.finished)
  ⟨one .config, one .filters, one .recent, one .lockout⟩

/-- The write in progress is cut off. The regions that failed in it twice before that were reported (R189; log 27). -/
def State.cutOff (s : State) (o : CutOff) : State :=
  match s.sst.writing with
  | some c => (s.setStore (s.store.cut c o)).postStoreAll (RegionSet.inter (regionsDone c.regions o) o.failed) .writeFailed
  | none => s

/-! ### Resets (R164, R180, R190, R191, Table 10-3) -/

/-- What the log keeps through RESETn and RESTART; its readers already hold their starting values (log 14). -/
def Tlg.kept (t : Tlg) : Tlg :=
  { t with minute := none, readers := ⟨t.startReader, t.startReader, t.startReader⟩ }

/-- Every block's volatile state is cleared, the trend log's as given, and a start-up of this kind begins. -/
def State.cleared (s : State) (log : Tlg) (k : ResetKind) : State :=
  { s with
    kind := k, sfe := .idle, dar := .idle, afc := .idle factoryCurve
    fau := .idle (freshAccounts .factory false), crd := .idle, drc := .idle, cdc := .idle
    tlg := log, prt := .idle, sst := .idle }

/-- The start-up store read begins, unless the part has no supply or is held in reset (R191). -/
def State.beginRead (s : State) : State :=
  if s.live then s.setSst { s.sst with reading := some .config, readTimer := some 0 } else s

/-- Supply is applied (R191). With the supply on already there is no such event (log 15). -/
def State.powerOn (s : State) : State :=
  if s.supply then s else { s.cleared .idle .powerOn with supply := true }.beginRead

/-- The supply fails (R183). -/
def State.powerLoss (s : State) (o : CutOff) : State :=
  if s.supply then { (s.cutOff o).cleared .idle s.kind with supply := false } else s

/-- RESETn is asserted (R190). -/
def State.resetnAssert (s : State) (o : CutOff) : State :=
  if s.resetnLow then s
  else if s.supply then { (s.cutOff o).cleared (s.cutOff o).tlg.kept .resetn with resetnLow := true }
  else { s with resetnLow := true }

/-- RESETn is released: the start-up begins (R190, R191). -/
def State.resetnRelease (s : State) : State :=
  if s.resetnLow then { s with resetnLow := false }.beginRead else s

/-- The warm reset of a RESTART takes place once no write remains (R190). -/
def State.warmReset (s : State) : State :=
  if s.live ∧ s.sst.restart = .drained then (s.cleared s.tlg.kept .restart).beginRead else s

/-- The PRT hands a RESTART to the SST (R172, R190). -/
def State.handOver (s : State) : State :=
  (s.setPrt { s.prt with handover := none }).setSst
    { s.sst with restart := if s.sst.writing.isSome then .finishing else .drained }

/-- 100 ms after the RESTART response (R172). -/
def State.restartHandover (s : State) : State :=
  s.expire s.prt.handover Config.handoverMs State.handOver

/-! ### The start-up read (R183, R191) -/

def Account.storable (a : Account) : Bool :=
  1 ≤ a.c && a.e ≤ 1000 && a.k ≤ 1000 && a.load ≤ 2000 * a.c

/-- The entry that a stored one gives, none for an unknown stage type (R183). -/
def StoredEntry.entry (e : StoredEntry) : Option RecentEntry := e.stage.map (fun st => ⟨e.serial, st, e.load, e.wash⟩)

/-- A stored entry that R183 accepts. -/
def StoredEntry.ok (e : StoredEntry) : Bool := e.serial != 0 && e.stage.isSome

/-- The reason that a LOCKOUT region gives. -/
def StoredLockout.reason : StoredLockout → Option StoredReason
  | .none | .other => Option.none
  | .noPulldown => some .noPulldown
  | .defrost => some .defrost

/-- The regions that fail their check: unreadable, without a matching check word, or with contents that
break a rule (R183). -/
def Store.failing (x : Store) (failed unreadable : RegionSet) : RegionSet :=
  { config := failed.config || unreadable.config || !x.config.intact || (Settings.ofImage x.config.contents).isNone
    filters := failed.filters || unreadable.filters || !x.filters.intact ||
      !(x.filters.contents.pre.storable && x.filters.contents.carb.storable && x.filters.contents.fine.storable)
    recent := failed.recent || unreadable.recent || !x.recent.intact ||
      !(decide (x.recent.contents.length ≤ Config.recentCapacity) && x.recent.contents.all StoredEntry.ok)
    lockout := failed.lockout || unreadable.lockout || !x.lockout.intact || x.lockout.contents == .other }

/-- The CRD cleans the loaded list (R101). -/
def cleanRecent (accounts : PerStage Account) : List (BitVec 32) → List RecentEntry → List RecentEntry
  | _, [] => []
  | seen, e :: es =>
    if accounts.pre.serial = some e.serial ∨ accounts.carb.serial = some e.serial ∨
        accounts.fine.serial = some e.serial ∨ e.serial ∈ seen then
      cleanRecent accounts seen es
    else e :: cleanRecent accounts (e.serial :: seen) es

/-- What the owners take from the store. -/
structure Loaded where
  settings : Settings
  accounts : PerStage Account
  recent : List RecentEntry
  reason : Option StoredReason
deriving DecidableEq, Repr

/-- The regions with the failing ones replaced (Table 10-1, R86). -/
def Store.load (x : Store) (bad : RegionSet) : Loaded :=
  let cfg := if bad.config then Settings.factory else (Settings.ofImage x.config.contents).getD .factory
  { settings := cfg
    accounts := if bad.filters then freshAccounts cfg true
      else x.filters.contents.map (fun _ a => { a with rem := 0 })
    recent := if bad.recent then [] else x.recent.contents.filterMap StoredEntry.entry
    reason := if bad.lockout then none else x.lockout.contents.reason }

/-- The SFE starts (R18). -/
def Sfe.start (t : Terminals) : Sfe :=
  let input : SwitchInput := ⟨false, false, some 0⟩
  { Sfe.idle with
    particle := { Sfe.idle.particle with warmup := some 0 }
    bus := { Sfe.idle.bus with second := some Config.busSecondMs }
    tanksw := input, slots := ⟨input, input, input⟩
    mf0 := freshInput t.mf0, mf1 := freshInput t.mf1, mf2 := freshInput t.mf2
    tach := { Sfe.idle.tach with window := some 0 } }

/-- The AFC starts (R63). -/
def Afc.start (cfg : Settings) : Afc :=
  let r := cfg.drying.required
  { Afc.idle cfg.curve with
    regulation := some 0
    limitedBy := if r.pre || r.carb || r.fine then .filter else .none }

/-- The CRD starts: the read times are PRE at 0 ms, CARB at 500 ms and FINE at 1000 ms of a cycle (R89, R101). -/
def Crd.start (recent : List RecentEntry) : Crd :=
  { slots := ⟨{ Slot.idle with poll := some 2000 }, { Slot.idle with poll := some 1500 },
      { Slot.idle with poll := some 1000 }⟩
    recent := recent }

def StoredReason.reason : StoredReason → LockReason
  | .noPulldown => .noPulldown
  | .defrost => .defrost

/-- The DRC starts (R127). -/
def Drc.start (r : Option StoredReason) : Drc :=
  { Drc.idle with
    off := .counting 0
    state := if r.isSome then .lockout else .off
    reason := r.map (·.reason) }

/-- The blocks start from what was loaded (R191, 2). -/
def State.startBlocks (s : State) (l : Loaded) : State :=
  { s with
    sfe := .start l.settings.terminals
    dar := { Dar.idle with second := some 0 }
    afc := .start l.settings
    fau := .idle l.accounts
    crd := .start (cleanRecent l.accounts [] l.recent)
    drc := .start l.reason
    cdc := { Cdc.idle with release := startRelease l.settings.terminals.method } }

/-- A restored lockout posts LOCKOUT (R127). -/
def State.postRestored (s : State) (r : Option StoredReason) : State :=
  match r with
  | some x => (s.postAll .lockout).log (.lockout x.reason)
  | none => s

/-- A request that names no region asks for nothing. -/
def State.requestSome (s : State) (rs : RegionSet) : State := if rs.isEmpty then s else s.request rs

/-- The start-up read has ended with the regions `bad` failing (R191). -/
def State.startUp (s : State) (bad : RegionSet) : State :=
  let l := s.store.load bad
  let t := s.setSst { s.sst with
    startUp := .done, reading := none, readTimer := none, settings := l.settings, replaced := bad }
  let t := (t.startBlocks l).startLog
  let t := t.postRestored l.reason
  let t := t.requestSome ⟨false, false, decide (t.crd.recent ≠ l.recent), false⟩
  ((t.postStoreAll bad .replaced).requestSome bad).settle

/-- The start-up store read ends; `failed` are the regions that did not read back with a matching check word. -/
def State.storeReadEnd (s : State) (failed : RegionSet) : State :=
  if s.live ∧ s.sst.startUp = .reading then s.startUp (s.store.failing failed s.sst.unreadable) else s

/-- A region cannot be read: the next one's read begins, and after the last one the store read ends (R191). -/
def State.regionUnread (s : State) (r : Region) : State :=
  let t := s.setSst { s.sst with
    unreadable := s.sst.unreadable.union (.single r), reading := r.next, readTimer := r.next.map (fun _ => 0) }
  if r.next.isNone then t.storeReadEnd .empty else t

/-- The read of `r` is in progress, or comes after the one in progress: regions are read in region order. -/
def Sst.readsUpTo (x : Sst) (r : Region) : Bool :=
  match x.reading with
  | some p => decide (p.index ≤ r.index)
  | none => false

/-- 50 ms without the end of a region's read (R191). The regions before it have been read by then (log 20). -/
def State.regionReadTimeout (s : State) (r : Region) : State :=
  if s.live ∧ s.sst.startUp = .reading ∧ s.sst.readsUpTo r = true then
    s.expire s.sst.readTimer Config.regionReadMs (fun t => t.regionUnread r)
  else s

end Sys2Proof.Machine
end

