-- ==== Sys2Proof/Machine/Ports.lean ====
section
/-! DEFINITION. The port interfaces (file 09): judging and taking a frame, the port commands, the links, and the
drying commands that need the whole part. -/

namespace Sys2Proof.Machine

/-! ### Commands of the DRC (R120, R123, R125) -/

/-- An accepted CLEAR-LOCKOUT (R123, R122). The AFC clears its fault, and writes its record, before the DRC's own
record is written. DESIGN CHOICE (log 49), unsafe. -/
def State.clearLockoutNow (s : State) (r : LockReason) : State :=
  let t := (s.setDrc { s.drc with pullFails := 0, defrostFails := 0, reason := none }).clearFan
  let t := t.goto .off
  let t := (t.postAll .lockout).log (.lockoutCleared r)
  (if r.isStored then t.request (.single .lockout) else t).settle

/-- CLEAR-LOCKOUT (R123). Where the choice gives START-WAIT and the compressor starts at once, the answer names
PULLDOWN. DESIGN CHOICE (log 38), unsafe. -/
def cmdClearLockout (s : State) (_p : Port) (_pl : List Byte) : State × Reply :=
  match s.drc.state, s.drc.reason with
  | .lockout, some r =>
    if r = .coilSensor ∧ s.sfe.coil.temp.isNone then (s, ⟨.wrongState, []⟩)
    else
      let t := s.clearLockoutNow r
      (t, ⟨.ok, enc1 t.drc.state.code⟩)
  | _, _ => (s, ⟨.wrongState, []⟩)

def cmdForceDefrost (s : State) (_p : Port) (_pl : List Byte) : State × Reply :=
  if s.drc.state = .running ∧ s.drc.minRun = true then ((s.enterDefrost .forced).settle, ⟨.ok, []⟩)
  else (s, ⟨.wrongState, []⟩)

/-- The numeric dry target, if one governs (R104). -/
def State.numericTarget (s : State) : Option Nat :=
  match s.dar.plan.dry with
  | some (.percent t) => some t
  | _ => none

def encHolds (h : HoldSet) : List Byte := encSet [h.tank, h.quiet, h.airflow, h.sensor, h.cold, h.filter]

/-- The fields READ-DRYING returns (R125; log 12, log 37). An absent dry target is 0xFF (log 53), and without a
numeric target both thresholds are absent, 0x8000 (log 54). DESIGN CHOICE, unsafe. -/
def State.dryingPart (s : State) : List Byte :=
  let d := s.drc
  enc1 d.state.code ++ encOpt1 (d.reason.map (·.code)) ++ encBool ((d.reason.map (·.isStored)).getD false) ++
  encOpt1 (s.dar.plan.dry.map (·.code)) ++ encTenths (s.numericTarget.map startThreshold) ++
  encTenths (s.numericTarget.map stopThreshold) ++ encBool d.call ++ encBool d.cold ++
  encHolds s.holds ++ encOff d.off ++ encTimer d.run ++ encBool s.stopPending ++
  encTenths d.pull.start ++ encTimer d.pull.elapsed ++ encOpt1 (d.pull.outcome.map (·.code)) ++ enc1 d.pullFails ++
  encTimer d.frost ++ encOpt1 (d.cause.map (·.code)) ++ encTimer d.defrost ++ encTimer d.defrostEnd ++
  enc1 d.defrostFails ++ encTimer d.postRun ++
  enc1 s.afc.need.code ++ encOpt1 s.afc.floor ++ enc1 s.afc.actual ++ enc1 (if s.afc.stalled then 1 else 0) ++
  encBool s.afc.fault ++ enc1 s.sst.settings.drying.policy.code

def cmdReadDrying (s : State) (_p : Port) (_pl : List Byte) : State × Reply := (s, ⟨.ok, s.dryingPart⟩)

/-! ### Commands of the PRT (R172, R176, R177) -/

def State.setPort (s : State) (p : Port) (x : PortIf) : State :=
  s.setPrt { s.prt with ports := s.prt.ports.set p x }

def State.port (s : State) (p : Port) : PortIf := s.prt.ports.get p

/-- READ-EVENTS returns the flags and the mask, and clears the flags (R177). -/
def cmdReadEvents (s : State) (p : Port) (_pl : List Byte) : State × Reply :=
  let x := s.port p
  (s.setPort p { x with flags := 0 }, ⟨.ok, enc2 x.flags.toNat ++ enc2 x.mask.toNat⟩)

def cmdSetEventMask (s : State) (p : Port) (pl : List Byte) : State × Reply :=
  let m := BitVec.ofNat 16 (arg2 pl 0)
  (s.setPort p { s.port p with mask := m }, ⟨.ok, enc2 m.toNat⟩)

/-- RESTART: the port is closed to frames and the hand-over wait starts (R172). -/
def cmdRestart (s : State) (_p : Port) (_pl : List Byte) : State × Reply :=
  (s.setPrt { s.prt with closed := true, handover := some 0 }, ⟨.ok, []⟩)

/-! ### Judging a frame (R169, R171, R173) -/

/-- The Length fits the command (R169 case 6, Table 9-8). -/
def fits (c : Command) (pl : List Byte) : Bool :=
  let n := pl.length
  match c with
  | .readSensors | .readPlan | .readDemands | .readDrying | .readEvents | .clearLockout | .forceDefrost
  | .pumpAbort | .readLog | .restart => n == 0
  | .readAirflow | .readFilters | .readCartridges | .readTank | .readConfig
  | .clearDemand | .selectCurve | .resetFilter | .setCursor | .setLogJoin => n == 1
  | .putDemand => if n == 4 then 3 ≤ arg1 pl 1 else n == 6 && arg1 pl 1 != 3
  | .clearAllDemands => n ≤ 1
  | .loadCurve => n == 45
  | .setStage => n == 7
  | .forgetCartridge => n == 4
  | .pumpOut => n == 1 || n == 3
  | .setEventMask => n == 2
  | .writeConfig => n != 0 && match groupLength (arg1 pl 0) with
    | some k => n == k
    | none => true

/-- Table 9-2. The argument of CLEAR-ALL-DEMANDS is judged by the DAR (R27). -/
def permitted (c : Command) (p : Port) (r : Rank) : Bool :=
  match c with
  | .readSensors | .readPlan | .readDemands | .readAirflow | .readFilters | .readCartridges | .readDrying
  | .readTank | .readConfig | .readEvents | .setEventMask | .readLog | .setCursor | .setLogJoin => true
  | .putDemand | .clearDemand | .clearAllDemands | .loadCurve | .selectCurve | .resetFilter | .pumpOut
  | .pumpAbort => r != .off
  | .clearLockout => p != .link && r != .off
  | .setStage | .forgetCartridge | .forceDefrost | .writeConfig | .restart => p == .service

/-- The owning block's handler (Table 9-2). -/
def handle (c : Command) (s : State) (p : Port) (pl : List Byte) : State × Reply :=
  match c with
  | .readSensors => cmdReadSensors s p pl
  | .readPlan => cmdReadPlan s p pl
  | .readDemands => cmdReadDemands s p pl
  | .readAirflow => cmdReadAirflow s p pl
  | .readFilters => cmdReadFilters s p pl
  | .readCartridges => cmdReadCartridges s p pl
  | .readDrying => cmdReadDrying s p pl
  | .readTank => cmdReadTank s p pl
  | .readConfig => cmdReadConfig s p pl
  | .readEvents => cmdReadEvents s p pl
  | .putDemand => cmdPutDemand s p pl
  | .clearDemand => cmdClearDemand s p pl
  | .clearAllDemands => cmdClearAllDemands s p pl
  | .loadCurve => cmdLoadCurve s p pl
  | .selectCurve => cmdSelectCurve s p pl
  | .resetFilter => cmdResetFilter s p pl
  | .setStage => cmdSetStage s p pl
  | .forgetCartridge => cmdForgetCartridge s p pl
  | .clearLockout => cmdClearLockout s p pl
  | .forceDefrost => cmdForceDefrost s p pl
  | .pumpOut => cmdPumpOut s p pl
  | .pumpAbort => cmdPumpAbort s p pl
  | .readLog => cmdReadLog s p pl
  | .setCursor => cmdSetCursor s p pl
  | .setLogJoin => cmdSetLogJoin s p pl
  | .setEventMask => cmdSetEventMask s p pl
  | .writeConfig => cmdWriteConfig s p pl
  | .restart => cmdRestart s p pl

/-- A frame that has passed cases 1 to 3 and 5 of R169, judged by cases 6 to 8. -/
def judgeKnown (s : State) (p : Port) (c : Command) (pl : List Byte) : State × Reply :=
  if !fits c pl then (s, ⟨.badFrame, []⟩)
  else if !permitted c p (s.rank p) then (s, ⟨.notPermitted, []⟩)
  else handle c s p pl

/-- A complete frame is judged (R169). -/
def judge (s : State) (p : Port) (f : Frame) : State × Reply :=
  match f.kind with
  | .bad => (s, ⟨.badFrame, []⟩)
  | .unknown _ => (s, ⟨if s.sst.startUp = .reading then .busy else .unknown, []⟩)
  | .known c => if s.sst.startUp = .reading then (s, ⟨.busy, []⟩) else judgeKnown s p c f.payload

/-- A frame is taken and its response formed (R170). -/
def State.takeFrame (s : State) (p : Port) (f : Frame) : State :=
  let y := judge s p f
  y.1.respond p f.tag y.2

/-- A frame ends on LINK: taken, or held while TXD is sending; a further one is discarded (R165). -/
def State.linkFrame (s : State) (f : Frame) : State :=
  if s.prt.sending then
    match s.prt.held with
    | none => s.setPrt { s.prt with held := some f }
    | some _ => s
  else s.takeFrame .link f

/-- The first MISO byte of a PANEL window: 0x5A while a response is pending (R166). -/
def PortIf.firstMiso (x : PortIf) : Byte := if x.response.isSome then 0x5A else 0x00

/-- What MISO has carried in a PANEL command window once `n` bytes were clocked, the first at least: the byte set
when CSn fell and 0x00 after it (R166). A window whose bytes came before holds its first ones in `out`. -/
def PortIf.windowMiso (x : PortIf) (n : Nat) : List Byte :=
  let sent := if x.rx.isSome then x.out else [x.firstMiso]
  sent ++ List.replicate (n - sent.length) 0

/-- The bytes a frame's row names: Command, Tag and Length, and the payload and Check where the Check matches. -/
def frameBytes (f : Frame) : Nat :=
  match f.kind with
  | .bad => 3
  | .known _ | .unknown _ => 4 + f.payload.length

/-- The bytes last clocked out on a port (log 19). -/
def State.setOut (s : State) (p : Port) (bytes : List Byte) : State := s.setPort p { s.port p with out := bytes }

/-- A complete frame ends on a port: its reception ends, and it is taken. SERVICE takes none after RESTART (R172). -/
def State.receive (s : State) (p : Port) (f : Frame) : State :=
  if !s.live then s
  else
    let t := s.setRx p none
    match p with
    | .panel => (t.takeFrame .panel f).setOut .panel ((s.port .panel).windowMiso (frameBytes f))
    | .link => t.linkFrame f
    | .service => if t.prt.closed then t else t.takeFrame .service f

/-! ### Reception, discards and the links (R165 to R167, R178, R179) -/

/-- One byte received on LINK (R165). -/
def State.linkReceive (s : State) (b : Byte) : State :=
  match linkByte (s.port .link).rx b with
  | .ignored => s
  | .collecting bytes => s.setRx .link (some bytes)
  | .discarded => s.setRx .link none
  | .complete f => s.receive .link f

/-- Bytes received on PANEL: a window whose first byte is 0x00, or that has none yet, collects no command. MISO
carries the window's first byte, then 0x00 (R166). -/
def State.panelReceive (s : State) (bytes : List Byte) : State :=
  let x := s.port .panel
  match x.rx, bytes with
  | some got, _ => (s.setRx .panel (some (got ++ bytes))).setOut .panel (x.windowMiso (x.out.length + bytes.length))
  | none, [] => s
  | none, b :: _ =>
    if b = 0 then s else (s.setRx .panel (some bytes)).setOut .panel (x.windowMiso bytes.length)

/-- Bytes received on a port: the reception of a command frame begins or goes on (R165 to R167, R178). On
SERVICE it begins with the address, before any byte. -/
def State.receiveBytes (s : State) (p : Port) (bytes : List Byte) : State :=
  if s.live then
    match p with
    | .link => bytes.foldl State.linkReceive s
    | .panel => s.panelReceive bytes
    | .service => s.setRx .service (some (((s.port .service).rx.getD []) ++ bytes))
  else s

/-- A partial frame is discarded: nothing but the framing state changes (R179). Where a PANEL window brought its
bytes with this row, it clocked the first MISO byte out (R166; log 19). -/
def State.discard (s : State) (p : Port) : State :=
  if !s.live then s
  else match p with
    | .panel => (s.setRx .panel none).setOut .panel ((s.port .panel).windowMiso 0)
    | _ => s.setRx p none

/-- More than 20 ms without a byte of LINK's partial frame (R165). -/
def State.linkGap (s : State) : State :=
  if s.live then s.expire s.prt.gap Config.linkGapMs (fun t => t.setRx .link none) else s

/-- A LINK transmission ends, and a held frame is taken (R165). -/
def State.linkTransmitEnd (s : State) : State :=
  if s.live && s.prt.sending then
    let t := s.setPrt { s.prt with sending := false, held := none }
    match s.prt.held with
    | some f => t.takeFrame .link f
    | none => t
  else s

/-- `n` bytes read of a response, or of none (Table 9-6). -/
def readOut (r : Option Response) (n : Nat) : List Byte :=
  let bytes := match r with
    | some x => 0x5A :: x.body
    | none => []
  (bytes ++ List.replicate (n - bytes.length) 0).take n

/-- `n` bytes cover the first byte and the whole body. -/
def readWhole (r : Option Response) (n : Nat) : Bool :=
  match r with
  | some x => x.body.length + 1 ≤ n
  | none => false

/-- A PANEL fetch window or a SERVICE read of `n` bytes closes. One that was open when the last response was
formed, or made before that, gives what was pending before it, until that was read whole, and reads nothing of the
new response (R166, R167; log 5). -/
def State.readPort (s : State) (p : Port) (n : Nat) (early : Bool) : State :=
  let x := s.port p
  if early then s.setPort p { x with
    out := readOut x.prior n, prior := if readWhole x.prior n then none else x.prior }
  else s.setPort p { x with
    out := readOut x.response n, prior := none
    response := if readWhole x.response n then none else x.response }

def State.panelFetch (s : State) (n : Nat) (early : Bool) : State :=
  if s.live then s.readPort .panel n early else s

/-- A SERVICE read; reading the RESTART's response whole hands the RESTART over (R172). -/
def State.serviceRead (s : State) (n : Nat) (early : Bool) : State :=
  if s.live then
    let t := s.readPort .service n early
    if !early && readWhole (s.port .service).response n && s.prt.handover.isSome then t.handOver else t
  else s

end Sys2Proof.Machine
end

