-- ==== Sys2Proof/Machine/Commands.lean ====
section
/-! DEFINITION. The meaning of each command: one definition for each row of spec/opcode_table.json, over the
operations of the blocks. -/

namespace Sys2Proof.Machine

/-- What executing a command answers. -/
abbrev Answer := Host.Outcome State Fault Refusal

/-- POWER_ON (R191). -/
def execPowerOn (s : State) : Answer :=
  .next (s.powerOn)

/-- POWER_LOSS (R183). -/
def execPowerLoss (cut : CutOff) (s : State) : Answer :=
  .next (s.powerLoss cut)

/-- RESETN_ASSERT (R190). -/
def execResetnAssert (cut : CutOff) (s : State) : Answer :=
  .next (s.resetnAssert cut)

/-- RESETN_RELEASE (R191). -/
def execResetnRelease (s : State) : Answer :=
  .next (s.resetnRelease)

/-- REGION_READ_TIMEOUT (R191). -/
def execRegionReadTimeout (r : Region) (s : State) : Answer :=
  .next (s.regionReadTimeout r)

/-- STORE_READ_END (R191). -/
def execStoreReadEnd (failed : RegionSet) (s : State) : Answer :=
  .next (s.storeReadEnd failed)

/-- STORE_WRITE_END (R188). -/
def execStoreWriteEnd (failed : RegionSet) (s : State) : Answer :=
  .next (s.storeWriteEnd failed)

/-- WARM_RESET (R190). -/
def execWarmReset (s : State) : Answer :=
  .next (s.warmReset)

/-- RESTART_HANDOVER_TIMEOUT (R172). -/
def execRestartHandoverTimeout (s : State) : Answer :=
  .next (s.restartHandover)

/-- PARTICLE_FRAME (R2). -/
def execParticleFrame (reading : Option Nat) (s : State) : Answer :=
  .next (s.whenUp (·.particleFrame reading))

/-- PARTICLE_WARMUP_END (R3). -/
def execParticleWarmupEnd (s : State) : Answer :=
  .next (s.whenUp State.particleWarmupEnd)

/-- PARTICLE_TIMEOUT (R3). -/
def execParticleTimeout (s : State) : Answer :=
  .next (s.whenUp State.particleTimeout)

/-- PRIVATE_BUS_SECOND (R4). -/
def execPrivateBusSecond (s : State) : Answer :=
  .next (s.whenUp State.privateBusSecond)

/-- BUS_TRANSACTION_TIMEOUT (R4). -/
def execBusTransactionTimeout (s : State) : Answer :=
  .next (s.whenUp State.busTransactionTimeout)

/-- GAS_READ_END (R5). -/
def execGasReadEnd (index : Option Nat) (s : State) : Answer :=
  .next (s.whenUp (·.gasReadEnd index))

/-- GAS_TIMEOUT (R5). -/
def execGasTimeout (s : State) : Answer :=
  .next (s.whenUp State.gasTimeout)

/-- ROOM_READ_END (R6). -/
def execRoomReadEnd (reading : Option RoomRead) (s : State) : Answer :=
  .next (s.whenUp (·.roomReadEnd reading))

/-- COIL_CONVERSION (R7). -/
def execCoilConversion (tenths : Int) (s : State) : Answer :=
  .next (s.whenUp (·.coilConversion tenths))

/-- PROBE_CONVERSION (R8). -/
def execProbeConversion (mL : Int) (s : State) : Answer :=
  .next (s.whenUp (·.probeConversion mL))

/-- SWITCH_INPUT_EDGE (R10). -/
def execSwitchInputEdge (sw : Switch) (level : Bool) (s : State) : Answer :=
  .next (s.switchInputEdge sw level)

/-- SWITCH_CHANGE_ACCEPTED (R10). -/
def execSwitchChangeAccepted (sw : Switch) (s : State) : Answer :=
  .next (s.whenUp (·.switchChangeAccepted sw))

/-- FANTACH_PULSE (R12). -/
def execFantachPulse (s : State) : Answer :=
  .next (s.whenUp State.fantachPulse)

/-- FAN_SPEED_WINDOW_END (R12). -/
def execFanSpeedWindowEnd (s : State) : Answer :=
  .next (s.whenUp State.fanSpeedWindowEnd)

/-- READ_SENSORS (R17). -/
def execReadSensors (p : Port) (tag : Byte) (payload : List Byte) (s : State) : Answer :=
  .next (s.receive p ⟨.known .readSensors, tag, payload⟩)

/-- DAR_SECOND_TIMER (R30). -/
def execDarSecondTimer (s : State) : Answer :=
  .next (s.whenUp State.darSecondTimer)

/-- PUT_DEMAND (R21). -/
def execPutDemand (p : Port) (tag : Byte) (payload : List Byte) (s : State) : Answer :=
  .next (s.receive p ⟨.known .putDemand, tag, payload⟩)

/-- CLEAR_DEMAND (R26). -/
def execClearDemand (p : Port) (tag : Byte) (payload : List Byte) (s : State) : Answer :=
  .next (s.receive p ⟨.known .clearDemand, tag, payload⟩)

/-- CLEAR_ALL_DEMANDS (R28). -/
def execClearAllDemands (p : Port) (tag : Byte) (payload : List Byte) (s : State) : Answer :=
  .next (s.receive p ⟨.known .clearAllDemands, tag, payload⟩)

/-- READ_PLAN (R42). -/
def execReadPlan (p : Port) (tag : Byte) (payload : List Byte) (s : State) : Answer :=
  .next (s.receive p ⟨.known .readPlan, tag, payload⟩)

/-- READ_DEMANDS (R43). -/
def execReadDemands (p : Port) (tag : Byte) (payload : List Byte) (s : State) : Answer :=
  .next (s.receive p ⟨.known .readDemands, tag, payload⟩)

/-- REGULATION_BOUNDARY (R49). -/
def execRegulationBoundary (s : State) : Answer :=
  .next (s.whenUp State.regulationBoundary)

/-- STALL_OFF_TIMER (R57). -/
def execStallOffTimer (s : State) : Answer :=
  .next (s.whenUp State.stallOffExpiry)

/-- LOAD_CURVE (R46). -/
def execLoadCurve (p : Port) (tag : Byte) (payload : List Byte) (s : State) : Answer :=
  .next (s.receive p ⟨.known .loadCurve, tag, payload⟩)

/-- SELECT_CURVE (R47). -/
def execSelectCurve (p : Port) (tag : Byte) (payload : List Byte) (s : State) : Answer :=
  .next (s.receive p ⟨.known .selectCurve, tag, payload⟩)

/-- READ_AIRFLOW (R62). -/
def execReadAirflow (p : Port) (tag : Byte) (payload : List Byte) (s : State) : Answer :=
  .next (s.receive p ⟨.known .readAirflow, tag, payload⟩)

/-- ACCOUNTING_TICK (R68). -/
def execAccountingTick (s : State) : Answer :=
  .next (s.whenUp State.accountingTick)

/-- READ_FILTERS (R85). -/
def execReadFilters (p : Port) (tag : Byte) (payload : List Byte) (s : State) : Answer :=
  .next (s.receive p ⟨.known .readFilters, tag, payload⟩)

/-- SLOT_SETTLE_END (R88). -/
def execSlotSettleEnd (st : Stage) (s : State) : Answer :=
  .next (s.whenUp (·.slotSettleEnd st))

/-- TAG_READ_TIME (R89). -/
def execTagReadTime (st : Stage) (s : State) : Answer :=
  .next (s.whenUp (·.tagReadTime st))

/-- TAG_READ_ABANDON (R89). -/
def execTagReadAbandon (st : Stage) (s : State) : Answer :=
  .next (s.whenUp (·.tagReadAbandon st))

/-- TAG_READ_END (R90). -/
def execTagReadEnd (st : Stage) (answer : Option RawTag) (s : State) : Answer :=
  .next (s.whenUp (·.tagReadEnd st answer))

/-- RESET_FILTER (R97). -/
def execResetFilter (p : Port) (tag : Byte) (payload : List Byte) (s : State) : Answer :=
  .next (s.receive p ⟨.known .resetFilter, tag, payload⟩)

/-- SET_STAGE (R98). -/
def execSetStage (p : Port) (tag : Byte) (payload : List Byte) (s : State) : Answer :=
  .next (s.receive p ⟨.known .setStage, tag, payload⟩)

/-- FORGET_CARTRIDGE (R99). -/
def execForgetCartridge (p : Port) (tag : Byte) (payload : List Byte) (s : State) : Answer :=
  .next (s.receive p ⟨.known .forgetCartridge, tag, payload⟩)

/-- READ_CARTRIDGES (R100). -/
def execReadCartridges (p : Port) (tag : Byte) (payload : List Byte) (s : State) : Answer :=
  .next (s.receive p ⟨.known .readCartridges, tag, payload⟩)

/-- OFF_TIMER_PASSED (R108). -/
def execOffTimerPassed (s : State) : Answer :=
  .next (s.whenUp State.offTimerPassed)

/-- PULLDOWN_CHECK_EXPIRY (R111). -/
def execPulldownCheckExpiry (s : State) : Answer :=
  .next (s.whenUp State.pulldownExpiry)

/-- MINIMUM_RUN_END (R113). -/
def execMinimumRunEnd (s : State) : Answer :=
  .next (s.whenUp State.minimumRun)

/-- POST_RUN_END (R115). -/
def execPostRunEnd (s : State) : Answer :=
  .next (s.whenUp State.postRunEnd)

/-- FROST_DETECTED (R116). -/
def execFrostDetected (s : State) : Answer :=
  .next (s.whenUp State.frostDetected)

/-- DEFROST_SUCCESS (R118). -/
def execDefrostSuccess (s : State) : Answer :=
  .next (s.whenUp State.defrostSuccess)

/-- DEFROST_TIMEOUT (R118). -/
def execDefrostTimeout (s : State) : Answer :=
  .next (s.whenUp State.defrostTimeout)

/-- FORCE_DEFROST (R120). -/
def execForceDefrost (p : Port) (tag : Byte) (payload : List Byte) (s : State) : Answer :=
  .next (s.receive p ⟨.known .forceDefrost, tag, payload⟩)

/-- CLEAR_LOCKOUT (R123). -/
def execClearLockout (p : Port) (tag : Byte) (payload : List Byte) (s : State) : Answer :=
  .next (s.receive p ⟨.known .clearLockout, tag, payload⟩)

/-- READ_DRYING (R125). -/
def execReadDrying (p : Port) (tag : Byte) (payload : List Byte) (s : State) : Answer :=
  .next (s.receive p ⟨.known .readDrying, tag, payload⟩)

/-- TANK_SETTLE_END (R128). -/
def execTankSettleEnd (s : State) : Answer :=
  .next (s.whenUp State.tankSettleEnd)

/-- FULL_RELEASE_TIMER (R133). -/
def execFullReleaseTimer (s : State) : Answer :=
  .next (s.whenUp State.fullRelease)

/-- PUMP_SAMPLE (R137). -/
def execPumpSample (s : State) : Answer :=
  .next (s.whenUp State.pumpSample)

/-- FLOW_TIMER_PASS (R142). -/
def execFlowTimerPass (s : State) : Answer :=
  .next (s.whenUp State.flowTimerPass)

/-- PRIME_TIMEOUT (R142). -/
def execPrimeTimeout (s : State) : Answer :=
  .next (s.whenUp State.primeTimeout)

/-- PRIME_FLOATS_TIME_PASS (R147). -/
def execPrimeFloatsTimePass (s : State) : Answer :=
  .next (s.whenUp State.primeFloatsTimePass)

/-- TRANSFER_TIMEOUT (R144). -/
def execTransferTimeout (s : State) : Answer :=
  .next (s.whenUp State.transferTimeout)

/-- HIGH_RELEASE_END (R148). -/
def execHighReleaseEnd (s : State) : Answer :=
  .next (s.whenUp State.highReleaseEnd)

/-- VERIFY_END (R145). -/
def execVerifyEnd (s : State) : Answer :=
  .next (s.whenUp State.verifyEnd)

/-- PUMP_OUT_NEW (R139). -/
def execPumpOutNew (p : Port) (tag : Byte) (payload : List Byte) (s : State) : Answer :=
  .next (s.receive p ⟨.known .pumpOut, tag, payload⟩)

/-- PUMP_OUT_RESUME (R140). -/
def execPumpOutResume (p : Port) (tag : Byte) (payload : List Byte) (s : State) : Answer :=
  .next (s.receive p ⟨.known .pumpOut, tag, payload⟩)

/-- PUMP_ABORT (R151). -/
def execPumpAbort (p : Port) (tag : Byte) (payload : List Byte) (s : State) : Answer :=
  .next (s.receive p ⟨.known .pumpAbort, tag, payload⟩)

/-- READ_TANK (R152). -/
def execReadTank (p : Port) (tag : Byte) (payload : List Byte) (s : State) : Answer :=
  .next (s.receive p ⟨.known .readTank, tag, payload⟩)

/-- MINUTE_TIMER (R155). -/
def execMinuteTimer (s : State) : Answer :=
  .next (s.whenUp State.minuteTimer)

/-- READ_LOG (R161). -/
def execReadLog (p : Port) (tag : Byte) (payload : List Byte) (s : State) : Answer :=
  .next (s.receive p ⟨.known .readLog, tag, payload⟩)

/-- SET_CURSOR (R162). -/
def execSetCursor (p : Port) (tag : Byte) (payload : List Byte) (s : State) : Answer :=
  .next (s.receive p ⟨.known .setCursor, tag, payload⟩)

/-- SET_LOG_JOIN (R163). -/
def execSetLogJoin (p : Port) (tag : Byte) (payload : List Byte) (s : State) : Answer :=
  .next (s.receive p ⟨.known .setLogJoin, tag, payload⟩)

/-- READ_EVENTS (R177). -/
def execReadEvents (p : Port) (tag : Byte) (payload : List Byte) (s : State) : Answer :=
  .next (s.receive p ⟨.known .readEvents, tag, payload⟩)

/-- SET_EVENT_MASK (R176). -/
def execSetEventMask (p : Port) (tag : Byte) (payload : List Byte) (s : State) : Answer :=
  .next (s.receive p ⟨.known .setEventMask, tag, payload⟩)

/-- WRITE_CONFIG (R185). -/
def execWriteConfig (p : Port) (tag : Byte) (payload : List Byte) (s : State) : Answer :=
  .next (s.receive p ⟨.known .writeConfig, tag, payload⟩)

/-- READ_CONFIG (R187). -/
def execReadConfig (p : Port) (tag : Byte) (payload : List Byte) (s : State) : Answer :=
  .next (s.receive p ⟨.known .readConfig, tag, payload⟩)

/-- RESTART (R172). -/
def execRestart (p : Port) (tag : Byte) (payload : List Byte) (s : State) : Answer :=
  .next (s.receive p ⟨.known .restart, tag, payload⟩)

/-- UNKNOWN_COMMAND (R169). On PANEL the value 0x00 opens a fetch window and never forms a frame (R166). -/
def execUnknownCommand (p : Port) (code : Byte) (tag : Byte) (payload : List Byte) (s : State) : Answer :=
  .next (if p = .panel ∧ code = 0 then s else s.receive p ⟨.unknown code, tag, payload⟩)

/-- BAD_FRAME (R169). -/
def execBadFrame (p : Port) (tag : Byte) (s : State) : Answer :=
  .next (s.receive p ⟨.bad, tag, []⟩)

/-- FRAME_DISCARD (R179). -/
def execFrameDiscard (p : Port) (s : State) : Answer :=
  .next (s.discard p)

/-- LINK_GAP_TIMEOUT (R165). -/
def execLinkGapTimeout (s : State) : Answer :=
  .next (s.linkGap)

/-- LINK_TRANSMIT_END (R165). -/
def execLinkTransmitEnd (s : State) : Answer :=
  .next (s.linkTransmitEnd)

/-- COMMAND_RECEPTION_START (R178). -/
def execCommandReceptionStart (r : Reception) (s : State) : Answer :=
  .next (s.receiveBytes r.port r.bytes)

/-- PANEL_FETCH_WINDOW (R166). -/
def execPanelFetchWindow (clocked : Nat) (early : Bool) (s : State) : Answer :=
  .next (s.panelFetch clocked early)

/-- SERVICE_READ_TRANSACTION (R167). -/
def execServiceReadTransaction (read : Nat) (early : Bool) (s : State) : Answer :=
  .next (s.serviceRead read early)

end Sys2Proof.Machine
end

