-- ==== Sys2Proof/Machine/Dispatch.lean ====
section
/-! DEFINITION. One arm for each command. -/

namespace Sys2Proof.Machine

def exec (i : Instr) (s : State) : Host.Outcome State Fault Refusal :=
  match i with
  | .powerOn => Sys2Proof.Machine.execPowerOn s
  | .powerLoss cut => Sys2Proof.Machine.execPowerLoss cut s
  | .resetnAssert cut => Sys2Proof.Machine.execResetnAssert cut s
  | .resetnRelease => Sys2Proof.Machine.execResetnRelease s
  | .regionReadTimeout r => Sys2Proof.Machine.execRegionReadTimeout r s
  | .storeReadEnd failed => Sys2Proof.Machine.execStoreReadEnd failed s
  | .storeWriteEnd failed => Sys2Proof.Machine.execStoreWriteEnd failed s
  | .warmReset => Sys2Proof.Machine.execWarmReset s
  | .restartHandoverTimeout => Sys2Proof.Machine.execRestartHandoverTimeout s
  | .particleFrame reading => Sys2Proof.Machine.execParticleFrame reading s
  | .particleWarmupEnd => Sys2Proof.Machine.execParticleWarmupEnd s
  | .particleTimeout => Sys2Proof.Machine.execParticleTimeout s
  | .privateBusSecond => Sys2Proof.Machine.execPrivateBusSecond s
  | .busTransactionTimeout => Sys2Proof.Machine.execBusTransactionTimeout s
  | .gasReadEnd index => Sys2Proof.Machine.execGasReadEnd index s
  | .gasTimeout => Sys2Proof.Machine.execGasTimeout s
  | .roomReadEnd reading => Sys2Proof.Machine.execRoomReadEnd reading s
  | .coilConversion tenths => Sys2Proof.Machine.execCoilConversion tenths s
  | .probeConversion mL => Sys2Proof.Machine.execProbeConversion mL s
  | .switchInputEdge sw level => Sys2Proof.Machine.execSwitchInputEdge sw level s
  | .switchChangeAccepted sw => Sys2Proof.Machine.execSwitchChangeAccepted sw s
  | .fantachPulse => Sys2Proof.Machine.execFantachPulse s
  | .fanSpeedWindowEnd => Sys2Proof.Machine.execFanSpeedWindowEnd s
  | .readSensors p tag payload => Sys2Proof.Machine.execReadSensors p tag payload s
  | .darSecondTimer => Sys2Proof.Machine.execDarSecondTimer s
  | .putDemand p tag payload => Sys2Proof.Machine.execPutDemand p tag payload s
  | .clearDemand p tag payload => Sys2Proof.Machine.execClearDemand p tag payload s
  | .clearAllDemands p tag payload => Sys2Proof.Machine.execClearAllDemands p tag payload s
  | .readPlan p tag payload => Sys2Proof.Machine.execReadPlan p tag payload s
  | .readDemands p tag payload => Sys2Proof.Machine.execReadDemands p tag payload s
  | .regulationBoundary => Sys2Proof.Machine.execRegulationBoundary s
  | .stallOffTimer => Sys2Proof.Machine.execStallOffTimer s
  | .loadCurve p tag payload => Sys2Proof.Machine.execLoadCurve p tag payload s
  | .selectCurve p tag payload => Sys2Proof.Machine.execSelectCurve p tag payload s
  | .readAirflow p tag payload => Sys2Proof.Machine.execReadAirflow p tag payload s
  | .accountingTick => Sys2Proof.Machine.execAccountingTick s
  | .readFilters p tag payload => Sys2Proof.Machine.execReadFilters p tag payload s
  | .slotSettleEnd st => Sys2Proof.Machine.execSlotSettleEnd st s
  | .tagReadTime st => Sys2Proof.Machine.execTagReadTime st s
  | .tagReadAbandon st => Sys2Proof.Machine.execTagReadAbandon st s
  | .tagReadEnd st answer => Sys2Proof.Machine.execTagReadEnd st answer s
  | .resetFilter p tag payload => Sys2Proof.Machine.execResetFilter p tag payload s
  | .setStage p tag payload => Sys2Proof.Machine.execSetStage p tag payload s
  | .forgetCartridge p tag payload => Sys2Proof.Machine.execForgetCartridge p tag payload s
  | .readCartridges p tag payload => Sys2Proof.Machine.execReadCartridges p tag payload s
  | .offTimerPassed => Sys2Proof.Machine.execOffTimerPassed s
  | .pulldownCheckExpiry => Sys2Proof.Machine.execPulldownCheckExpiry s
  | .minimumRunEnd => Sys2Proof.Machine.execMinimumRunEnd s
  | .postRunEnd => Sys2Proof.Machine.execPostRunEnd s
  | .frostDetected => Sys2Proof.Machine.execFrostDetected s
  | .defrostSuccess => Sys2Proof.Machine.execDefrostSuccess s
  | .defrostTimeout => Sys2Proof.Machine.execDefrostTimeout s
  | .forceDefrost p tag payload => Sys2Proof.Machine.execForceDefrost p tag payload s
  | .clearLockout p tag payload => Sys2Proof.Machine.execClearLockout p tag payload s
  | .readDrying p tag payload => Sys2Proof.Machine.execReadDrying p tag payload s
  | .tankSettleEnd => Sys2Proof.Machine.execTankSettleEnd s
  | .fullReleaseTimer => Sys2Proof.Machine.execFullReleaseTimer s
  | .pumpSample => Sys2Proof.Machine.execPumpSample s
  | .flowTimerPass => Sys2Proof.Machine.execFlowTimerPass s
  | .primeTimeout => Sys2Proof.Machine.execPrimeTimeout s
  | .primeFloatsTimePass => Sys2Proof.Machine.execPrimeFloatsTimePass s
  | .transferTimeout => Sys2Proof.Machine.execTransferTimeout s
  | .highReleaseEnd => Sys2Proof.Machine.execHighReleaseEnd s
  | .verifyEnd => Sys2Proof.Machine.execVerifyEnd s
  | .pumpOutNew p tag payload => Sys2Proof.Machine.execPumpOutNew p tag payload s
  | .pumpOutResume p tag payload => Sys2Proof.Machine.execPumpOutResume p tag payload s
  | .pumpAbort p tag payload => Sys2Proof.Machine.execPumpAbort p tag payload s
  | .readTank p tag payload => Sys2Proof.Machine.execReadTank p tag payload s
  | .minuteTimer => Sys2Proof.Machine.execMinuteTimer s
  | .readLog p tag payload => Sys2Proof.Machine.execReadLog p tag payload s
  | .setCursor p tag payload => Sys2Proof.Machine.execSetCursor p tag payload s
  | .setLogJoin p tag payload => Sys2Proof.Machine.execSetLogJoin p tag payload s
  | .readEvents p tag payload => Sys2Proof.Machine.execReadEvents p tag payload s
  | .setEventMask p tag payload => Sys2Proof.Machine.execSetEventMask p tag payload s
  | .writeConfig p tag payload => Sys2Proof.Machine.execWriteConfig p tag payload s
  | .readConfig p tag payload => Sys2Proof.Machine.execReadConfig p tag payload s
  | .restart p tag payload => Sys2Proof.Machine.execRestart p tag payload s
  | .unknownCommand p code tag payload => Sys2Proof.Machine.execUnknownCommand p code tag payload s
  | .badFrame p tag => Sys2Proof.Machine.execBadFrame p tag s
  | .frameDiscard p => Sys2Proof.Machine.execFrameDiscard p s
  | .linkGapTimeout => Sys2Proof.Machine.execLinkGapTimeout s
  | .linkTransmitEnd => Sys2Proof.Machine.execLinkTransmitEnd s
  | .commandReceptionStart r => Sys2Proof.Machine.execCommandReceptionStart r s
  | .panelFetchWindow clocked early => Sys2Proof.Machine.execPanelFetchWindow clocked early s
  | .serviceReadTransaction read early => Sys2Proof.Machine.execServiceReadTransaction read early s

end Sys2Proof.Machine
end

