-- ==== Sys2Proof/Machine/Due.lean ====
section
/-! DEFINITION. Which of the part's own timers have reached their limits, as the commands that take them. -/

namespace Sys2Proof.Machine

/-- A timer stands at its limit. -/
def Timer.due (limit : Nat) (t : Timer) : Bool := t == some limit

def dueWhen (b : Bool) (c : Instr) : List Instr := if b then [c] else []

def Sfe.due (x : Sfe) : List Instr :=
  let switchDue (sw : Switch) : List Instr :=
    dueWhen (Timer.due Config.steadyMs (x.switch sw).steady) (.switchChangeAccepted sw)
  dueWhen (Timer.due Config.warmupMs x.particle.warmup) .particleWarmupEnd ++
  dueWhen (Timer.due Config.readingWaitMs x.particle.wait) .particleTimeout ++
  dueWhen (Timer.due Config.busTransactionMs x.bus.busy) .busTransactionTimeout ++
  dueWhen (Timer.due Config.busSecondMs x.bus.second) .privateBusSecond ++
  dueWhen (Timer.due Config.readingWaitMs x.gas.wait) .gasTimeout ++
  switchDue .tanksw ++ switchDue (.slot .pre) ++ switchDue (.slot .carb) ++ switchDue (.slot .fine) ++
  switchDue .mf0 ++ switchDue .mf1 ++ switchDue .mf2 ++
  dueWhen (Timer.due Config.tachWindowMs x.tach.window) .fanSpeedWindowEnd

def Slot.due (x : Slot) (st : Stage) : List Instr :=
  dueWhen (x.state == .settling && Timer.due Config.slotSettleMs x.settle) (.slotSettleEnd st) ++
  dueWhen (Timer.due Config.tagReadMs x.reading) (.tagReadAbandon st) ++
  dueWhen (Timer.due Config.pollCycleMs x.poll) (.tagReadTime st)

def Drc.due (x : Drc) : List Instr :=
  dueWhen (x.off == .counting Config.offTimerMs) .offTimerPassed ++
  dueWhen (x.state == .pulldown && x.pull.outcome == some .checking &&
    Timer.due Config.pulldownMs x.pull.elapsed) .pulldownCheckExpiry ++
  dueWhen (x.state.on && !x.minRun && Timer.due Config.minimumRunMs x.run) .minimumRunEnd ++
  dueWhen (x.state == .postRun && Timer.due Config.postRunMs x.postRun) .postRunEnd ++
  dueWhen (x.state == .running && Timer.due Config.frostMs x.frost) .frostDetected ++
  dueWhen (x.state == .defrost && Timer.due Config.defrostEndMs x.defrostEnd) .defrostSuccess ++
  dueWhen (x.state == .defrost && Timer.due Config.defrostMs x.defrost) .defrostTimeout

/-- The timers of a run. `byTime`: PRIME passes by time, so it passes at 10 s and never fails (R147). -/
def Sequence.due (q : Sequence) (byTime : Bool) : List Instr :=
  if q.status != .running then []
  else
    let e := q.elapsed.getD 0
    dueWhen (Timer.due Config.pumpSampleMs q.sample) .pumpSample ++
    dueWhen (q.phase == some .prime && Timer.due Config.flowMs q.flow) .flowTimerPass ++
    dueWhen (q.phase == some .prime && byTime && Config.primeFloatsMs ≤ e) .primeFloatsTimePass ++
    dueWhen (q.phase == some .prime && !byTime && Config.primeMs ≤ e) .primeTimeout ++
    dueWhen (q.phase == some .transfer && Timer.due Config.highReleaseMs q.highRelease) .highReleaseEnd ++
    dueWhen (q.phase == some .transfer && Config.transferMs ≤ e) .transferTimeout ++
    dueWhen (q.phase == some .verify && Config.verifyMs ≤ e) .verifyEnd

def Cdc.due (x : Cdc) (byTime : Bool) : List Instr :=
  dueWhen (x.presence == .settling && Timer.due Config.tankSettleMs x.settle) .tankSettleEnd ++
  dueWhen (!x.released && Timer.due Config.releaseMs x.release) .fullReleaseTimer ++
  match x.seq with
  | some q => q.due byTime
  | none => []

/-- The region whose read has taken 50 ms (R191). -/
def Sst.due (x : Sst) : List Instr :=
  match x.reading with
  | some r => dueWhen (x.startUp == .reading && Timer.due Config.regionReadMs x.readTimer) (.regionReadTimeout r)
  | none => []

/-- The expiries that are due, in the order they are taken when nothing else is waiting (log 22). -/
def State.due (s : State) : List Instr :=
  s.sfe.due ++
  dueWhen (Timer.due Config.darSecondMs s.dar.second) .darSecondTimer ++
  s.crd.slots.pre.due .pre ++ s.crd.slots.carb.due .carb ++ s.crd.slots.fine.due .fine ++
  dueWhen (s.fau.running && s.fau.period == Config.accountingMs) .accountingTick ++
  dueWhen (Timer.due Config.regulationMs s.afc.regulation) .regulationBoundary ++
  dueWhen (Timer.due Config.stallOffMs s.afc.stallOff) .stallOffTimer ++
  s.cdc.due s.primeByTime ++ s.drc.due ++
  dueWhen (Timer.due Config.minuteMs s.tlg.minute) .minuteTimer ++
  dueWhen (Timer.due Config.handoverMs s.prt.handover) .restartHandoverTimeout ++
  dueWhen (s.sst.restart == .drained) .warmReset ++
  dueWhen (Timer.due Config.linkGapMs s.prt.gap) .linkGapTimeout ++ s.sst.due

/-- The first expiry that is due, none while the part has no supply or is held in reset. -/
def State.nextDue (s : State) : Option Instr := if s.live then s.due.head? else none

/-- One millisecond passes. -/
def State.tickTime (s : State) : State := s.advance 1

end Sys2Proof.Machine
end

