-- ==== Sys2Proof/Safety.lean ====
section
/-! DEFINITION. What claims are stated in: the parts of the state and what a command leaves unchanged, when a port
takes a frame and what it answers, the layouts of the READ payloads, safe runs, and the laws the chapters state of the
whole part. -/

namespace Sys2Proof.Machine

/-! ### Frames -/

/-- The parts of the state, one for each field of `State`. -/
inductive Part where
  | pending | now | free | supply | resetnLow | kind | pins | store
  | sfe | dar | afc | fau | crd | drc | cdc | tlg | prt | sst
deriving DecidableEq, Repr

/-- `t` and `s` agree at one part. -/
def State.sameAt (t s : State) : Part → Prop
  | .pending => t.pending = s.pending
  | .now => t.now = s.now
  | .free => t.free = s.free
  | .supply => t.supply = s.supply
  | .resetnLow => t.resetnLow = s.resetnLow
  | .kind => t.kind = s.kind
  | .pins => t.pins = s.pins
  | .store => t.store = s.store
  | .sfe => t.sfe = s.sfe
  | .dar => t.dar = s.dar
  | .afc => t.afc = s.afc
  | .fau => t.fau = s.fau
  | .crd => t.crd = s.crd
  | .drc => t.drc = s.drc
  | .cdc => t.cdc = s.cdc
  | .tlg => t.tlg = s.tlg
  | .prt => t.prt = s.prt
  | .sst => t.sst = s.sst

/-- `t` differs from `s` in the parts named at most. -/
def State.sameBut (t s : State) (ps : List Part) : Prop := ∀ b, ps.contains b = false → t.sameAt s b

/-- `t` differs from `s` in what port `p` received and sent at most: no block, no flag, no mask, no other port. -/
def State.onlyAnswers (t s : State) (p : Port) : Prop :=
  t.sameBut s [.prt] ∧ t.prt.held = s.prt.held ∧ t.prt.closed = s.prt.closed ∧ t.prt.handover = s.prt.handover ∧
  (p ≠ .link → t.prt.sending = s.prt.sending ∧ t.prt.gap = s.prt.gap) ∧
  ∀ q, (t.port q).flags = (s.port q).flags ∧ (t.port q).mask = (s.port q).mask ∧ (q ≠ p → t.port q = s.port q)

/-! ### Frames taken and answered (R165, R170 to R172) -/

/-- Port `p` takes a frame that ends now and judges it in full: the part is up, SERVICE is not closed by a
RESTART, and TXD is free on LINK. -/
def State.takes (s : State) (p : Port) : Bool :=
  s.up && !(p == .service && s.prt.closed) && !(p == .link && s.prt.sending)

/-- Port `p` has been answered: a response is pending on PANEL and SERVICE, and is being sent on LINK. -/
def State.answered (t : State) (p : Port) (tag : Byte) (st : Status) (payload : List Byte) : Prop :=
  match p with
  | .link => t.prt.sending = true ∧ (t.port .link).out = 0xA5 :: Response.body ⟨st, tag, payload⟩
  | _ => (t.port p).response = some ⟨st, tag, payload⟩

/-! ### Events -/

/-- A flag is set on a port. -/
def State.flagOn (t : State) (p : Port) (f : Flag) : Prop := (t.port p).flags &&& f.bit = f.bit

/-- A flag is set on all ports. -/
def State.flagOnAll (t : State) (f : Flag) : Prop := ∀ p, t.flagOn p f

/-- The newest trend record holds the event `e`. -/
def State.lastEvent (t : State) (e : Event) : Prop := t.tlg.ring.getLast?.map (·.body) = some (.event e)

/-- `t` has the port state of `s` with these bits set in each port's flags, and no other change (R175). -/
def State.flagsRaised (t s : State) (bits : Port → BitVec 16) : Prop :=
  t.prt = { s.prt with ports := s.prt.ports.map (fun p x => { x with flags := x.flags ||| bits p }) }

/-- A write discards the record that port `p`'s cursor stands on (R154, R159). -/
def Tlg.losesAt (s : Tlg) (p : Port) : Bool :=
  decide (256 ≤ s.ring.length) && s.ring.head?.map (·.seq) == some (s.readers.get p).cursor

/-- Port `p`'s cursor and backlog after a write (R158, R159). -/
def Tlg.cursorThen (s : Tlg) (p : Port) : BitVec 32 :=
  if s.losesAt p then (s.readers.get p).cursor + 1 else (s.readers.get p).cursor
def Tlg.backlogThen (s : Tlg) (p : Port) : Nat := (s.nextSeq + 1 - s.cursorThen p).toNat

/-- The flags a write sets on port `p`: LOGLATE for a record lost, and the marks reached (R159, R160). -/
def Tlg.writeBits (s : Tlg) (p : Port) : BitVec 16 :=
  let r := s.readers.get p
  let b := s.backlogThen p
  (if s.losesAt p then Flag.loglate.bit else 0) ||| (if !r.m64 && decide (64 ≤ b) then Flag.logq.bit else 0) |||
  (if !r.m128 && decide (128 ≤ b) then Flag.logh.bit else 0) ||| (if !r.m192 && decide (192 ≤ b) then Flag.log3q.bit else 0)

/-- The trend log `t` is `s` after it wrote one record (R154, R158 to R160). -/
def Tlg.wrote (t s : Tlg) (body : RecordBody) : Prop :=
  t.ring = (if 256 ≤ s.ring.length then s.ring.tail else s.ring) ++ [⟨s.nextSeq, s.uptime, body⟩] ∧
  t.nextSeq = s.nextSeq + 1 ∧ t.uptime = s.uptime ∧ t.minute = s.minute ∧
  ∀ p,
    let r := s.readers.get p
    let b := s.backlogThen p
    t.readers.get p = ⟨s.cursorThen p, r.joinSample, r.joinEvent, decide (64 ≤ b), decide (128 ≤ b), decide (192 ≤ b)⟩

/-- One event was posted with a flag on all ports and a record, and nothing else at the ports and in the log
(R175, R157). -/
def State.posts (t s : State) (f : Flag) (e : Event) : Prop :=
  t.flagOnAll f ∧ t.lastEvent e ∧ t.tlg.wrote s.tlg (.event e) ∧
  t.flagsRaised s (fun p => f.bit ||| s.tlg.writeBits p)

/-- Nothing was posted. -/
def State.postsNothing (t s : State) : Prop := t.prt = s.prt ∧ t.tlg = s.tlg

/-! ### The state of a stage (R66, Table 4-2) -/

/-- The state of a stage with these accounting fields: by W, and at least WORN for a washable account at its wash
limit. -/
def Account.stateBy (a : Account) (cfg : FiltersConfig) (present : Bool) : StageState :=
  let wear := min 2000 (a.load / a.c)
  let limit := a.washable && decide (cfg.washLimit ≤ a.wash)
  if present = false then .absent
  else if wear < 50 then (if limit then .worn else .fresh)
  else if wear < cfg.worn then (if limit then .worn else .serviceable)
  else if wear < 1000 then .worn else .exhausted

/-! ### Hand-overs at the end of a step (R60, R61, R78, R103; log 4) -/

/-- The state that the DRC goes to from `x` when it applies its rule to the inputs held in `t`; `ran` says that
the run timer had reached 120 s (R107, R108, R113 to R115, R119, R121). -/
def State.dryingFrom (t : State) (ran : Bool) : DryState → DryState
  | .lockout => .lockout
  | .postRun => if t.afc.fault then .lockout else .postRun
  | .defrost => if t.afc.fault || t.sfe.coil.temp.isNone then .lockout else .defrost
  | .off | .satisfied | .hold | .startWait =>
    if t.afc.fault then .lockout
    else if t.choice = .startWait ∧ t.canStart = true then .pulldown
    else t.choice
  | x =>
    if t.afc.fault || t.sfe.coil.temp.isNone then .lockout
    else if t.safetyStop then (if t.afc.stalled || t.requiredAbsent then t.choice else .postRun)
    else if ran && t.normalStop then .postRun
    else x

/-- The drying record `x` after its state became `new`: an off compressor's timers are stopped and its check is
ended, and POST-RUN, PULLDOWN and LOCKOUT begin with their own values, `coil` the coil temperature and `reason` the
lockout's (R102, R108, R110, R111, R115, R121). A state kept leaves the record as it was. -/
def Drc.movedTo (x : Drc) (new : DryState) (coil : Option Int) (reason : LockReason) : Drc :=
  if new = x.state then x
  else
    let ended : PullRecord :=
      if x.pull.outcome = some .checking then { x.pull with outcome := some .noVerdict } else x.pull
    let y : Drc :=
      if x.state = .pulldown ∨ x.state = .running then
        { x with off := .counting 0, run := none, minRun := false, frost := none, pull := ended }
      else x
    match new with
    | .pulldown =>
      { y with state := new, run := some 0, minRun := false, frost := none, pull := ⟨coil, some 0, some .checking⟩ }
    | .postRun => { y with state := new, postRun := some 0 }
    | .lockout =>
      { y with
        state := new, reason := some reason, run := none, minRun := false, frost := none, defrost := none
        defrostEnd := none, postRun := none, pull := ended }
    | _ => { y with state := new }

/-- What a change of the drying state to `new` posts: DRY, and LOCKOUT with its record on entry to it (R121, R124). -/
def State.tellsDrying (v : State) (new : DryState) (reason : LockReason) : State :=
  if new = v.drc.state then v
  else if new = .lockout then ((v.postAll .dry).postAll .lockout).log (.lockout reason)
  else v.postAll .dry

/-- The reason of a lockout that the DRC enters by its rule: the fan's fault, or the coil reading (R121). -/
def State.dryingReason (v : State) : LockReason := if v.afc.fault then .fan else .coilSensor

/-- What the DRC keeps of the readings after it was handed these, none while INVALID: a VALID reading's values, and an
INVALID one's as they were last held (R103). -/
def HeldReadings.after (x : HeldReadings) (rh temp coil : Option Int) : HeldReadings :=
  ⟨match rh with
   | some n => n
   | none => x.rh,
   match temp with
   | some n => n
   | none => x.roomTemp,
   rh ≠ none,
   match coil with
   | some n => n
   | none => x.coil,
   coil ≠ none⟩

/-- `t` is `v` after its hand-overs and nothing else: D, the running indication, Q, the floor and the need are
published as `v` gives them, and the DRC applies its rule. Their order in the step is the model's choice (log 4). -/
def State.handsOn (t v : State) : Prop :=
  t.sameBut v [.fau, .afc, .drc, .tlg, .prt] ∧
  t.fau = { v.fau with d := v.derating, running := v.afc.isRunning } ∧
  t.afc = { v.afc with
    q := v.afc.airflow v.derating
    floor := v.afc.dryFloor v.sst.settings.airflow v.derating
    need := t.drc.needOf } ∧
  t.drc.state = t.dryingFrom v.drc.minRun v.drc.state ∧
  t.drc = Drc.movedTo { v.drc with
    readings := v.drc.readings.after v.rh v.roomTemp v.sfe.coil.temp
    call := nextCall v.dar.plan.dry v.rh v.drc.call
    cold := nextCold v.roomTemp v.drc.cold } t.drc.state v.sfe.coil.temp v.dryingReason ∧
  t.prt = (v.tellsDrying t.drc.state v.dryingReason).prt ∧ t.tlg = (v.tellsDrying t.drc.state v.dryingReason).tlg

/-! ### Time (log 1, log 2, log 22) -/

/-- A timer that counted on by `n` ms up to its limit. -/
def laterUpTo (limit n : Nat) (t : Timer) : Timer := t.map (fun e => min limit (e + n))

/-- `s` after `n` ms: every timer counted on. -/
def State.later (s : State) (n : Nat) : State :=
  let up := fun (limit : Nat) (t : Timer) => laterUpTo limit n t
  let switch := fun i : SwitchInput => { i with steady := up 20 i.steady }
  let slot := fun x : Slot => { x with settle := up 2000 x.settle, poll := up 2000 x.poll, reading := up 80 x.reading }
  let run := fun q : Sequence => { q with
    elapsed := up (match q.phase with
      | some .prime => 20000
      | some .transfer => 300000
      | some .verify => 10000
      | none => 0) q.elapsed
    flow := up 2000 q.flow, blockElapsed := up 15000 q.blockElapsed, highRelease := up 40000 q.highRelease
    sample := up 1000 q.sample }
  { s with
    now := s.now + n
    sfe := { s.sfe with
      particle := { s.sfe.particle with
        warmup := up 30000 s.sfe.particle.warmup, wait := up 10000 s.sfe.particle.wait }
      gas := { s.sfe.gas with wait := up 10000 s.sfe.gas.wait }
      bus := { s.sfe.bus with second := up 1000 s.sfe.bus.second, busy := up 25 s.sfe.bus.busy }
      tanksw := switch s.sfe.tanksw
      slots := ⟨switch s.sfe.slots.pre, switch s.sfe.slots.carb, switch s.sfe.slots.fine⟩
      mf0 := switch s.sfe.mf0, mf1 := switch s.sfe.mf1, mf2 := switch s.sfe.mf2
      tach := { s.sfe.tach with window := up 2000 s.sfe.tach.window } }
    dar := { s.dar with second := up 1000 s.dar.second }
    afc := { s.afc with
      fall := s.afc.fall.map (· + n), stallOff := up 30000 s.afc.stallOff, regulation := up 2000 s.afc.regulation }
    fau := { s.fau with period := if s.fau.running then min 15000 (s.fau.period + n) else s.fau.period }
    crd := { s.crd with slots := ⟨slot s.crd.slots.pre, slot s.crd.slots.carb, slot s.crd.slots.fine⟩ }
    drc := { s.drc with
      off := match s.drc.off with
        | .counting e => .counting (min 180000 (e + n))
        | x => x
      run := if s.drc.minRun then s.drc.run.map (· + n) else up 120000 s.drc.run
      pull := { s.drc.pull with elapsed :=
        if s.drc.pull.outcome = some .checking then up 240000 s.drc.pull.elapsed else s.drc.pull.elapsed }
      frost := up 60000 s.drc.frost, defrost := up 900000 s.drc.defrost, defrostEnd := up 30000 s.drc.defrostEnd
      postRun := up 60000 s.drc.postRun }
    cdc := { s.cdc with
      settle := up 2000 s.cdc.settle, release := up 5000 s.cdc.release, seq := s.cdc.seq.map run }
    tlg := { s.tlg with minute := up 60000 s.tlg.minute }
    prt := { s.prt with gap := up 21 s.prt.gap, handover := up 100 s.prt.handover }
    sst := { s.sst with readTimer := up 50 s.sst.readTimer } }

/-- The expiries in the order in which they are taken, each with whether it is due in `s`. -/
def State.expiries (s : State) : List (Bool × Instr) :=
  let at' := fun (limit : Nat) (t : Timer) => t == some limit
  let switch := fun sw : Switch => (at' 20 (s.sfe.switch sw).steady, Instr.switchChangeAccepted sw)
  let slot := fun st : Stage =>
    [((s.slot st).state == .settling && at' 2000 (s.slot st).settle, Instr.slotSettleEnd st),
     (at' 80 (s.slot st).reading, .tagReadAbandon st), (at' 2000 (s.slot st).poll, .tagReadTime st)]
  let inPhase := fun (ph : Phase) (due : Sequence → Bool) =>
    s.cdc.seq.any (fun q => q.status == .running && q.phase == some ph && due q)
  let byTime := s.method == .floats && s.flowInput.isNone
  let dry := fun st : DryState => s.drc.state == st
  [(at' 30000 s.sfe.particle.warmup, .particleWarmupEnd), (at' 10000 s.sfe.particle.wait, .particleTimeout),
   (at' 25 s.sfe.bus.busy, .busTransactionTimeout), (at' 1000 s.sfe.bus.second, .privateBusSecond),
   (at' 10000 s.sfe.gas.wait, .gasTimeout), switch .tanksw, switch (.slot .pre), switch (.slot .carb),
   switch (.slot .fine), switch .mf0, switch .mf1, switch .mf2,
   (at' 2000 s.sfe.tach.window, .fanSpeedWindowEnd), (at' 1000 s.dar.second, .darSecondTimer)] ++
  slot .pre ++ slot .carb ++ slot .fine ++
  [(s.fau.running && s.fau.period == 15000, .accountingTick),
   (at' 2000 s.afc.regulation, .regulationBoundary), (at' 30000 s.afc.stallOff, .stallOffTimer),
   (s.cdc.presence == .settling && at' 2000 s.cdc.settle, .tankSettleEnd),
   (!s.cdc.released && at' 5000 s.cdc.release, .fullReleaseTimer),
   (s.cdc.seq.any (fun q => q.status == .running && at' 1000 q.sample), .pumpSample),
   (inPhase .prime (fun q => at' 2000 q.flow), .flowTimerPass),
   (inPhase .prime (fun q => byTime && decide (10000 ≤ q.elapsed.getD 0)), .primeFloatsTimePass),
   (inPhase .prime (fun q => !byTime && decide (20000 ≤ q.elapsed.getD 0)), .primeTimeout),
   (inPhase .transfer (fun q => at' 40000 q.highRelease), .highReleaseEnd),
   (inPhase .transfer (fun q => decide (300000 ≤ q.elapsed.getD 0)), .transferTimeout),
   (inPhase .verify (fun q => decide (10000 ≤ q.elapsed.getD 0)), .verifyEnd),
   (s.drc.off == .counting 180000, .offTimerPassed),
   (dry .pulldown && s.drc.pull.outcome == some .checking && at' 240000 s.drc.pull.elapsed, .pulldownCheckExpiry),
   ((dry .pulldown || dry .running) && !s.drc.minRun && at' 120000 s.drc.run, .minimumRunEnd),
   (dry .postRun && at' 60000 s.drc.postRun, .postRunEnd), (dry .running && at' 60000 s.drc.frost, .frostDetected),
   (dry .defrost && at' 30000 s.drc.defrostEnd, .defrostSuccess),
   (dry .defrost && at' 900000 s.drc.defrost, .defrostTimeout), (at' 60000 s.tlg.minute, .minuteTimer),
   (at' 100 s.prt.handover, .restartHandoverTimeout), (s.sst.restart == .drained, .warmReset),
   (at' 21 s.prt.gap, .linkGapTimeout),
   (s.sst.reading.isSome && s.sst.startUp == .reading && at' 50 s.sst.readTimer,
     .regionReadTimeout (s.sst.reading.getD .config))]

/-! ### Runs of the pump-out (R137, R142, R143, R145, R147 to R149) -/

/-- `t` is `u` after its run, with record `q`, entered phase `ph`: the levels begin at the level held (none when
it is UNKNOWN, log 11, and absent under FLOATS) and the phase's own timers start. -/
def State.entersPhase (t u : State) (q : Sequence) (ph : Phase) : Prop :=
  let lvl := match u.level with
    | .ml n => some n
    | _ => none
  t = u.setCdc { u.cdc with
    pump := decide (ph ≠ .verify)
    seq := some { q with
      phase := some ph, phaseStart := lvl, elapsed := some 0
      lowest := if ph = .verify then none else lvl
      flow := if ph = .prime ∧ u.flowInput = some true then some 0 else none
      blockMark := if ph = .transfer then lvl else none
      blockElapsed := if ph = .transfer ∧ u.method = .probe then some 0 else none
      highRelease := if ph = .transfer ∧ u.floatHigh = some false then some 0 else none
      verifyStart := if ph = .verify then lvl else none
      floatClosed := if ph = .verify then u.floatHigh else none } }

/-- The record `q` with its run over, its status and its condition given. -/
def Sequence.over (q : Sequence) (st : SeqStatus) (c : Condition) : Sequence :=
  { q with status := st, condition := c
           elapsed := none, flow := none, blockElapsed := none, highRelease := none, sample := none }

/-- `t` is `u` after its run, with record `q`, ended: the pump is off, and PUMP and PUMP-RESULT are posted. -/
def State.endsRun (t u : State) (q : Sequence) (st : SeqStatus) (c : Condition) : Prop :=
  t.sameBut u [.cdc, .tlg, .prt] ∧ t.cdc = { u.cdc with seq := some (q.over st c), pump := false } ∧
  t.posts u .pump (.pumpResult q.phase c)

/-! ### Resets, the store and the log -/

/-- The parts that a reset clears (Table 10-3). -/
def volatileParts : List Part := [.kind, .sfe, .dar, .afc, .fau, .crd, .drc, .cdc, .tlg, .prt, .sst]

/-- No block has started: the ports are idle, the SST is READING with nothing to write, the read of its first
region begun unless the part has no supply or is held in reset, the blocks hold nothing, and the log's readers
stand at the oldest record with its minute timer stopped (R180, R191). What a block holds before its start is the
model's choice (log 14). -/
def State.atStart (t : State) : Prop :=
  (∀ p, t.port p = .idle ∧ t.attention p = false) ∧ t.prt = .idle ∧
  t.sst = (if t.live then .begin else .idle) ∧ t.sfe = .idle ∧ t.dar = .idle ∧ t.crd = .idle ∧ t.drc = .idle ∧
  t.cdc = .idle ∧ t.comp = false ∧
  t.afc =
    { bankA := factoryCurve, bankB := factoryCurve, active := .a, pendingBank := none, band := none, fall := none
      target := 0, actual := 0, duty := 0, lowCount := 0, stalled := false, stallOff := none, history := []
      fault := false, q := 0, floor := some 3, limitedBy := .filter, regulation := none, need := .none } ∧
  t.fau =
    { accounts := freshAccounts .factory false, rIn := 0, rG := 0, period := 0, running := false, tickCount := 0
      periodic := 0, dirty := false, lastTick := none, d := 0 } ∧
  t.tlg.minute = none ∧
  (let n := t.tlg.ring.length
   ∀ p, t.tlg.readers.get p =
     ⟨(t.tlg.ring.head?.map (·.seq)).getD t.tlg.nextSeq, true, true, decide (64 ≤ n), decide (128 ≤ n), decide (192 ≤ n)⟩)

/-- The log's records, numbers and uptime are kept (R164). -/
def Tlg.keeps (t s : Tlg) : Prop := t.ring = s.ring ∧ t.nextSeq = s.nextSeq ∧ t.uptime = s.uptime

/-- A region's contents break one of its rules (R183). -/
def Store.breaksRule (x : Store) : Region → Prop
  | .config => Settings.ofImage x.config.contents = none
  | .filters => ∃ st, (x.filters.contents.get st).c = 0 ∨ 1000 < (x.filters.contents.get st).e ∨
      1000 < (x.filters.contents.get st).k ∨
      2000 * (x.filters.contents.get st).c < (x.filters.contents.get st).load
  | .recent => 4 < x.recent.contents.length ∨ ∃ e ∈ x.recent.contents, e.serial = 0 ∨ e.stage = none
  | .lockout => x.lockout.contents = .other

/-- A region's check word does not match (R183). -/
def Store.torn (x : Store) : Region → Prop
  | .config => x.config.intact = false
  | .filters => x.filters.intact = false
  | .recent => x.recent.intact = false
  | .lockout => x.lockout.intact = false

/-- The owners take `l` from the store: a region in `bad` is replaced by its starting contents, another gives what
it holds (Table 10-1, R86). -/
def Loaded.takenFrom (l : Loaded) (x : Store) (bad : RegionSet) : Prop :=
  (if bad.config then l.settings = .factory else Settings.ofImage x.config.contents = some l.settings) ∧
  (∀ st, l.accounts.get st =
    if bad.filters then
      { serial := none, c := (l.settings.untagged.get st).c, e := (l.settings.untagged.get st).e
        k := (l.settings.untagged.get st).k, washable := (l.settings.untagged.get st).washable
        load := 0, rem := 0, wash := 0, unverified := false, historyLost := true }
    else { x.filters.contents.get st with rem := 0 }) ∧
  (if bad.recent then l.recent = []
    else x.recent.contents = l.recent.map (fun e => ⟨e.serial, some e.stage, e.load, e.wash⟩)) ∧
  (if bad.lockout then l.reason = none
    else x.lockout.contents = match l.reason with
      | none => .none
      | some .noPulldown => .noPulldown
      | some .defrost => .defrost)

/-- `new` is `old` after its cleaning: in order, each entry with no current account's serial and no serial that
stands at a more recent place (R101). -/
def listCleaned (accounts : PerStage Account) (old new : List RecentEntry) : Prop :=
  new.Sublist old ∧ (new.map (·.serial)).Nodup ∧
  (∀ e ∈ new, ∀ st, (accounts.get st).serial ≠ some e.serial) ∧
  ∀ i e, old[i]? = some e → (∀ st, (accounts.get st).serial ≠ some e.serial) →
    (∀ (j : Nat) (x : RecentEntry), j < i → old[j]? = some x → x.serial ≠ e.serial) → e ∈ new

/-- Every block but the trend log, the ports and the store's own stands at its chapter's starting values
(R18, R44, R63, R86, R89, R101, R127, R153). -/
def State.blocksStart (t : State) (l : Loaded) : Prop :=
  let x := l.settings
  let closed : SwitchInput := ⟨false, false, some 0⟩
  let input := fun f : MfFunction => if f = .none ∨ f = .probe then ⟨false, false, none⟩ else closed
  let slot := fun poll : Nat => (⟨.empty, none, 0, none, none, false, some poll, none⟩ : Slot)
  t.sfe =
    { particle := ⟨some 0, [], none, false, none⟩, gas := ⟨[], none⟩, room := ⟨[], [], 0⟩, coil := ⟨none, 0⟩
      probe := ⟨[], 0⟩, bus := ⟨some 1000, true, false, none, none⟩
      tanksw := closed, slots := ⟨closed, closed, closed⟩
      mf0 := input x.terminals.mf0, mf1 := input x.terminals.mf1, mf2 := input x.terminals.mf2
      tach := ⟨0, some 0, 0⟩ } ∧
  t.dar = ⟨[], 0, ⟨none, none, true, none, none, none, none, none, none⟩, some 0⟩ ∧
  t.afc =
    { bankA := x.curve, bankB := x.curve, active := .a, pendingBank := none, band := none, fall := none
      target := 0, actual := 0, duty := 0, lowCount := 0, stalled := false, stallOff := none, history := []
      fault := false, q := 0, floor := t.afc.dryFloor x.airflow 0
      limitedBy := if x.drying.required = ⟨false, false, false⟩ then .none else .filter
      regulation := some 0, need := .none } ∧
  t.fau =
    { accounts := l.accounts, rIn := 0, rG := 0, period := 0, running := false, tickCount := 0, periodic := 0
      dirty := false, lastTick := none, d := 0 } ∧
  t.crd.slots = ⟨slot 2000, slot 1500, slot 1000⟩ ∧ listCleaned l.accounts l.recent t.crd.recent ∧
  t.drc =
    { state := if l.reason = none then .off else .lockout, readings := ⟨0, 0, false, 0, false⟩, call := false, cold := false, off := .counting 0
      run := none, minRun := false, pull := ⟨none, none, none⟩, pullFails := 0, frost := none, cause := none
      defrost := none, defrostEnd := none, defrostFails := 0, postRun := none
      reason := match l.reason with
        | some .noPulldown => some .noPulldown
        | some .defrost => some .defrost
        | none => none } ∧
  t.cdc = ⟨.absent, none, if x.terminals.method = .floats then some 0 else none, false, false, false, none⟩

/-- `t` is the trend log `s` after a start that writes these events: the records join the ring, which keeps the
newest 256, and every port's cursor stands on the oldest with both kinds joined and its marks at the backlog
(R154, R164). -/
def Tlg.startsFrom (t s : Tlg) (events : List Event) : Prop :=
  let all := s.ring ++ events.mapIdx (fun i e => ⟨s.nextSeq + BitVec.ofNat 32 i, s.uptime, .event e⟩)
  let n := t.ring.length
  t.ring = all.drop (all.length - 256) ∧ t.nextSeq = s.nextSeq + BitVec.ofNat 32 events.length ∧
  t.uptime = s.uptime ∧ t.minute = some 0 ∧
  ∀ p, t.readers.get p =
    ⟨(t.ring.head?.map (·.seq)).getD t.nextSeq, true, true, decide (64 ≤ n), decide (128 ≤ n), decide (192 ≤ n)⟩

/-- A region after a write: saved from its copy, or as it was (R189). -/
def Stored.savedAs {α : Type} (new old : Stored α) (copy : Option α) (failed : Bool) : Prop :=
  match copy with
  | none => new = old
  | some x => if failed then new = old else new = ⟨x, true⟩

/-- A region after a write was cut off, `n` regions of the write standing before it (R183, R189): saved from its copy
when it was done with and verified, as the operand says when it was being written, and otherwise as it was. -/
def Stored.cutTo {α : Type} (new old : Stored α) (copy : Option α) (n : Nat) (failed : Bool) (x : CutOff) : Prop :=
  match copy with
  | none => new = old
  | some y =>
    (n < x.finished → new = if failed then old else ⟨y, true⟩) ∧
    (n = x.finished → new = match x.torn with
      | .fails => { old with intact := false }
      | .keepsOld => old
      | .holdsNew => ⟨y, true⟩) ∧
    (x.finished < n → new = old)

/-- A checkpoint of the regions is being written or is pending (R188). -/
def State.asked (t : State) (rs : RegionSet) : Prop :=
  ∀ r, rs.has r = true → t.sst.writingRegions.has r = true ∨ t.sst.pendingWrite.has r = true

/-- Port `p`'s reception has ended, as its frame is judged (R178). -/
def State.heard (s : State) (p : Port) : State := s.setRx p none

/-! ### The order of strength (R38) -/

/-- `x`, at place `i` of the arrival order, is stronger than `y` at place `j`. -/
def Demand.stronger (x : Demand) (i : Nat) (y : Demand) (j : Nat) : Prop :=
  y.rank.num < x.rank.num ∨
  (y.rank = x.rank ∧ (portWeight y.origin < portWeight x.origin ∨ (y.origin = x.origin ∧ j < i)))

/-! ### The layouts of the READ payloads (R181, Tables 9-9 to 9-14)

A layout lists a payload's fields in order, each as its width in bytes and the number it carries. -/

/-- The bytes of a layout, least significant byte of a field first (9.8). -/
def spell (fields : List (Nat × Nat)) : List Byte := fields.flatMap (fun f => le f.1 f.2)

/-- A one-byte and a two-byte number, absent as all ones. -/
def byteOr (x : Option Nat) : Nat := x.getD 0xFF
def wordOr (x : Option Nat) : Nat := x.getD 0xFFFF

/-- A yes or no, set or clear, VALID or INVALID: 1 or 0. -/
def yesNo (b : Bool) : Nat := if b then 1 else 0

/-- Another two-valued field: 0 for the first value listed. -/
def firstOr (b : Bool) : Nat := if b then 0 else 1

/-- A set, its first member lowest. -/
def members (bits : List Bool) : Nat := bits.foldr (fun b n => yesNo b + 2 * n) 0

/-- Signed tenths in two bytes, 0x8000 when absent. -/
def tenthsOr : Option Int → Nat
  | none => 0x8000
  | some x => (x % 65536).toNat

/-- A time in tenths of a second, at most 65533. -/
def tenthsOf (ms : Nat) : Nat := min 65533 (ms / 100)

/-- A timer, 0xFFFF when it is stopped. -/
def timerOr : Timer → Nat
  | none => 0xFFFF
  | some ms => tenthsOf ms

/-- A serial, 0 when absent. -/
def serialOr (x : Option (BitVec 32)) : Nat := (x.map BitVec.toNat).getD 0

/-- A governing reference or halt origin: port × 4 + slot. -/
def refOr : Option DemandRef → Nat
  | none => 0xFF
  | some r => [Port.panel, .link, .service].idxOf r.port * 4 + r.slot

/-- The code of a terminal's function (R184). -/
def functionPlace (f : MfFunction) : Nat :=
  [MfFunction.none, .probe, .floatHigh, .floatFull, .pumpFlow, .powerFailWarn].idxOf f

def stagePlace (st : Stage) : Nat := [Stage.pre, .carb, .fine].idxOf st

/-- READ-SENSORS (R17; log 12). -/
def State.sensorsLayout (s : State) : List (Nat × Nat) :=
  let x := s.sfe
  let tm := s.sst.settings.terminals
  [(2, wordOr s.pmA), (2, wordOr (if s.pmA.isSome then x.particle.last else none)), (1, yesNo x.particle.saturated),
   (1, yesNo s.pmA.isSome), (1, yesNo x.particle.warmup.isSome),
   (2, wordOr s.va), (1, yesNo s.va.isSome),
   (2, tenthsOr s.rh), (2, tenthsOr s.roomTemp), (1, yesNo s.rh.isSome),
   (2, tenthsOr x.coil.temp), (1, yesNo x.coil.temp.isSome),
   (2, wordOr s.probeLevel), (2, x.tach.rpm),
   (1, members [x.tanksw.accepted, x.slots.pre.accepted, x.slots.carb.accepted, x.slots.fine.accepted]),
   (1, byteOr ((s.functionLevel .floatHigh).map yesNo)), (1, byteOr ((s.functionLevel .floatFull).map yesNo)),
   (1, byteOr ((s.functionLevel .pumpFlow).map yesNo)), (1, byteOr ((s.functionLevel .powerFailWarn).map yesNo)),
   (1, functionPlace tm.mf0), (1, functionPlace tm.mf1), (1, functionPlace tm.mf2), (1, firstOr (tm.method == .probe))]

/-- The number of an air request and of a dry target (Table 9-11). -/
def airNumber : Option AirRequest → Nat
  | none => 0xFF
  | some (.step n) => n
  | some .auto => 0x0B
def dryNumber : Option DryTarget → Nat
  | none => 0xFF
  | some (.percent n) => n
  | some .continuous => 0x73

/-- READ-PLAN (Table 9-11). -/
def State.planLayout (s : State) : List (Nat × Nat) :=
  let x := s.dar.plan
  [(2, s.dar.version.toNat),
   (1, members [x.air.isSome || x.dry.isSome, x.haltRef.isSome, x.allowed, x.air.isSome, x.ceiling.isSome, x.dry.isSome]),
   (1, airNumber x.air), (1, byteOr x.ceiling), (1, dryNumber x.dry),
   (1, byteOr (x.haltRank.map (fun r => [Rank.off, .r1, .r2, .r3].idxOf r))), (1, refOr x.haltRef),
   (1, refOr x.airRef), (1, refOr x.dryRef), (1, refOr x.quietRef)]

/-- The kind and argument of a demand entry (Table 9-10). -/
def askNumber : Ask → Nat
  | .halt => 0x00
  | .air (.step n) => n
  | .air .auto => 0x0B
  | .quiet c true => 0x10 + c
  | .quiet c false => 0x20 + c
  | .dry (.percent n) => 0x40 + (n - 30)
  | .dry .continuous => 0x73

/-- One entry of READ-DEMANDS (Table 9-10); whole minutes are rounded up (R43). -/
def Demand.layout (e : Demand) : List (Nat × Nat) :=
  let m := match e.remaining with
    | none => 0
    | some r => (r + 59) / 60
  [(1, [Port.panel, .link, .service].idxOf e.origin * 64 + e.slot * 16 +
      [Standing.governing, .outranked, .suppressed].idxOf e.standing * 4 + m / 256 % 4),
   (1, m / 1024 % 2 * 128 + askNumber e.ask), (1, m % 256)]

/-- READ-DEMANDS (Table 9-10). -/
def State.demandsLayout (s : State) : List (Nat × Nat) :=
  let rank := fun p => [Rank.off, .r1, .r2, .r3].idxOf (s.rank p)
  [(2, s.dar.version.toNat), (1, rank .panel + 4 * rank .link + 16 * rank .service)] ++
    s.dar.table.flatMap Demand.layout

/-- READ-AIRFLOW STATUS (R62). -/
def State.airflowLayout (s : State) : List (Nat × Nat) :=
  let x := s.afc
  [(1, firstOr (x.active == .a)), (1, byteOr (x.pendingBank.map (fun n => firstOr (n == .a)))),
   (1, x.target), (1, x.actual), (2, x.duty),
   (1, autoStep x.band), (1, x.band.getD 0), (2, timerOr x.fall),
   (1, [LimitedBy.none, .ceiling, .need, .filter, .stall, .fault].idxOf x.limitedBy),
   (1, firstOr (!x.stalled)), (1, x.lowCount), (1, x.history.length), (1, yesNo x.fault),
   (2, s.sfe.tach.rpm), (2, s.fau.d), (2, x.q), (1, byteOr x.floor), (1, [Need.none, .floor, .defrost].idxOf x.need)]

/-- READ-AIRFLOW BANK A and BANK B (R62; log 12). -/
def State.bankLayout (s : State) (n : BankName) : List (Nat × Nat) :=
  (s.afc.bank n).flatMap (fun x => [(2, x.duty), (2, x.qnom)]) ++
    [(1, if s.afc.active = n then 0 else if s.afc.pendingBank = some n then 1 else 2)]

/-- A stage account (Table 9-12). -/
def State.stageLayout (s : State) (st : Stage) : List (Nat × Nat) :=
  let a := s.fau.accounts.get st
  [(1, stagePlace st), (1, yesNo (s.stagePresent st)),
   (1, [StageState.absent, .fresh, .serviceable, .worn, .exhausted].idxOf (s.stageState st)),
   (1, members [a.serial.isSome, a.washable, a.unverified, a.historyLost]), (4, serialOr a.serial),
   (2, a.c), (2, a.e), (2, a.k), (4, a.load), (2, min 2000 (a.load / a.c)), (2, a.rem), (1, a.wash)]

/-- READ-FILTERS UNIT (R85; log 33, log 62). -/
def State.unitLayout (s : State) : List (Nat × Nat) :=
  let f := s.fau
  let cfg := s.sst.settings.filters
  [(2, f.d), (2, f.rIn), (2, f.rG), (2, tenthsOf f.period), (1, firstOr f.running),
   (4, f.tickCount.toNat), (1, f.periodic), (1, yesNo f.dirty), (2, cfg.worn), (1, cfg.washLimit), (2, cfg.fallbackPm)]

/-- READ-FILTERS LAST-TICK (Table 4-4; log 12, log 33). -/
def lastTickLayout : Option LastTick → List (Nat × Nat)
  | none => [4, 2, 1, 2, 1, 2, 2, 2, 2, 2, 2, 2, 2, 2, 2].map (fun w => (w, 256 ^ w - 1))
  | some r =>
    [(4, r.number.toNat), (2, r.pm), (1, firstOr (!r.pmSubstituted)), (2, r.v), (1, firstOr (!r.vSubstituted)),
     (2, r.q), (2, r.mIn), (2, wordOr r.captured.pre), (2, wordOr r.captured.carb), (2, wordOr r.captured.fine),
     (2, r.escaped), (2, wordOr r.gas), (2, wordOr r.discarded.pre), (2, wordOr r.discarded.carb),
     (2, wordOr r.discarded.fine)]

/-- A slot and the binding of its stage (R100, Table 5-2). -/
def State.slotLayout (s : State) (st : Stage) : List (Nat × Nat) :=
  let x := s.slot st
  let a := s.fau.accounts.get st
  [(1, [SlotState.empty, .settling, .identifying, .tagged, .untagged, .mismatch].idxOf x.state),
   (1, members [(s.sfe.slots.get st).accepted]), (1, x.fails),
   (4, serialOr (x.tag.map (·.serial))), (1, byteOr (x.tag.map (fun g => stagePlace g.stageType))),
   (2, wordOr (x.tag.map (·.c))), (2, wordOr (x.tag.map (·.e))), (2, wordOr (x.tag.map (·.k))),
   (1, byteOr (x.tag.map (fun g => yesNo g.washable))),
   (1, byteOr (x.cause.map (fun c => [MismatchCause.wrongType, .duplicateSerial].idxOf c))), (1, yesNo x.removed),
   (1, firstOr a.serial.isSome), (4, serialOr a.serial)]

/-- The recent list (Table 5-4). -/
def State.listLayout (s : State) : List (Nat × Nat) :=
  s.crd.recent.flatMap (fun e => [(4, e.serial.toNat), (1, stagePlace e.stage), (4, e.load), (1, e.wash)])

def dryPlace (x : DryState) : Nat :=
  [DryState.off, .satisfied, .hold, .startWait, .pulldown, .running, .defrost, .postRun, .lockout].idxOf x

/-- READ-DRYING (R125; log 12, log 37). -/
def State.dryingLayout (s : State) : List (Nat × Nat) :=
  let d := s.drc
  let h := s.holds
  let target := match s.dar.plan.dry with
    | some (.percent n) => some (n : Int)
    | _ => none
  [(1, dryPlace d.state),
   (1, byteOr (d.reason.map (fun r => [LockReason.noPulldown, .defrost, .coilSensor, .fan].idxOf r))),
   (1, yesNo (d.reason == some .noPulldown || d.reason == some .defrost)),
   (1, dryNumber s.dar.plan.dry), (2, tenthsOr (target.map (fun n => 10 * n + 30))),
   (2, tenthsOr (target.map (fun n => 10 * n - 20))), (1, yesNo d.call), (1, yesNo d.cold),
   (1, members [h.tank, h.quiet, h.airflow, h.sensor, h.cold, h.filter]),
   (2, match d.off with
     | .stopped => 0xFFFF
     | .counting ms => tenthsOf ms
     | .passed => 0xFFFE),
   (2, timerOr d.run), (1, yesNo s.stopPending),
   (2, tenthsOr d.pull.start), (2, timerOr d.pull.elapsed),
   (1, byteOr (d.pull.outcome.map (fun x => [PullOutcome.checking, .passed, .failed, .noVerdict].idxOf x))),
   (1, d.pullFails), (2, timerOr d.frost),
   (1, byteOr (d.cause.map (fun c => [DefrostCause.frost, .forced].idxOf c))), (2, timerOr d.defrost),
   (2, timerOr d.defrostEnd), (1, d.defrostFails), (2, timerOr d.postRun),
   (1, [Need.none, .floor, .defrost].idxOf s.afc.need), (1, byteOr s.afc.floor), (1, s.afc.actual),
   (1, firstOr (!s.afc.stalled)), (1, yesNo s.afc.fault), (1, firstOr (s.sst.settings.drying.policy == .retry))]

/-- The number of a level (Table 9-13). -/
def levelNumber : Level → Nat
  | .ml n => n
  | .belowHigh => 0
  | .high => 1
  | .full => 2
  | .unknown => 0xFFFF

/-- READ-TANK TANK (Table 9-13; log 43). -/
def State.tankLayout (s : State) : List (Nat × Nat) :=
  let c := s.cdc
  let floats := s.method == .floats
  [(1, [Presence.absent, .settling, .present].idxOf c.presence), (2, timerOr c.settle), (1, firstOr (!floats)),
   (2, levelNumber s.level), (1, members [floats && s.sfe.mf0.accepted, floats && s.sfe.mf1.accepted]),
   (2, timerOr c.release), (1, yesNo c.full), (1, byteOr (s.flowInput.map yesNo)), (1, firstOr c.pump),
   (1, firstOr (s.tankCfg.drain == .bucket)), (2, s.tankCfg.empty), (2, s.tankCfg.pumpStart), (2, s.tankCfg.resume),
   (2, s.tankCfg.full)]

def phasePlace (ph : Phase) : Nat := [Phase.prime, .transfer, .verify].idxOf ph

/-- READ-TANK SEQUENCE (Table 9-13; log 12). -/
def sequenceLayout : Option Sequence → List (Nat × Nat)
  | none =>
    (1, 0) :: [1, 1, 2, 2, 2, 2, 1, 2, 2, 2, 2, 2, 2, 2, 2, 1, 1].map (fun w => (w, 256 ^ w - 1))
  | some q =>
    [(1, [SeqStatus.running, .stopped, .complete].idxOf q.status + 1), (1, byteOr (q.phase.map phasePlace)),
     (1, [Origin.auto, .port .panel, .port .link, .port .service].idxOf q.origin), (2, levelNumber q.startLevel),
     (2, wordOr q.target), (2, wordOr q.remaining), (2, wordOr q.moved),
     (1, [Condition.none, .noPrime, .blocked, .backflow, .timeout, .tankRemoved, .aborted, .checkFailed].idxOf
       q.condition),
     (2, wordOr q.phaseStart), (2, wordOr q.lowest), (2, timerOr q.elapsed), (2, timerOr q.flow),
     (2, wordOr q.blockMark), (2, timerOr q.blockElapsed), (2, timerOr q.highRelease), (2, wordOr q.verifyStart),
     (1, byteOr (q.floatClosed.map yesNo)), (1, if q.status = .running then yesNo q.abort else 0xFF)]

/-- READ-CONFIG STORE (R187). -/
def State.storeLayout (s : State) : List (Nat × Nat) :=
  let set := fun r : RegionSet => (1, members [r.config, r.filters, r.recent, r.lockout])
  [set s.sst.writingRegions, set s.sst.pendingWrite, set s.sst.unsaved, set s.sst.replaced]

/-- The subject and the value of an event's record (Tables 8-1 and 9-14; log 12). -/
def Event.fields : Event → Option Nat × Option Nat
  | .demandExpired r => (some (refOr (some r)), none)
  | .demandDropped r c => (some (refOr (some r)), some ([DropCause.serviceClear, .rankOff].idxOf c))
  | .filterState st v =>
    (some (stagePlace st), if v = .absent then none
      else some ([StageState.fresh, .serviceable, .worn, .exhausted].idxOf v))
  | .cartridge st v => (some (stagePlace st), some (match v with
      | .removed => 0
      | .mismatch .wrongType => 1
      | .mismatch .duplicateSerial => 2
      | .resumed => 3
      | .listed => 4
      | .newTagged => 5
      | .newUntagged => 6
      | .evicted _ => 7
      | .forgotten _ => 8))
  | .tank v => (none, some ([TankValue.present, .absent, .full, .notFull].idxOf v))
  | .pumpResult ph v => (ph.map phasePlace, some
      ([Condition.none, .noPrime, .blocked, .backflow, .timeout, .tankRemoved, .aborted, .checkFailed].idxOf v))
  | .lockout r => (none, some ([LockReason.noPulldown, .defrost, .coilSensor, .fan].idxOf r))
  | .lockoutCleared r => (none, some ([LockReason.noPulldown, .defrost, .coilSensor, .fan].idxOf r))
  | .defrost v => (none, some ([DefrostValue.frost, .forced, .success, .timeout].idxOf v))
  | .fan v => (none, some ([FanValue.stall, .fault, .cleared].idxOf v))
  | .sensor x valid => (some ([Sensor.particle, .gas, .room, .coil, .probe].idxOf x), some (firstOr valid))
  | .curve n => (none, some (firstOr (n == .a)))
  | .store r v =>
    (some ([Region.config, .filters, .recent, .lockout].idxOf r), some ([StoreValue.replaced, .writeFailed].idxOf v))
  | .restart k => (none, some ([ResetKind.powerOn, .resetn, .restart].idxOf k))

/-- The place of an event in Table 8-1, from 1 on: its record's code byte. -/
def eventPlace : Event → Nat
  | .demandExpired _ => 1 | .demandDropped _ _ => 2 | .filterState _ _ => 3 | .cartridge _ _ => 4 | .tank _ => 5
  | .pumpResult _ _ => 6 | .lockout _ => 7 | .lockoutCleared _ => 8 | .defrost _ => 9 | .fan _ => 10
  | .sensor _ _ => 11 | .curve _ => 12 | .store _ _ => 13 | .restart _ => 14

/-- A trend record (9.8). -/
def TrendRecord.layout (r : TrendRecord) : List (Nat × Nat) :=
  match r.body with
  | .sample x =>
    [(1, 0), (4, r.seq.toNat), (4, r.minute.toNat),
     (2, members [x.pm.isSome, x.v.isSome, x.rh.isSome, x.room.isSome, x.coil.isSome, x.level.isSome,
       x.wear.pre.isSome, x.wear.carb.isSome, x.wear.fine.isSome]),
     (2, wordOr x.pm), (2, wordOr x.v), (2, tenthsOr x.rh), (2, tenthsOr x.room), (2, tenthsOr x.coil),
     (1, x.step), (2, x.q), (1, dryPlace x.drying), (2, wordOr x.level),
     (2, wordOr x.wear.pre), (2, wordOr x.wear.carb), (2, wordOr x.wear.fine)]
  | .event e =>
    [(1, eventPlace e), (4, r.seq.toNat), (4, r.minute.toNat), (1, byteOr e.fields.1), (1, byteOr e.fields.2)] ++
    match e with
    | .cartridge _ (.evicted n) => [(4, n.toNat)]
    | .cartridge _ (.forgotten n) => [(4, n.toNat)]
    | _ => []

/-! ### Safe runs -/

/-- The part goes on from `s`: neither a fault nor a refusal. -/
def State.safe (s : State) : Prop := ∃ t, step s = .next t

/-- A property every step keeps. -/
def keptByStep (inv : State → Prop) : Prop := ∀ s t, inv s → step s = .next t → inv t

/-! ### Laws -/

/-- The CONFIG in force is one that every check accepts (R14, R19, R45, R83, R135). -/
def State.configLaw (s : State) : Prop := s.sst.settings.valid = true

/-- The compressor is on only while the tank is PRESENT with the FULL flag clear and level known, every
required stage is present, and the fan is neither stalled nor in fault (R102). -/
def State.compressorLaw (s : State) : Prop :=
  s.drc.state.on = true →
    s.cdc.presence = .present ∧ s.cdc.full = false ∧ s.level.known = true ∧ s.requiredAbsent = false ∧
    s.afc.stalled = false ∧ s.afc.fault = false

/-- The pump is driven in PRIME and TRANSFER of a RUNNING sequence (R136, R142, R143, R145, R149). -/
def pumpWanted : Option Sequence → Bool
  | some q => q.status == .running && (q.phase == some .prime || q.phase == some .transfer)
  | none => false

/-- No sequence is RUNNING while the tank is not PRESENT, a RUNNING one is in a phase, and the pump is driven
in its PRIME and TRANSFER alone (R136, R149). -/
def State.pumpLaw (s : State) : Prop :=
  s.cdc.pump = pumpWanted s.cdc.seq ∧
  ∀ q, s.cdc.seq = some q → q.status = .running → s.cdc.presence = .present ∧ q.phase.isSome = true

/-- The ring holds at most 256 records with consecutive sequence numbers, and each cursor lies between the
oldest held and the newest plus one (R154). -/
def Tlg.lawful (t : Tlg) : Prop :=
  t.ring.length ≤ 256 ∧
  (∀ i r, t.ring[i]? = some r → r.seq = t.nextSeq - BitVec.ofNat 32 (t.ring.length - i)) ∧
  ∀ p, t.backlog (t.readers.get p) ≤ t.ring.length

def State.ringLaw (s : State) : Prop := s.tlg.lawful

/-- Both curve banks satisfy the four conditions of R45. -/
def State.bankLaw (s : State) : Prop := s.afc.bankA.legal = true ∧ s.afc.bankB.legal = true

/-- An account's parameters, load and remainder stand in their ranges (Table 4-1, R75). -/
def Account.lawful (a : Account) : Prop :=
  1 ≤ a.c ∧ a.e ≤ 1000 ∧ a.k ≤ 1000 ∧ a.load ≤ 2000 * a.c ∧ a.rem < 1000

/-- Every account is lawful, the remainders stand in their ranges, and D is at most 700 (R71, R74, R75, R77). -/
def State.accountLaw (s : State) : Prop :=
  (∀ st, (s.fau.accounts.get st).lawful) ∧ s.fau.rIn < 240 ∧ s.fau.rG < 6000 ∧ s.fau.d ≤ 700

/-- No two stages are bound to one serial (R90, R92). -/
def serialsApart (a : PerStage Account) : Prop :=
  ∀ st st' n, (a.get st).serial = some n → (a.get st').serial = some n → st = st'

/-- The recent list holds at most 4 entries, no serial twice, and no serial of a current account (R94); the
stored accounts and those being written are bound to different serials too. -/
def State.recentLaw (s : State) : Prop :=
  s.crd.recent.length ≤ 4 ∧ (s.crd.recent.map (·.serial)).Nodup ∧
  (∀ e ∈ s.crd.recent, ∀ st, (s.fau.accounts.get st).serial ≠ some e.serial) ∧
  serialsApart s.fau.accounts ∧ serialsApart s.store.filters.contents ∧
  ∀ c a, s.sst.writing = some c → c.filters = some a → serialsApart a

/-- The fields of an entry stand in their ranges (2.2). -/
def Demand.inRange (e : Demand) : Prop :=
  e.slot ≤ 3 ∧ (∀ r, e.remaining = some r → 1 ≤ r ∧ r ≤ 86400) ∧
  match e.ask with
  | .air (.step n) => 1 ≤ n ∧ n ≤ 10
  | .air .auto => True
  | .dry (.percent n) => 30 ≤ n ∧ n ≤ 80
  | .dry .continuous => True
  | .quiet c _ => 1 ≤ c ∧ c ≤ 10
  | .halt => True

/-- One entry at most for a port and slot, each at its port's rank and none at OFF (R22, R23), and the plan is
the one resolved from the table (R37, R40). -/
def State.demandLaw (s : State) : Prop :=
  (s.dar.table.map Demand.ref).Nodup ∧
  (∀ e ∈ s.dar.table, e.inRange ∧ e.rank = s.rank e.origin ∧ e.rank ≠ .off) ∧
  s.dar.plan = planOf s.dar.table

end Sys2Proof.Machine
end

