-- ==== Sys2Proof/WellFormed.lean ====
section
/-! DEFINITION. Which commands can come from the hardware's links, sensors and terminals. The meanings
do not rely on it: a command outside it is still given an outcome. -/

namespace Sys2Proof

/-- A payload fits the Length byte (Table 9-5). -/
def payloadOk (payload : List Byte) : Bool := payload.length ≤ maxLength

/-- A PUMP-OUT payload belongs to row PUMP_OUT_RESUME exactly when its variant byte is 1 (log 23). -/
def resumeVariant (payload : List Byte) : Bool := payload.head? = some 1

/-- Bytes that begin or go on with a reception: at least one on LINK and PANEL, any number after the address
on SERVICE (R165 to R167, R178). -/
def receptionOk (r : Reception) : Bool := r.port = .service || !r.bytes.isEmpty

def Instr.wellFormed : Instr → Bool
  | .pumpOutNew _ _ pl => payloadOk pl && !resumeVariant pl
  | .pumpOutResume _ _ pl => payloadOk pl && resumeVariant pl
  | .unknownCommand p code _ pl =>
      payloadOk pl && (Command.ofCode code).isNone && !(p = .panel && code = 0)
  | .panelFetchWindow n _ => 1 ≤ n
  | .serviceReadTransaction n _ => 1 ≤ n
  | .powerLoss cut => cut.finished ≤ 4
  | .resetnAssert cut => cut.finished ≤ 4
  | .commandReceptionStart r => receptionOk r
  | i => match i.frame? with
    | some (_, _, _, pl) => payloadOk pl
    | none => true

end Sys2Proof
end

