-- ==== Sys2Proof/Certificates/Slice0/Obligations.lean ====
section
/-! DEFINITION. The statements for the provers. The rules of spec/ each rests on stand in OBLIGATIONS.json. -/

open Sys2Proof Sys2Proof.Machine

/-- A step takes the command at the front of the queue.
For every command c, queue rest and state s: step of s with c in front of rest is exec of c on s with the
queue rest. (The queue is the model's own, log 1.) -/
def Obligations.StepTakesTheFrontCommand : Prop :=
  ∀ (c : Instr) (rest : List Instr) (s : State),
    step { s with pending := c :: rest } = exec c { s with pending := rest }

/-- On an empty queue the part's own time goes on.
With an empty queue a step executes the first expiry that is due; when none is due, one millisecond passes.
A live part's expiries are listed in their order, each with its timer's limit; none is due without supply or
in reset. When n milliseconds pass, each running timer counts on by n up to its limit, the fall timer and a
run timer past its minimum run without one, the accounting period while the fan runs and the pull-down time
while the check is in progress, and nothing else changes. (The model's choice, log 1 and log 22.) -/
def Obligations.EmptyQueueTakesDueExpiryOrTime : Prop :=
  (∀ s : State, s.pending = [] →
      (∀ c, s.nextDue = some c → step s = exec c s) ∧ (s.nextDue = none → step s = .next (s.advance 1))) ∧
  ((∀ s : State, s.nextDue = if s.live then (s.expiries.find? (·.1)).map (·.2) else none) ∧
    ∀ (s : State) (n : Nat), s.advance n = s.later n)

/-- Every command completes and leaves the queue alone.
For every command and every state, exec answers a next state. It leaves the queue as it was, and time does
not run backward. (The queue and the clock are the model's own, log 1.) -/
def Obligations.CommandsCompleteAndKeepTheQueue : Prop :=
  ∀ (c : Instr) (s : State), ∃ t, exec c s = .next t ∧ t.pending = s.pending ∧ s.now ≤ t.now

/-- The reset state and the laws at reset.
State.reset is the part at the beginning of a power-on start-up: no block has started, every port is idle
with no flag, no mask and an inactive attention line, the SST is READING with nothing to write, and the
trend log is empty with sequence number and uptime 0. The choices of the model in it: a store never written
and the factory configuration held before the store is read (log 7), the supply on, RESETn released and the
levels at the terminals (log 8), and what a block holds before its start (log 14). Every law of the part
holds at State.reset: configuration, compressor, pump, ring, banks, accounts, recent list and demands. -/
def Obligations.ResetMeetsTheLaws : Prop :=
  (State.reset.atStart ∧ State.reset.live = true ∧ State.reset.up = false ∧ State.reset.kind = .powerOn ∧
    State.reset.pending = [] ∧ State.reset.tlg.ring = [] ∧ State.reset.tlg.nextSeq = 0 ∧ State.reset.tlg.uptime = 0) ∧
  (State.reset.configLaw ∧ State.reset.compressorLaw ∧ State.reset.pumpLaw ∧ State.reset.ringLaw ∧
    State.reset.bankLaw ∧ State.reset.accountLaw ∧ State.reset.recentLaw ∧ State.reset.demandLaw)

/-- Power-on, loss of supply, RESETn and the warm reset.
POWER_ON on a part without supply, POWER_LOSS on a part with supply, RESETN_ASSERT on a running part and
WARM_RESET once a RESTART has no write left each complete: every block's volatile state is at its start, the
log's readers and minute timer included, and the ports are idle. POWER_ON and POWER_LOSS empty the trend
log; RESETN_ASSERT and WARM_RESET keep its records, numbers and uptime. RESETN_ASSERT on a part without
supply holds it in reset and does nothing more; POWER_ON on a part with supply, POWER_LOSS on one without,
an edge of RESETn to the level it has, and WARM_RESET before no write is left change nothing. The store is
unchanged where no write was in progress. RESETN_RELEASE lets a held part go, and a part with supply begins
to read its first region. Nothing else changes. (The model's choices: what the blocks hold before their
start, log 14; an edge that changes no level, log 15; that the loss of supply already empties the log, and
the kind of a start-up, log 29.) -/
def Obligations.ResetsClearTheVolatileState : Prop :=
  (∀ s : State, s.supply = false → ∃ t, exec .powerOn s = .next t ∧ t.supply = true ∧ t.kind = .powerOn ∧
    t.tlg = .idle ∧ t.atStart ∧ t.sameBut s (.supply :: volatileParts)) ∧
  (∀ (s : State) (cut : CutOff), s.supply = true → s.sst.writing = none →
    ∃ t, exec (.powerLoss cut) s = .next t ∧ t.supply = false ∧ t.tlg = .idle ∧ t.atStart ∧
    t.sameBut s (.supply :: volatileParts)) ∧
  (∀ (s : State) (cut : CutOff), s.supply = true → s.resetnLow = false → s.sst.writing = none →
    ∃ t, exec (.resetnAssert cut) s = .next t ∧ t.resetnLow = true ∧ t.kind = .resetn ∧ t.tlg.keeps s.tlg ∧
    t.atStart ∧ t.sameBut s (.resetnLow :: volatileParts)) ∧
  (∀ s : State, s.live = true → s.sst.restart = .drained →
    ∃ t, exec .warmReset s = .next t ∧ t.kind = .restart ∧ t.tlg.keeps s.tlg ∧ t.atStart ∧
    t.sameBut s volatileParts) ∧
  (∀ s : State, s.resetnLow = true → exec .resetnRelease s = .next { s with
    resetnLow := false
    sst := if s.supply then { s.sst with reading := some .config, readTimer := some 0 } else s.sst }) ∧
  (∀ s : State, s.resetnLow = false → exec .resetnRelease s = .next s) ∧
  (∀ (s : State) (cut : CutOff), s.resetnLow = false → s.supply = false →
    exec (.resetnAssert cut) s = .next { s with resetnLow := true }) ∧
  (∀ (s : State) (cut : CutOff), s.resetnLow = true → exec (.resetnAssert cut) s = .next s) ∧
  (∀ s : State, s.supply = true → exec .powerOn s = .next s) ∧
  (∀ (s : State) (cut : CutOff), s.supply = false → exec (.powerLoss cut) s = .next s) ∧
  (∀ s : State, s.live = false ∨ s.sst.restart ≠ .drained → exec .warmReset s = .next s)

/-- A write cut off by a loss of supply or by RESETn.
When POWER_LOSS or RESETN_ASSERT cuts off a write in progress, each region that the write had finished with
is saved whole from the write's copy, but for one that had failed to verify, which is as it was; the region
being written is as it was, saved whole, or without its matching check word, as the operand says; and a
region not reached or not covered is as it was. Through RESETn the log keeps the WRITE-FAILED records of
those. How far the write had come, what had failed and what the region being written is left with come from
the command's operand (log 10, log 27). -/
def Obligations.CutOffWriteTouchesOnlyItsRegions : Prop :=
  ∀ (s : State) (c : Copies) (cut : CutOff), s.supply = true → s.resetnLow = false → s.sst.writing = some c →
    let x := c.images
    let lost := RegionSet.inter (regionsDone c.regions cut) cut.failed
    (∀ i : Instr, i = .powerLoss cut ∨ i = .resetnAssert cut → ∃ t, exec i s = .next t ∧ t.atStart ∧
      (let n := regionsBefore c.regions
       t.store.config.cutTo s.store.config x.config (n .config) cut.failed.config cut ∧
       t.store.filters.cutTo s.store.filters x.filters (n .filters) cut.failed.filters cut ∧
       t.store.recent.cutTo s.store.recent x.recent (n .recent) cut.failed.recent cut ∧
       t.store.lockout.cutTo s.store.lockout x.lockout (n .lockout) cut.failed.lockout cut) ∧
      (lost.config = true → t.store.config = s.store.config) ∧
      (lost.filters = true → t.store.filters = s.store.filters) ∧
      (lost.recent = true → t.store.recent = s.store.recent) ∧
      (lost.lockout = true → t.store.lockout = s.store.lockout)) ∧
    (∀ r, lost.has r = true ↔
      c.regions.has r = true ∧ regionsBefore c.regions r < cut.finished ∧ cut.failed.has r = true) ∧
    ∃ t, exec (.resetnAssert cut) s = .next t ∧ t.tlg.keeps (s.postStoreAll lost .writeFailed).tlg

/-- The start-up store read.
While the SST is READING a region, REGION_READ_TIMEOUT of it, or of a later region, completes when 50 ms of
its read have passed: the region is recorded as one that cannot be read and the next region's read begins;
after LOCKOUT, the last, the store read ends as STORE_READ_END ends it. A region already read is not timed.
(That the missing time passes is log 2, and that the regions before a later one have been read is log 20:
the model's choices.) While the SST is READING, STORE_READ_END completes. The regions replaced are those
that could not be read, whose check word does not match, or whose contents break a rule; the owners take the
starting contents of these and what the others hold. Every block stands at its chapter's starting values for
that. The trend log writes the RESTART record, a restored lockout's and one STORE record for each replaced
region, in that order, and places every reader on the oldest record, with the flags of the marks reached.
Each replaced region sets STORE on all ports, a restored lockout LOCKOUT, the marks reached their LOG flags,
and a record of this start that discards another from a full ring LOGLATE; no other flag changes. A
checkpoint is asked for of the replaced regions and, where the cleaned list differs, of RECENT. With no
region unsaved and, but for a write in progress, none pending, as every reset leaves it, the regions then
being written or pending are exactly these and those of before. With no region replaced and the list
unchanged, nothing is asked for and the write in progress and the pending one stay. The store itself is
unchanged. (The model's choices: the order of the records, log 24; the drying record's cause and pull-down
values, none at the start, log 40; the values of the readings that the DRC holds at its start, log 58; and
the CONFIG region held as WRITE-CONFIG payloads, log 9. 2000, 1500 and 1000 ms of poll time put the first
read times at 0, 500 and 1000 ms.) -/
def Obligations.StoreReadStartsTheBlocks : Prop :=
  (∀ (s : State) (p r : Region) (e : Nat), s.live = true → s.sst.startUp = .reading → s.sst.reading = some p →
      s.sst.readTimer = some e →
      let u := s.advance (50 - e)
      let v := fun (next : Option Region) (timer : Timer) => u.setSst { u.sst with
        unreadable := s.sst.unreadable.union (.single r), reading := next, readTimer := timer }
      (r.index < p.index → exec (.regionReadTimeout r) s = .next s) ∧
      (p.index ≤ r.index →
        (r = .config → exec (.regionReadTimeout r) s = .next (v (some .filters) (some 0))) ∧
        (r = .filters → exec (.regionReadTimeout r) s = .next (v (some .recent) (some 0))) ∧
        (r = .recent → exec (.regionReadTimeout r) s = .next (v (some .lockout) (some 0))) ∧
        (r = .lockout → exec (.regionReadTimeout r) s = exec (.storeReadEnd .empty) (v none none)))) ∧
  (∀ (s : State) (failed : RegionSet), s.live = true → s.sst.startUp = .reading → s.ringLaw →
      ∃ (t : State) (bad : RegionSet) (l : Loaded), exec (.storeReadEnd failed) s = .next t ∧
        (∀ r, bad.has r = true ↔
          (failed.has r = true ∨ s.sst.unreadable.has r = true ∨ s.store.torn r ∨ s.store.breaksRule r)) ∧
        l.takenFrom s.store bad ∧ t.blocksStart l ∧
        (let lockout := match l.reason with
           | some .noPulldown => [.lockout .noPulldown]
           | some .defrost => [.lockout .defrost]
           | none => []
         let replaced := ([.config, .filters, .recent, .lockout] : List Region).filter bad.has
         let events := [.restart s.kind] ++ lockout ++ replaced.map (fun r => .store r .replaced)
         let n := t.tlg.ring.length
         let on := fun (b : Bool) (f : Flag) => if b then f.bit else 0
         t.tlg.startsFrom s.tlg events ∧
         t.flagsRaised s (fun _ => on (decide (64 ≤ n)) .logq ||| on (decide (128 ≤ n)) .logh |||
           on (decide (192 ≤ n)) .log3q |||
           on (decide (2 ≤ events.length ∧ 256 < s.tlg.ring.length + events.length)) .loglate |||
           on (bad != .empty) .store ||| on l.reason.isSome .lockout)) ∧
        t.sst = { s.sst with
          startUp := .done, reading := none, readTimer := none, settings := l.settings, replaced := bad
          writing := t.sst.writing, pendingWrite := t.sst.pendingWrite } ∧
        t.asked bad ∧ (t.crd.recent ≠ l.recent → t.asked (.single .recent)) ∧
        (bad = .empty → t.crd.recent = l.recent →
          t.sst.writing = s.sst.writing ∧ t.sst.pendingWrite = s.sst.pendingWrite) ∧
        (s.sst.unsaved = .empty → (s.sst.writing = none → s.sst.pendingWrite = .empty) →
          ∀ r, t.sst.writingRegions.has r = true ∨ t.sst.pendingWrite.has r = true ↔
            bad.has r = true ∨ (r = .recent ∧ t.crd.recent ≠ l.recent) ∨
            s.sst.writingRegions.has r = true ∨ s.sst.pendingWrite.has r = true) ∧
        t.sameBut s [.sfe, .dar, .afc, .fau, .crd, .drc, .cdc, .tlg, .prt, .sst])

/-- Checkpoint requests and the end of a store write.
A request with no write in progress begins a write of the regions requested and every unsaved region, copied
as their owners hold them, and a write that covers FILTERS clears the dirty mark. With a write in progress,
and once a RESTART's last write runs or no write remains before it, the regions join the pending write; the
write in progress keeps its copies. (The request between the last write and the warm reset is log 28.) When
a write is in progress, STORE_WRITE_END completes. Each region of the write is saved from its copy unless it
failed; a failed region and a region not covered keep their stored contents; a failed region is unsaved and
a saved one is not; each failed region sets STORE on all ports. Before a RESTART is handed over, a pending
write begins at once with its regions and every unsaved region, and nothing is pending; with none, no write
is in progress, and a failed FILTERS region leaves the dirty mark set. After the hand-over a pending write
begins as the last one, and when none is pending, or the last one has ended, no write remains and none
begins. -/
def Obligations.CheckpointsAreWritten : Prop :=
  (∀ (s : State) (rs : RegionSet),
      let joins := s.request rs = s.setSst { s.sst with pendingWrite := s.sst.pendingWrite.union rs }
      (s.sst.writing = none → s.sst.restart = .none ∨ s.sst.restart = .finishing →
        (s.request rs).sst.writing = some (s.copies (rs.union s.sst.unsaved)) ∧
        (s.request rs).sst.writingRegions = rs.union s.sst.unsaved ∧ (s.request rs).sst.pendingWrite = .empty ∧
        (s.request rs).fau = { s.fau with dirty := s.fau.dirty && !(rs.union s.sst.unsaved).filters } ∧
        (s.request rs).sameBut s [.fau, .sst]) ∧
      (s.sst.writing ≠ none ∨ s.sst.restart = .lastWrite ∨ s.sst.restart = .drained → joins)) ∧
  (∀ (s : State) (c : Copies) (failed : RegionSet), s.sst.writing = some c →
      let begins := fun t : State => t.sst.writing.isSome = true ∧ t.sst.pendingWrite = .empty ∧
        t.sst.writingRegions = s.sst.pendingWrite.union t.sst.unsaved
      let ends := fun t : State => t.sst.writing = none ∧ t.sst.pendingWrite = s.sst.pendingWrite ∧
        (c.regions.filters = true → failed.filters = true → t.fau.dirty = true)
      ∃ t, exec (.storeWriteEnd failed) s = .next t ∧
        t.store.config.savedAs s.store.config c.images.config failed.config ∧
        t.store.filters.savedAs s.store.filters c.images.filters failed.filters ∧
        t.store.recent.savedAs s.store.recent c.images.recent failed.recent ∧
        t.store.lockout.savedAs s.store.lockout c.images.lockout failed.lockout ∧
        (∀ r, t.sst.unsaved.has r = if c.regions.has r then failed.has r else s.sst.unsaved.has r) ∧
        (∀ r, c.regions.has r = true → failed.has r = true → t.flagOnAll .store) ∧
        (s.sst.restart = .none → t.sst.restart = .none ∧
          if s.sst.pendingWrite = .empty then ends t else begins t) ∧
        (s.sst.restart = .finishing →
          if s.sst.pendingWrite = .empty then t.sst.restart = .drained ∧ ends t
          else t.sst.restart = .lastWrite ∧ begins t) ∧
        (s.sst.restart = .lastWrite ∨ s.sst.restart = .drained → t.sst.restart = .drained ∧ ends t) ∧
        t.sst.settings = s.sst.settings ∧ t.fau.accounts = s.fau.accounts ∧
        t.sameBut s [.store, .fau, .tlg, .prt, .sst])

/-- RESTART.
A RESTART that SERVICE may send is answered OK and closes the SERVICE port: a later frame that ends on it is
discarded, with its pending response left. After 100 ms RESTART_HANDOVER_TIMEOUT hands it to the SST, which
finishes the write in progress or, with none, has no write left; nothing else changes. (That the time
missing from a timer passes when its expiry is taken is log 2, the model's choice.) -/
def Obligations.RestartClosesServiceAndIsHandedOver : Prop :=
  (∀ (s : State) (tag : Byte), s.takes .service = true →
    ∃ t, exec (.restart .service tag []) s = .next t ∧ t.answered .service tag .ok [] ∧ t.prt.closed = true ∧
      t.prt.handover = some 0 ∧ t.sameBut s [.prt] ∧ (∀ q, q ≠ .service → t.port q = s.port q)) ∧
  (∀ (s : State) (i : Instr) (code tag : Byte) (pl : List Byte), s.live = true → s.prt.closed = true →
    i.frame? = some (.service, code, tag, pl) →
    ∃ t, exec i s = .next t ∧ t = s.heard .service) ∧
  (∀ (s : State) (e : Nat), s.prt.handover = some e →
    let u := s.advance (Config.handoverMs - e)
    exec .restartHandoverTimeout s = .next ((u.setPrt { u.prt with handover := none }).setSst
      { u.sst with restart := if u.sst.writing.isSome then .finishing else .drained }))

/-- A command's frame spells the command.
For every well-formed command that is a frame with a Command byte, at every port, Tag and payload: the frame
body written from it decodes to that command, with every operand. A body is Command, Tag, Length, Payload
and Check, the Check a CRC-8 by x⁸+x²+x+1 from 0, most significant bit first; the Command bytes are those of
Table 9-8. -/
def Obligations.CommandFramesRoundTrip : Prop :=
  (∀ (i : Instr) (p : Port) (code tag : Byte) (pl : List Byte), i.wellFormed = true →
      i.frame? = some (p, code, tag, pl) → decodeFrame p (commandBody code tag pl) = i) ∧
  ((∀ (code tag : Byte) (pl : List Byte), commandBody code tag pl =
      [code, tag, BitVec.ofNat 8 pl.length] ++ pl ++ [crc8 ([code, tag, BitVec.ofNat 8 pl.length] ++ pl)]) ∧
    crc8 [] = 0 ∧
    (∀ (bs : List Byte) (b : Byte), crc8 (bs ++ [b]) =
      (List.range 8).foldl (fun c _ => if c.msb then c <<< 1 ^^^ 0x07 else c <<< 1) (crc8 bs ^^^ b)) ∧
    ([.readSensors, .readPlan, .readDemands, .readAirflow, .readFilters, .readCartridges, .readDrying, .readTank,
      .readConfig, .readEvents] : List Command).map Command.code = [1, 2, 3, 4, 5, 6, 7, 8, 9, 0x0A] ∧
    ([.putDemand, .clearDemand, .clearAllDemands, .loadCurve, .selectCurve, .resetFilter, .setStage, .forgetCartridge,
      .clearLockout, .forceDefrost] : List Command).map Command.code =
      [0x10, 0x11, 0x12, 0x18, 0x19, 0x20, 0x21, 0x22, 0x28, 0x29] ∧
    ([.pumpOut, .pumpAbort, .readLog, .setCursor, .setLogJoin, .setEventMask, .writeConfig, .restart] :
      List Command).map Command.code = [0x30, 0x31, 0x38, 0x39, 0x3A, 0x40, 0x48, 0x49])

/-- Length, completeness and Check of a frame.
A frame body with a Length above 48 is a BAD-FRAME on PANEL and SERVICE and is discarded on LINK; one with
fewer bytes than its Length calls for, or without a Check, is discarded; one whose Check does not match is a
BAD-FRAME; bytes after the Check are ignored; a Command byte that names no command is an unknown command. A
PANEL window whose first byte is 0x00 is a fetch window and no frame. -/
def Obligations.FrameJudgementComesFirst : Prop :=
  (∀ bytes : List Byte, decodeFrame .panel (0 :: bytes) = .panelFetchWindow (bytes.length + 1) false) ∧
  ∀ (p : Port) (cmd tag len : Byte) (rest : List Byte), ¬(p = .panel ∧ cmd = 0) →
    (48 < len.toNat → decodeFrame p (cmd :: tag :: len :: rest) =
      if p = .link then .frameDiscard .link else .badFrame p tag) ∧
    (len.toNat ≤ 48 → rest.length ≤ len.toNat → decodeFrame p (cmd :: tag :: len :: rest) = .frameDiscard p) ∧
    (len.toNat ≤ 48 → len.toNat < rest.length →
      rest.getD len.toNat 0 ≠ crc8 (cmd :: tag :: len :: rest.take len.toNat) →
      decodeFrame p (cmd :: tag :: len :: rest) = .badFrame p tag) ∧
    (∀ more, len.toNat ≤ 48 → len.toNat < rest.length →
      decodeFrame p (cmd :: tag :: len :: (rest ++ more)) = decodeFrame p (cmd :: tag :: len :: rest)) ∧
    (len.toNat ≤ 48 → len.toNat < rest.length →
      rest.getD len.toNat 0 = crc8 (cmd :: tag :: len :: rest.take len.toNat) → Command.ofCode cmd = none →
      decodeFrame p (cmd :: tag :: len :: rest) = .unknownCommand p cmd tag (rest.take len.toNat))

/-- What READ-CONFIG returns is a WRITE-CONFIG payload for the configuration in force.
For every configuration that the checks accept and every group code 0..7: the fields READ-CONFIG returns for
the group, with the group byte before them, are a WRITE-CONFIG payload of the right length that gives that
configuration back with nothing clamped. A CONFIG region is accepted exactly when it holds the eight
payloads of a configuration that the checks accept, and gives that one. (Holding the region as payloads is
log 9.) -/
def Obligations.StoredConfigGroupsRoundTrip : Prop :=
  (∀ (x : Settings) (g : Nat), x.valid = true → g ≤ 7 →
    groupLength g = some (1 + (encGroup x g).length) ∧
    configOf x (BitVec.ofNat 8 g :: encGroup x g) = .taken x false) ∧
  (∀ (x : Settings) (image : List (List Byte)), Settings.ofImage image = some x ↔
    (x.valid = true ∧ image = (List.range 8).map (fun g => BitVec.ofNat 8 g :: encGroup x g)))

/-- Every answer fits the 48-byte payload.
In every state that meets the configuration, bank, demand and recent-list laws, the payload of the answer to
any frame is at most 48 bytes long. -/
def Obligations.AnswersFitTheFrame : Prop :=
  ∀ (s : State) (p : Port) (f : Frame), s.configLaw → s.bankLaw → s.demandLaw → s.recentLaw →
    (judge s p f).2.payload.length ≤ 48

/-- Particle frames, their warm-up and their timeout.
After the warm-up a good particle frame completes: the reading, clamped to 2000, joins the window of 30 at
its newest end, is the last reading, sets or clears SATURATED and restarts the 10 s wait; the first reading
of an empty window posts SENSOR PARTICLE VALID and any other posts nothing. Within the warm-up, and for a
bad frame, nothing changes. Nothing else changes. PARTICLE_WARMUP_END completes by ending the warm-up and
changing nothing else. PARTICLE_TIMEOUT completes by emptying the window and clearing SATURATED; it posts
SENSOR PARTICLE INVALID when there was a reading and nothing otherwise. The last reading stays. Nothing else
changes. PMa is the sum of the window divided by its length, rounded down, and there is none while the
window is empty. (That the time missing from a timer passes when its expiry is taken is log 2, and that the
last reading is kept is log 25: the model's choices.) -/
def Obligations.ParticleReadingsAndTimers : Prop :=
  (((∀ (s : State) (n : Nat), s.up = true → s.sfe.particle.warmup = none →
        let w := s.sfe.particle.window
        ∃ t, exec (.particleFrame (some n)) s = .next t ∧
          t.sfe = { s.sfe with particle :=
            { warmup := none, window := (if 30 ≤ w.length then w.tail else w) ++ [min 2000 n]
              last := some (min 2000 n), saturated := decide (2000 < n), wait := some 0 } } ∧
          (w = [] → t.posts s .sensor (.sensor .particle true)) ∧ (w ≠ [] → t.postsNothing s) ∧
          t.sameBut s [.sfe, .tlg, .prt]) ∧
      (∀ (s : State) (r : Option Nat), s.sfe.particle.warmup.isSome = true → exec (.particleFrame r) s = .next s) ∧
      (∀ s : State, exec (.particleFrame none) s = .next s)) ∧
    ((∀ (s : State) (e : Nat), s.up = true → s.sfe.particle.warmup = some e →
        let u := s.advance (30000 - e)
        exec .particleWarmupEnd s =
          .next (u.setSfe { u.sfe with particle := { u.sfe.particle with warmup := none } })) ∧
      (∀ (s : State) (e : Nat), s.up = true → s.sfe.particle.wait = some e →
        let u := s.advance (10000 - e)
        ∃ t, exec .particleTimeout s = .next t ∧
          t.sfe = { u.sfe with particle :=
            { u.sfe.particle with window := [], saturated := false, wait := none } } ∧ t.pmA = none ∧
          (s.sfe.particle.window ≠ [] → t.posts u .sensor (.sensor .particle false)) ∧
          (s.sfe.particle.window = [] → t.postsNothing u) ∧ t.sameBut u [.sfe, .tlg, .prt]))) ∧
  (∀ (s : State) (m : Nat), s.pmA = some m ↔
      (s.sfe.particle.window ≠ [] ∧ m * s.sfe.particle.window.length ≤ s.sfe.particle.window.sum ∧ s.sfe.particle.window.sum < (m + 1) * s.sfe.particle.window.length))

/-- The private bus and its gas reads.
At a second of the bus schedule, with no room read still in progress, the gas read begins, with a room read
to follow it in an even second. A gas read that has not ended after 25 ms is abandoned: the window and Va
stay, and the room read follows when it is due. A room read that has not ended after 25 ms is a failed one,
and so is one still in progress at the next second. Nothing else changes. (That last clause is log 16, and
that the time missing from a timer passes when its expiry is taken is log 2: the model's choices.) A
successful gas read completes: the index, clamped to 500, joins the window of 60, the wait restarts, and the
bus goes to the room read or becomes free. The first one posts SENSOR GAS VALID. A failed one changes the
bus only. After 10 s without one, GAS_TIMEOUT empties the window and posts SENSOR GAS INVALID when there was
a reading. Va is the sum of the window divided by its length, rounded down, and there is none while the
window is empty. (That the time missing from a timer passes when its expiry is taken is log 2, the model's
choice.) -/
def Obligations.PrivateBusAndGasReads : Prop :=
  (((∀ (s : State) (e : Nat), s.up = true → s.sfe.bus.second = some e → s.sfe.bus.current ≠ some .room →
        let u := s.advance (1000 - e)
        exec .privateBusSecond s = .next (u.setSfe { u.sfe with bus :=
          { second := some 0, nextEven := !s.sfe.bus.nextEven, roomDue := s.sfe.bus.nextEven
            current := some .gas, busy := some 0 } })) ∧
      (∀ (s : State) (e : Nat), s.up = true → s.sfe.bus.busy = some e → s.sfe.bus.current = some .gas →
        let u := s.advance (25 - e)
        exec .busTransactionTimeout s = .next (u.setSfe { u.sfe with bus := { u.sfe.bus with
          roomDue := false
          current := if s.sfe.bus.roomDue then some .room else none
          busy := if s.sfe.bus.roomDue then some 0 else none } })) ∧
      (∀ (s : State) (e : Nat), s.up = true → s.sfe.bus.busy = some e → s.sfe.bus.current = some .room →
        exec .busTransactionTimeout s = exec (.roomReadEnd none) (s.advance (25 - e))) ∧
      (∀ (s : State) (e : Nat), s.up = true → s.sfe.bus.second = some e → s.sfe.bus.current = some .room →
        ∃ w, exec (.roomReadEnd none) (s.advance (1000 - e)) = .next w ∧
          exec .privateBusSecond s = .next (w.setSfe { w.sfe with bus :=
            { second := some 0, nextEven := !s.sfe.bus.nextEven, roomDue := s.sfe.bus.nextEven
              current := some .gas, busy := some 0 } }))) ∧
    ((∀ (s : State) (n : Nat), s.up = true → s.sfe.bus.current = some .gas →
        let w := s.sfe.gas.window
        let bus : PrivateBus := { s.sfe.bus with
          roomDue := false
          current := if s.sfe.bus.roomDue then some .room else none
          busy := if s.sfe.bus.roomDue then some 0 else none }
        (∃ t, exec (.gasReadEnd (some n)) s = .next t ∧
          t.sfe = { s.sfe with
            gas := ⟨(if 60 ≤ w.length then w.tail else w) ++ [min 500 n], some 0⟩, bus := bus } ∧
          (w = [] → t.posts s .sensor (.sensor .gas true)) ∧ (w ≠ [] → t.postsNothing s) ∧
          t.sameBut s [.sfe, .tlg, .prt]) ∧
        exec (.gasReadEnd none) s = .next (s.setSfe { s.sfe with bus := bus })) ∧
      (∀ (s : State) (e : Nat), s.up = true → s.sfe.gas.wait = some e →
        let u := s.advance (10000 - e)
        ∃ t, exec .gasTimeout s = .next t ∧ t.sfe = { u.sfe with gas := ⟨[], none⟩ } ∧ t.va = none ∧
          (s.sfe.gas.window ≠ [] → t.posts u .sensor (.sensor .gas false)) ∧
          (s.sfe.gas.window = [] → t.postsNothing u) ∧ t.sameBut u [.sfe, .tlg, .prt]))) ∧
  (∀ (s : State) (m : Nat), s.va = some m ↔
      (s.sfe.gas.window ≠ [] ∧ m * s.sfe.gas.window.length ≤ s.sfe.gas.window.sum ∧ s.sfe.gas.window.sum < (m + 1) * s.sfe.gas.window.length))

/-- Room reads.
A successful room read completes: humidity and temperature, clamped, join their windows of 8, the failure
count is 0, the bus is free, and the first one posts SENSOR ROOM VALID. A first or second failure in a row
leaves windows and averages and is counted. The third empties both windows, sets the count to 0 and posts
SENSOR ROOM INVALID when there was a reading. A good read and the third failure are handed on to the DRC,
which keeps the averages of the one, and through the other the values it last held with the reading INVALID.
Each average is the sum of its window divided by the length, rounded toward the lower value, and there is
none while the window is empty. (The hand-overs at the end of the step are log 4, the model's choice.) -/
def Obligations.RoomReadsJoinTheWindows : Prop :=
  ((∀ (s : State) (r : RoomRead), s.up = true → s.sfe.bus.current = some .room →
      let x := s.sfe.room
      let v := s.setSfe { s.sfe with
        bus := { s.sfe.bus with current := none, busy := none }
        room :=
          { rh := (if 8 ≤ x.rh.length then x.rh.tail else x.rh) ++ [max 0 (min 1000 r.rh)]
            temp := (if 8 ≤ x.temp.length then x.temp.tail else x.temp) ++ [max (-200) (min 600 r.temp)]
            fails := 0 } }
      ∃ t, exec (.roomReadEnd (some r)) s = .next t ∧
        t.handsOn (if x.rh = [] then (v.postAll .sensor).log (.sensor .room true) else v) ∧
        t.drc.readings.roomValid = true ∧ t.rh = some t.drc.readings.rh ∧
        t.roomTemp = some t.drc.readings.roomTemp) ∧
    (∀ s : State, s.up = true → s.sfe.bus.current = some .room → s.sfe.room.fails < 2 →
      exec (.roomReadEnd none) s = .next (s.setSfe { s.sfe with
        bus := { s.sfe.bus with current := none, busy := none }
        room := { s.sfe.room with fails := s.sfe.room.fails + 1 } })) ∧
    (∀ s : State, s.up = true → s.sfe.bus.current = some .room → 2 ≤ s.sfe.room.fails →
      let v := s.setSfe { s.sfe with
        bus := { s.sfe.bus with current := none, busy := none }, room := ⟨[], [], 0⟩ }
      ∃ t, exec (.roomReadEnd none) s = .next t ∧ t.rh = none ∧ t.roomTemp = none ∧
        t.drc.readings.roomValid = false ∧ t.drc.readings.rh = s.drc.readings.rh ∧
        t.drc.readings.roomTemp = s.drc.readings.roomTemp ∧
        t.handsOn (if s.sfe.room.rh = [] then v else (v.postAll .sensor).log (.sensor .room false)))) ∧
  (∀ (s : State) (m : Int),
      (s.rh = some m ↔ (s.sfe.room.rh ≠ [] ∧ m * s.sfe.room.rh.length ≤ s.sfe.room.rh.sum ∧
        s.sfe.room.rh.sum < (m + 1) * s.sfe.room.rh.length)) ∧
      (s.roomTemp = some m ↔ (s.sfe.room.temp ≠ [] ∧ m * s.sfe.room.temp.length ≤ s.sfe.room.temp.sum ∧
        s.sfe.room.temp.sum < (m + 1) * s.sfe.room.temp.length)))

/-- Coil conversions.
A conversion inside −300..600 becomes the coil temperature, sets the count to 0 and posts SENSOR COIL VALID
when the reading was INVALID. The first conversion out of range in a row is only counted; the second makes
the reading INVALID and posts it. A reading at or below the start value less 30 in a checking PULLDOWN takes
the DRC to RUNNING with outcome PASSED and failure count 0, and one above it leaves PULLDOWN alone; in
RUNNING a reading at or below −10 starts the frost timer, or lets it count on, and one above stops it; in
DEFROST a reading at or above 40 starts the end timer, or lets it count on, and one below stops it. The DRC
keeps each temperature, and through an INVALID reading the one it last held. The change is handed on, and
where the DRC then stays in the state these timers and this outcome stand so. (The count staying at 2 is log
21, and the hand-overs at the end of the step are log 4: the model's choices.) -/
def Obligations.CoilConversionsAreJudged : Prop :=
  ∀ (s : State) (n : Int), s.up = true →
    let v := s.setSfe { s.sfe with coil := ⟨some n, 0⟩ }
    let p := if s.sfe.coil.temp.isNone then (v.postAll .sensor).log (.sensor .coil true) else v
    let lost := s.setSfe { s.sfe with coil := ⟨none, 2⟩ }
    let frost := if n ≤ -10 then some (s.drc.frost.getD 0) else none
    let ending := if 40 ≤ n then some (s.drc.defrostEnd.getD 0) else none
    ((n < -300 ∨ 600 < n) → s.sfe.coil.outCount = 0 → exec (.coilConversion n) s =
      .next (s.setSfe { s.sfe with coil := { s.sfe.coil with outCount := 1 } })) ∧
    ((n < -300 ∨ 600 < n) → 1 ≤ s.sfe.coil.outCount → ∃ t, exec (.coilConversion n) s = .next t ∧
      t.sfe.coil = ⟨none, 2⟩ ∧
      t.drc.readings.coil = s.drc.readings.coil ∧ t.drc.readings.coilValid = false ∧
      t.handsOn (if s.sfe.coil.temp.isSome then (lost.postAll .sensor).log (.sensor .coil false) else lost)) ∧
    (-300 ≤ n → n ≤ 600 → ∃ t, exec (.coilConversion n) s = .next t ∧ t.sfe = { s.sfe with coil := ⟨some n, 0⟩ } ∧
      t.drc.readings.coil = n ∧ t.drc.readings.coilValid = true ∧
      (s.drc.state ≠ .pulldown → s.drc.state ≠ .running → s.drc.state ≠ .defrost → t.handsOn p) ∧
      (∀ start, s.drc.state = .pulldown → s.drc.pull.outcome = some .checking → s.drc.pull.start = some start →
        n ≤ start - 30 →
          t.handsOn ((p.setDrc { s.drc with
            state := .running, pull := { s.drc.pull with outcome := some .passed }
            pullFails := 0, frost := none }).postAll .dry) ∧
          t.drc.pull = { s.drc.pull with outcome := some .passed } ∧ t.drc.pullFails = 0 ∧ t.drc.frost = none ∧
          t.flagOnAll .dry) ∧
      (s.drc.state = .pulldown →
        s.drc.pull.outcome ≠ some .checking ∨ (∀ start, s.drc.pull.start = some start → start - 30 < n) →
        t.handsOn p) ∧
      (s.drc.state = .running → t.handsOn (p.setDrc { s.drc with frost := frost }) ∧
        (t.drc.state = .running → t.drc.frost = frost)) ∧
      (s.drc.state = .defrost → t.handsOn (p.setDrc { s.drc with defrostEnd := ending }) ∧
        (t.drc.state = .defrost → t.drc.defrostEnd = ending)))

/-- Probe conversions.
With PROBE on MF0, a conversion inside 0..4000 joins the window of 5 and the published level is a reading of
that window with at most half of the readings below it and at most half above it, the higher middle one for
an even number. The first and second conversion out of range in a row are counted only. The third makes the
level UNKNOWN, empties the window and posts SENSOR PROBE INVALID when there was a level. A level as before
hands nothing on. A changed one goes to the CDC: with the tank PRESENT the FULL flag is set at FULL and
above, clear at RESUME and below, kept between, and set while UNKNOWN, with TANK posted on a change; and in
drain mode PUMP a level at PUMP-START or above, with no sequence RUNNING or STOPPED, begins a run of origin
AUTO in PRIME. Otherwise the sequence stays. Without PROBE on MF0 nothing changes. Under PROBE the level is
the published one, UNKNOWN while there is none. (The hand-overs at the end of the step are log 4, the
model's choice.) -/
def Obligations.ProbeConversionsGiveTheMedian : Prop :=
  ((∀ (s : State) (n : Nat), s.up = true → s.sst.settings.terminals.mf0 = .probe → n ≤ 4000 →
      let w := s.sfe.probe.window
      let w' := (if 5 ≤ w.length then w.tail else w) ++ [n]
      let u := s.setSfe { s.sfe with probe := ⟨w', 0⟩ }
      let p := if w = [] then (u.postAll .sensor).log (.sensor .probe true) else u
      ∃ t m, exec (.probeConversion n) s = .next t ∧ t.sfe = { s.sfe with probe := ⟨w', 0⟩ } ∧
        t.probeLevel = some m ∧ m ∈ w' ∧
        2 * (w'.filter (fun x => decide (x < m))).length ≤ w'.length ∧
        2 * (w'.filter (fun x => decide (m < x))).length < w'.length ∧
        (w = [] → t.flagOnAll .sensor) ∧
        (s.probeLevel = some m → t = p) ∧
        (s.probeLevel ≠ some m → t.handsOn ((p.deriveFull false).autoStart) ∧
          (s.method = .probe → s.cdc.presence = .present →
            t.cdc.full = (if s.tankCfg.full ≤ m then true else if m ≤ s.tankCfg.resume then false else s.cdc.full) ∧
            (t.cdc.full ≠ s.cdc.full → t.flagOnAll .tank)) ∧
          (let starts := s.method = .probe ∧ s.cdc.presence = .present ∧ s.tankCfg.drain = .pump ∧
             s.tankCfg.pumpStart ≤ m ∧ (∀ q, s.cdc.seq = some q → q.status = .complete)
           (starts → t.cdc.pump = true ∧ ∃ q, t.cdc.seq = some q ∧ q.status = .running ∧ q.phase = some .prime ∧
              q.origin = .auto ∧ q.elapsed = some 0 ∧ q.startLevel = .ml m ∧
              q.target = some (m - s.tankCfg.empty)) ∧
           (s.method = .probe → ¬starts → t.cdc.seq = s.cdc.seq ∧ t.cdc.pump = s.cdc.pump)))) ∧
    (∀ (s : State) (n : Int), s.up = true → s.sst.settings.terminals.mf0 = .probe → (n < 0 ∨ 4000 < n) →
      s.sfe.probe.outCount < 2 →
      exec (.probeConversion n) s = .next (s.setSfe { s.sfe with
        probe := { s.sfe.probe with outCount := s.sfe.probe.outCount + 1 } })) ∧
    (∀ (s : State) (n : Int), s.up = true → s.sst.settings.terminals.mf0 = .probe → (n < 0 ∨ 4000 < n) →
      2 ≤ s.sfe.probe.outCount →
      let u := s.setSfe { s.sfe with probe := ⟨[], 0⟩ }
      ∃ t, exec (.probeConversion n) s = .next t ∧ t.sfe = { s.sfe with probe := ⟨[], 0⟩ } ∧ t.probeLevel = none ∧
        (s.sfe.probe.window = [] → t = u) ∧
        (s.sfe.probe.window ≠ [] → t.flagOnAll .sensor ∧
          t.handsOn ((((u.postAll .sensor).log (.sensor .probe false)).deriveFull false).autoStart) ∧
          (s.method = .probe → s.cdc.presence = .present → t.cdc.full = true ∧
            (s.cdc.full = false → t.flagOnAll .tank)) ∧
          (s.method = .probe → t.cdc.seq = s.cdc.seq ∧ t.cdc.pump = s.cdc.pump))) ∧
    (∀ (s : State) (n : Int), s.sst.settings.terminals.mf0 ≠ .probe → exec (.probeConversion n) s = .next s)) ∧
  (∀ s : State, s.method = .probe →
      (s.probeLevel = none → s.level = .unknown) ∧ ∀ n, s.probeLevel = some n → s.level = .ml n)

/-- Edges at the switch terminals and at the tach.
A change of level at a terminal that is sampled as a switch input starts the 20 ms of steady level, or ends
the wait when the terminal is back at a level already accepted; the accepted level stays. An edge at a
terminal with no switch function changes the terminal only. Nothing else changes. (That the time missing
from a timer passes when its expiry is taken is log 2, the model's choice.) A tach pulse counts. At the end
of a 2 s window the fan speed is the count × 15 rpm, at most 9999, and the next count begins. Nothing else
changes. (That the time missing from a timer passes when its expiry is taken is log 2, the model's choice.) -/
def Obligations.SwitchEdgesAndTachPulses : Prop :=
  (∀ (s : State) (sw : Switch) (level : Bool), s.up = true → s.pins.get sw ≠ level →
      let i := s.sfe.switch sw
      (s.sst.settings.terminals.samples sw = true → exec (.switchInputEdge sw level) s =
        .next { s with
          pins := s.pins.set sw level
          sfe := s.sfe.setSwitch sw { i with
            steady := if i.first && i.accepted == level then none else some 0 } }) ∧
      (s.sst.settings.terminals.samples sw = false → exec (.switchInputEdge sw level) s =
        .next { s with pins := s.pins.set sw level })) ∧
  ((∀ s : State, s.up = true → exec .fantachPulse s =
      .next (s.setSfe { s.sfe with tach := { s.sfe.tach with count := s.sfe.tach.count + 1 } })) ∧
    (∀ (s : State) (e : Nat), s.up = true → s.sfe.tach.window = some e →
      let u := s.advance (2000 - e)
      exec .fanSpeedWindowEnd s =
        .next (u.setSfe { u.sfe with tach := ⟨0, some 0, min 9999 (s.sfe.tach.count * 15)⟩ })))

/-- An accepted switch level.
After 20 ms of steady level SWITCH_CHANGE_ACCEPTED completes with the level at the terminal as the accepted
level. TANKSW closing on an ABSENT tank starts its settling, and a slot switch closing on an EMPTY slot
starts the slot's. POWER-FAIL-WARN becoming asserted asks for a FILTERS checkpoint. A change of PUMP-FLOW
starts or stops the flow timer of a run in PRIME. A change of FLOAT-FULL starts or stops its 5 s release. A
change of FLOAT-HIGH starts or stops the high release of a run in TRANSFER, and its closing marks a run in
VERIFY. Each accepted level of a float, the first one at its resting level included, derives the FULL flag
and examines the automatic start, handed on. A level equal to the accepted one at any other terminal, a
closing that finds no ABSENT tank and no EMPTY slot, POWER-FAIL-WARN no longer asserted, and PUMP-FLOW
without a run in PRIME change nothing but the input. Under FLOATS, with the floats on MF0 and MF1, the level
is UNKNOWN until both have had a first accepted level, then FULL with FLOAT-FULL closed, HIGH with FLOAT-
HIGH alone closed, and BELOW-HIGH with both open. The flow input is that of the terminal with PUMP-FLOW.
(The openings of TANKSW and of the slot switches are stated apart. That the time missing from a timer passes
when its expiry is taken is log 2, and the hand-overs at the end of the step are log 4: the model's
choices.) -/
def Obligations.AcceptedSwitchLevelsReachTheirOwners : Prop :=
  (∀ (s : State) (sw : Switch) (e : Nat), s.up = true → (s.sfe.switch sw).steady = some e →
      let u := s.advance (20 - e)
      let was := (s.sfe.switch sw).accepted
      let level := s.pins.get sw
      let r := u.setSfe (u.sfe.setSwitch sw ⟨level, true, none⟩)
      let function := match sw with
        | .mf0 => some s.sst.settings.terminals.mf0
        | .mf1 => some s.sst.settings.terminals.mf1
        | .mf2 => some s.sst.settings.terminals.mf2
        | _ => none
      let taken := exec (.switchChangeAccepted sw) s
      let handed := fun v : State => ∃ t, taken = .next t ∧ t.handsOn ((v.deriveFull false).autoStart)
      (function = none ∨ function = some .none ∨ function = some .probe ∨ function = some .pumpFlow ∨
        function = some .powerFailWarn → was = level → taken = .next r) ∧
      (sw = .tanksw → was = false → level = true → taken = .next (if s.cdc.presence = .absent then
        r.setCdc { r.cdc with presence := .settling, settle := some 0 } else r)) ∧
      (∀ st, sw = .slot st → was = false → level = true → taken = .next (if (s.slot st).state = .empty then
        r.setSlot st { r.slot st with state := .settling, settle := some 0 } else r)) ∧
      (function = some .none ∨ function = some .probe → taken = .next r) ∧
      (function = some .powerFailWarn →
        (was = false → level = true → taken = .next (r.request (.single .filters)) ∧
          (r.request (.single .filters)).asked (.single .filters)) ∧
        (level = false → taken = .next r)) ∧
      (function = some .pumpFlow → was ≠ level →
        (∀ q, u.cdc.seq = some q → q.status = .running → q.phase = some .prime →
          taken = .next (r.setCdc { r.cdc with seq := some { q with flow := if level then some 0 else none } })) ∧
        ((∀ q, u.cdc.seq = some q → q.status ≠ .running ∨ q.phase ≠ some .prime) → taken = .next r)) ∧
      (function = some .floatFull →
        (was = level → handed r) ∧
        (was ≠ level → handed (r.setCdc { r.cdc with release := if level then none else some 0, released := false }))) ∧
      (function = some .floatHigh →
        (was = level → handed r) ∧
        (was ≠ level →
          (∀ q, u.cdc.seq = some q → q.status = .running → q.phase = some .transfer →
            handed (r.setCdc { r.cdc with seq := some { q with highRelease := if level then none else some 0 } })) ∧
          (∀ q, u.cdc.seq = some q → q.status = .running → q.phase = some .verify →
            handed (if level then r.setCdc { r.cdc with seq := some { q with floatClosed := some true } } else r)) ∧
          ((∀ q, u.cdc.seq = some q → q.status ≠ .running ∨ (q.phase ≠ some .transfer ∧ q.phase ≠ some .verify)) →
            handed r)))) ∧
  (∀ s : State,
      (s.method = .floats →
        (s.sfe.mf0.first = false ∨ s.sfe.mf1.first = false → s.level = .unknown) ∧
        (s.sfe.mf0.first = true → s.sfe.mf1.first = true →
          (s.sfe.mf1.accepted = true → s.level = .full) ∧
          (s.sfe.mf1.accepted = false → s.sfe.mf0.accepted = true → s.level = .high) ∧
          (s.sfe.mf1.accepted = false → s.sfe.mf0.accepted = false → s.level = .belowHigh))) ∧
      (let f := s.sst.settings.terminals
       (f.mf0 = .pumpFlow → s.flowInput = some s.sfe.mf0.accepted) ∧
       (f.mf0 ≠ .pumpFlow → f.mf1 = .pumpFlow → s.flowInput = some s.sfe.mf1.accepted) ∧
       (f.mf0 ≠ .pumpFlow → f.mf1 ≠ .pumpFlow → f.mf2 = .pumpFlow → s.flowInput = some s.sfe.mf2.accepted) ∧
       (f.mf0 ≠ .pumpFlow → f.mf1 ≠ .pumpFlow → f.mf2 ≠ .pumpFlow → s.flowInput = none)))

/-- The tank is taken out.
An accepted opening of TANKSW on a PRESENT tank completes: the tank is ABSENT, the FULL flag is clear, the
pump is off, a RUNNING pump-out is STOPPED with TANK-REMOVED in the phase it was in, the compressor is off,
and TANK is set on all ports. On a SETTLING tank it only makes the tank ABSENT. (That an ended run's block
elapsed is absent is log 56, that the time missing from a timer passes when its expiry is taken is log 2,
and the hand-overs at the end of the step are log 4: the model's choices.) -/
def Obligations.RemovingTheTankStopsEverything : Prop :=
  ∀ (s : State) (e : Nat), s.up = true → s.sfe.tanksw.steady = some e → s.pins.tanksw = false →
    s.sfe.tanksw.accepted = true →
    let u := s.advance (20 - e)
    let r := u.setSfe { u.sfe with tanksw := ⟨false, true, none⟩ }
    (s.cdc.presence = .present → s.pumpLaw → ∃ t, exec (.switchChangeAccepted .tanksw) s = .next t ∧
      t.cdc.presence = .absent ∧ t.cdc.settle = none ∧ t.cdc.full = false ∧ t.cdc.pump = false ∧ t.comp = false ∧
      t.flagOnAll .tank ∧
      (∀ q, u.cdc.seq = some q → q.status = .running →
        t.cdc.seq = some (q.over .stopped .tankRemoved) ∧ t.flagOnAll .pump) ∧
      (∀ q, u.cdc.seq = some q → q.status ≠ .running → t.cdc.seq = some q) ∧
      t.sameBut r [.afc, .fau, .drc, .cdc, .tlg, .prt]) ∧
    (s.cdc.presence = .settling → exec (.switchChangeAccepted .tanksw) s =
      .next (r.setCdc { r.cdc with presence := .absent, settle := none }))

/-- A cartridge is taken out.
An accepted opening of a slot switch completes with the slot EMPTY and its read, tag data, mismatch cause
and failed-read count gone. From TAGGED, UNTAGGED or MISMATCH it sets the removed-since-start mark, posts
CARTRIDGE REMOVED and is handed on; from SETTLING or IDENTIFYING it posts nothing. Every stage account and
the recent list stay as they were. (That the time missing from a timer passes when its expiry is taken is
log 2, and the hand-overs at the end of the step are log 4: the model's choices.) -/
def Obligations.RemovingACartridge : Prop :=
  ∀ (s : State) (st : Stage) (e : Nat), s.up = true → (s.sfe.slots.get st).steady = some e →
    s.pins.slots.get st = false → (s.sfe.slots.get st).accepted = true →
    let u := s.advance (20 - e)
    let r := u.setSfe { u.sfe with slots := u.sfe.slots.set st ⟨false, true, none⟩ }
    let gone : Slot := { u.slot st with
      state := .empty, settle := none, fails := 0, reading := none, tag := none, cause := none }
    ((s.slot st).state = .tagged ∨ (s.slot st).state = .untagged ∨ (s.slot st).state = .mismatch →
      ∃ t, exec (.switchChangeAccepted (.slot st)) s = .next t ∧
        t.handsOn (((r.setSlot st { gone with removed := true }).postAll .cartridge).log
          (.cartridge st .removed)) ∧
        t.stagePresent st = false ∧ t.fau.accounts = s.fau.accounts ∧ t.crd.recent = s.crd.recent) ∧
    ((s.slot st).state = .settling ∨ (s.slot st).state = .identifying →
      exec (.switchChangeAccepted (.slot st)) s = .next (r.setSlot st gone))

/-- PUT-DEMAND.
Byte by byte: an AIR step 0 is bad and one above 10 is clamped to 10; a DRY target is clamped to 30..80; a
QUIET ceiling 0 is bad and one above 10 is clamped; a form or a compressor-allowed byte other than 0 or 1 is
bad; a duration of 0 is bad, 0xFFFF is none, and one above 1440 minutes is clamped; a HALT carries its
duration in bytes 2 and 3. From a port at a placing rank, a PUT-DEMAND with a kind and a slot in range, an
acceptable argument and an acceptable duration completes: the port's entry in that slot leaves, the new
entry with the port's rank joins at the newest end, and the table is resolved once and handed on. The answer
is OK, or ADJUSTED when a value was clamped, with the plan version and the entry's standing. With a bad
kind, slot, argument or duration the answer is BAD-ARG and nothing changes. (The hand-overs at the end of
the step are log 4, the model's choice.) -/
def Obligations.PutDemandIsCheckedAndResolved : Prop :=
  ((∀ slot n lo hi : Byte, askOf [slot, 0, 0, n, lo, hi] =
      if n = 0 then .bad else .taken (.air (.step (min 10 n.toNat))) (decide (10 < n.toNat))) ∧
    (∀ slot n lo hi : Byte, askOf [slot, 0, 1, n, lo, hi] = .taken (.air .auto) false) ∧
    (∀ slot n lo hi : Byte, askOf [slot, 1, 0, n, lo, hi] =
      .taken (.dry (.percent (max 30 (min 80 n.toNat)))) (decide (n.toNat < 30) || decide (80 < n.toNat))) ∧
    (∀ slot n lo hi : Byte, askOf [slot, 1, 1, n, lo, hi] = .taken (.dry .continuous) false) ∧
    (∀ slot kind form n lo hi : Byte, kind.toNat < 2 → 2 ≤ form.toNat →
      askOf [slot, kind, form, n, lo, hi] = .bad) ∧
    (∀ slot n b lo hi : Byte, askOf [slot, 2, n, b, lo, hi] =
      if 2 ≤ b.toNat ∨ n = 0 then .bad
      else .taken (.quiet (min 10 n.toNat) (decide (b = 1))) (decide (10 < n.toNat))) ∧
    (∀ slot lo hi : Byte, askOf [slot, 3, lo, hi] = .taken .halt false) ∧
    (∀ slot kind a b lo hi : Byte, kind ≠ 3 → durationOf [slot, kind, a, b, lo, hi] =
      let d := lo.toNat + 256 * hi.toNat
      if d = 65535 then .taken none false else if d = 0 then .bad
      else .taken (some (60 * min 1440 d)) (decide (1440 < d))) ∧
    (∀ slot lo hi : Byte, durationOf [slot, 3, lo, hi] =
      let d := lo.toNat + 256 * hi.toNat
      if d = 65535 then .taken none false else if d = 0 then .bad
      else .taken (some (60 * min 1440 d)) (decide (1440 < d)))) ∧
  (∀ (s : State) (p : Port) (tag : Byte) (pl : List Byte), s.takes p = true → s.rank p ≠ .off →
      fits .putDemand pl = true →
      (∀ ask rem c1 c2, arg1 pl 1 ≤ 3 → arg1 pl 0 ≤ 3 → askOf pl = .taken ask c1 →
        durationOf pl = .taken rem c2 →
        let r := s.heard p
        let kept := s.dar.table.filter (fun x => !(x.origin == p && x.slot == arg1 pl 0))
        let e : Demand := ⟨p, arg1 pl 0, ask, rem, s.rank p, .outranked⟩
        ∃ w t, w.handsOn ((r.setDar { r.dar with table := kept ++ [e] }).resolve) ∧
          exec (.putDemand p tag pl) s = .next t ∧
          t.answered p tag (if c1 || c2 then .adjusted else .ok)
            (encVersion w ++ encOpt1 ((w.standingAt p (arg1 pl 0)).map (·.code))) ∧
          t.onlyAnswers w p) ∧
      (3 < arg1 pl 1 ∨ 3 < arg1 pl 0 ∨ askOf pl = .bad ∨ durationOf pl = .bad →
        ∃ t, exec (.putDemand p tag pl) s = .next t ∧ t.answered p tag .badArg [] ∧ t.onlyAnswers s p))

/-- CLEAR-DEMAND and CLEAR-ALL-DEMANDS.
From a port at a placing rank, CLEAR-DEMAND of a slot that holds an entry of the port removes it, resolves
the table and answers OK with the version; of an empty slot it answers NOT-FOUND, and above 3 BAD-ARG, with
nothing changed. (The hand-overs at the end of the step are log 4, the model's choice.) A port clears its
own entries, without an argument or naming itself; SERVICE clears any port's or ALL. The entries go at once
with one resolution; the answer is OK with the number removed and the version; each removed entry of another
port sets EXPIRED on its origin, with a DEMAND-DROPPED record. With no such entry, 0 is answered and nothing
changes. PANEL and LINK naming another port or ALL are answered NOT-PERMITTED, and an argument naming no
port BAD-ARG. -/
def Obligations.ClearCommandsRemoveEntries : Prop :=
  (∀ (s : State) (p : Port) (tag b : Byte), s.takes p = true → s.rank p ≠ .off →
      let mine := fun e : Demand => e.origin == p && e.slot == b.toNat
      let r := s.heard p
      (b.toNat ≤ 3 → s.dar.table.any mine = true →
        ∃ w t, w.handsOn ((r.setDar { r.dar with table := s.dar.table.filter (fun e => !mine e) }).resolve) ∧
          exec (.clearDemand p tag [b]) s = .next t ∧ t.answered p tag .ok (encVersion w) ∧ t.onlyAnswers w p) ∧
      (b.toNat ≤ 3 → s.dar.table.any mine = false → ∃ t, exec (.clearDemand p tag [b]) s = .next t ∧
        t.answered p tag .notFound [] ∧ t.onlyAnswers s p) ∧
      (3 < b.toNat → ∃ t, exec (.clearDemand p tag [b]) s = .next t ∧
        t.answered p tag .badArg [] ∧ t.onlyAnswers s p)) ∧
  (∀ (s : State) (p : Port) (tag : Byte) (pl : List Byte), s.takes p = true → s.rank p ≠ .off → pl.length ≤ 1 →
      (∀ scope, scopeOf p pl = some scope → p = .service ∨ scope = .one p →
        let gone := s.dar.table.filter scope.covers
        let r := s.heard p
        let told := r.reportDropped (gone.filter (fun e => e.origin != p)) (fun x => .demandDropped x .serviceClear)
        (gone ≠ [] → ∃ w t,
          w.handsOn ((told.setDar { r.dar with table := s.dar.table.filter (fun e => !scope.covers e) }).resolve) ∧
          exec (.clearAllDemands p tag pl) s = .next t ∧
          t.answered p tag .ok (enc1 gone.length ++ encVersion w) ∧ t.onlyAnswers w p ∧
          ∀ e ∈ gone, e.origin ≠ p → w.flagOn e.origin .expired) ∧
        (gone = [] → ∃ t, exec (.clearAllDemands p tag pl) s = .next t ∧
          t.answered p tag .ok (enc1 0 ++ encVersion s) ∧ t.onlyAnswers s p)) ∧
      (∀ scope, scopeOf p pl = some scope → p ≠ .service → scope ≠ .one p →
        ∃ t, exec (.clearAllDemands p tag pl) s = .next t ∧ t.answered p tag .notPermitted [] ∧
          t.onlyAnswers s p) ∧
      (scopeOf p pl = none → ∃ t, exec (.clearAllDemands p tag pl) s = .next t ∧
        t.answered p tag .badArg [] ∧ t.onlyAnswers s p))

/-- The DAR second timer.
At each expiry every remaining goes down by 1, whatever the entry's standing. When no entry reaches 0,
nothing else changes. The entries that reach 0 leave together, each sets EXPIRED on its origin port and is
logged, oldest first, and the table is resolved once and handed on. EXPIRED goes to each entry's origin port
and its record to the log, one entry after the other. (That the time missing from a timer passes when its
expiry is taken is log 2, and the hand-overs at the end of the step are log 4: the model's choices.) -/
def Obligations.SecondTimerCountsDown : Prop :=
  (∀ (s : State) (e : Nat), s.up = true → s.dar.second = some e →
      let u := s.advance (1000 - e)
      let table := s.dar.table.map (fun d => { d with remaining := d.remaining.map (· - 1) })
      let gone := table.filter (fun d => d.remaining = some 0)
      (gone = [] → exec .darSecondTimer s = .next (u.setDar { u.dar with second := some 0, table := table })) ∧
      (gone ≠ [] → ∃ t, exec .darSecondTimer s = .next t ∧
        t.handsOn (((u.reportDropped gone .demandExpired).setDar { u.dar with
          second := some 0, table := table.filter (fun d => d.remaining ≠ some 0) }).resolve) ∧
        ∀ d ∈ gone, t.flagOn d.origin .expired)) ∧
  (∀ (s : State) (ev : DemandRef → Event), s.reportDropped [] ev = s ∧
      ∀ (e : Demand) (es : List Demand), s.reportDropped (e :: es) ev =
        ((s.post e.origin .expired).log (ev ⟨e.origin, e.slot⟩)).reportDropped es ev)

/-- One resolution, and the content of the plan.
A resolution sets every entry's standing afresh and makes the plan content that of the table. When the
content is as it was, the version stays and no flag is set; when it differs, the version goes up by 1 (65535
to 0) and PLAN is set on all ports. Nothing else changes. The content of a table is: the argument and the
origin port and slot of the governing AIR, of the governing DRY and of the governing QUIET, whose ceiling
and compressor allowed come from one entry, each absent without that entry, compressor allowed then being
yes; and rank, origin port and slot of the halting entry, absent without one. -/
def Obligations.ResolutionMovesTheVersionWithTheContent : Prop :=
  (∀ s : State,
      s.resolve.dar.plan = planOf s.dar.table ∧
      s.resolve.dar.table = s.dar.table.map (fun e => { e with standing := standingIn s.dar.table e }) ∧
      (planOf s.dar.table = s.dar.plan → s.resolve.dar.version = s.dar.version ∧ s.resolve.prt = s.prt) ∧
      (planOf s.dar.table ≠ s.dar.plan → s.resolve.dar.version = s.dar.version + 1 ∧
        s.resolve.flagOnAll .plan ∧ s.resolve.flagsRaised s (fun _ => Flag.plan.bit)) ∧
      s.resolve.dar.second = s.dar.second ∧ s.resolve.sameBut s [.dar, .prt]) ∧
  (∀ t : List Demand,
      let x := planOf t
      (∀ e a, governingEntry t .air = some e → e.ask = .air a → x.air = some a) ∧
      (∀ e a, governingEntry t .dry = some e → e.ask = .dry a → x.dry = some a) ∧
      (∀ e c b, governingEntry t .quiet = some e → e.ask = .quiet c b → x.ceiling = some c ∧ x.allowed = b) ∧
      (governingEntry t .air = none → x.air = none) ∧ (governingEntry t .dry = none → x.dry = none) ∧
      (governingEntry t .quiet = none → x.ceiling = none ∧ x.allowed = true) ∧
      (∀ e, governingEntry t .air = some e → ∃ a, e.ask = .air a) ∧
      (∀ e, governingEntry t .dry = some e → ∃ a, e.ask = .dry a) ∧
      (∀ e, governingEntry t .quiet = some e → ∃ c b, e.ask = .quiet c b) ∧
      x.airRef = (governingEntry t .air).map (fun e => ⟨e.origin, e.slot⟩) ∧
      x.dryRef = (governingEntry t .dry).map (fun e => ⟨e.origin, e.slot⟩) ∧
      x.quietRef = (governingEntry t .quiet).map (fun e => ⟨e.origin, e.slot⟩) ∧
      x.haltRank = (haltingEntry t).map (·.rank) ∧
      x.haltRef = (haltingEntry t).map (fun e => ⟨e.origin, e.slot⟩))

/-- The order of strength.
Of two entries at different places of the arrival order, exactly one is stronger: higher rank first, then
SERVICE before PANEL before LINK, then the newer of one port; kind and argument play no part. Of a list that
holds entries, `strongest` gives one that is stronger than every other. -/
def Obligations.StrengthIsTotalAndStrongestIsStrongest : Prop :=
  (∀ (x y : Demand) (i j : Nat), i ≠ j →
    (x.stronger i y j ∨ y.stronger j x i) ∧ ¬(x.stronger i y j ∧ y.stronger j x i)) ∧
  (∀ (x y : Demand) (i j : Nat), y.rank.num < x.rank.num → x.stronger i y j) ∧
  (portWeight .link < portWeight .panel ∧ portWeight .panel < portWeight .service) ∧
  (∀ (x y : Demand) (i j : Nat) (k : Ask), x.stronger i y j → { x with ask := k }.stronger i y j) ∧
  (∀ t : List Demand, t ≠ [] → ∃ (x : Demand) (i : Nat), strongest t = some x ∧ t[i]? = some x ∧
    ∀ (y : Demand) (j : Nat), t[j]? = some y → j ≠ i → x.stronger i y j)

/-- Standings.
In a table with one entry at most for a port and slot: without a HALT no entry is SUPPRESSED; with HALTs the
halting entry is stronger than every other HALT, is not SUPPRESSED, and exactly the other entries of its
rank or below are; at most one HALT is unsuppressed; each kind with an unsuppressed entry has exactly one
GOVERNING entry, which is stronger than every other unsuppressed entry of the kind, and these are OUTRANKED. -/
def Obligations.StandingsFollowTheStrongestHalt : Prop :=
  ∀ t : List Demand, (t.map Demand.ref).Nodup →
    ((∀ e ∈ t, e.ask.kind ≠ .halt) → ∀ e ∈ t, standingIn t e ≠ .suppressed) ∧
    (∀ h, haltingEntry t = some h → h.ask.kind = .halt ∧ standingIn t h = .governing ∧
      (∃ i : Nat, t[i]? = some h ∧
        ∀ (j : Nat) (y : Demand), t[j]? = some y → y.ask.kind = .halt → j ≠ i → h.stronger i y j) ∧
      ∀ e ∈ t, standingIn t e = .suppressed ↔ (e ≠ h ∧ e.rank.num ≤ h.rank.num)) ∧
    (∀ e ∈ t, e.ask.kind = .halt → (haltingEntry t).isSome = true) ∧
    (∀ e ∈ t, ∀ f ∈ t, e.ask.kind = .halt → f.ask.kind = .halt → standingIn t e ≠ .suppressed →
      standingIn t f ≠ .suppressed → e = f) ∧
    (∀ e ∈ t, standingIn t e ≠ .suppressed → ∃ g, governingEntry t e.ask.kind = some g ∧
      g.ask.kind = e.ask.kind ∧ standingIn t g = .governing ∧ (e ≠ g → standingIn t e = .outranked) ∧
      ∃ i : Nat, t[i]? = some g ∧
        ∀ (j : Nat) (y : Demand), t[j]? = some y → y.ask.kind = e.ask.kind → standingIn t y ≠ .suppressed →
          j ≠ i → g.stronger i y j)

/-- A regulation boundary at which no stall is detected.
REGULATION_BOUNDARY completes. The period just ended is judged and the low-speed count follows; a pending
bank becomes active, with CURVE posted and the floor derived from it; the AUTO state follows the particle
reading; the target is the larger of the drying need and the plan step under the ceiling, and 0 with a
required stage ABSENT, a stall or the fault; the actual step moves by one step at most; the duty is the
active bank's for it, or 0. Limited-by is the first of FAULT, STALL, FILTER, NEED, CEILING that holds. The
result is handed on and nothing else changes. (That the time missing from a timer passes when its expiry is
taken is log 2, and the hand-overs at the end of the step are log 4: the model's choices.) -/
def Obligations.BoundaryMovesTheFan : Prop :=
  ∀ (s : State) (e : Nat), s.up = true → s.afc.regulation = some e →
    (s.afc.stalled = true ∨ s.afc.fault = true ∨ s.afc.duty < 150 ∨ 200 ≤ s.sfe.tach.rpm ∨ s.afc.lowCount < 2) →
    let u := s.advance (2000 - e)
    let x := u.afc
    let off := x.stalled || x.fault
    let auto := nextAuto u.pmA x.band x.fall
    let w := match x.pendingBank with
      | none => u
      | some n => ((u.setAfc { x with active := n, pendingBank := none }).postAll .curve).log (.curve n)
    let floor := if x.pendingBank.isSome then w.afc.dryFloor s.sst.settings.airflow w.derating else x.floor
    let plan := match s.dar.plan.air with
      | some (.step n) => n
      | some .auto => autoStep auto.1
      | none => 0
    let ceiling := s.dar.plan.ceiling.getD 10
    let need := match x.need with
      | .none => 0
      | .floor => floor.getD 10
      | .defrost => s.sst.settings.airflow.defrostStep
    let target := if s.requiredAbsent || off then 0 else max (min plan ceiling) need
    let actual := if x.actual < target then x.actual + 1 else if target < x.actual then x.actual - 1 else x.actual
    ∃ t, exec .regulationBoundary s = .next t ∧ t.handsOn (w.setAfc { w.afc with
      regulation := some 0
      lowCount := if off then x.lowCount
        else if 150 ≤ x.duty ∧ s.sfe.tach.rpm < 200 then x.lowCount + 1 else 0
      band := auto.1, fall := auto.2, target := target, actual := actual
      limitedBy := if x.fault then .fault else if x.stalled then .stall else if s.requiredAbsent then .filter
        else if min plan ceiling < need then .need else if ceiling < plan then .ceiling else .none
      duty := if off then 0 else (Bank.point (w.afc.bank w.afc.active) actual).duty })

/-- The third low-speed period, and the end of a stall.
With the stall state CLEAR and no fault, a boundary that ends a third low-speed period in a row completes
with the duty, the target and Q 0, the actual step one lower, the fan not running, the compressor off, the
count 0 and the detection in the history, which keeps no entry more than 600 s older. With fewer than 3
entries the fan is STALLED for 30 s and FAN STALL is posted; with 3 the fault is latched, FAN FAULT is
posted, the stall state stays CLEAR and the DRC is in LOCKOUT. A pending bank becomes active at that
boundary, with CURVE posted after FAN, and the AUTO state follows. The result is handed on. STALL_OFF_TIMER
completes with the stall state CLEAR, handed on. (That the time missing from a timer passes when its expiry
is taken is log 2, and the hand-overs at the end of the step are log 4: the model's choices.) -/
def Obligations.StallsAreDetectedRetriedAndLatched : Prop :=
  (∀ (s : State) (e : Nat), s.up = true → s.afc.regulation = some e → s.afc.stalled = false →
    s.afc.fault = false → 150 ≤ s.afc.duty → s.sfe.tach.rpm < 200 → 2 ≤ s.afc.lowCount →
    let u := s.advance (2000 - e)
    let h := s.afc.history.filter (fun at' => decide (u.now - at' ≤ 600000)) ++ [u.now]
    let faults := decide (3 ≤ h.length)
    let x := { u.afc with
      regulation := some 0, lowCount := 0, history := h, fault := faults, stalled := !faults
      stallOff := if faults then u.afc.stallOff else some 0 }
    let v := ((u.setAfc x).postAll .fan).log (.fan (if faults then .fault else .stall))
    let w := match s.afc.pendingBank with
      | none => v
      | some n => ((v.setAfc { x with active := n, pendingBank := none }).postAll .curve).log (.curve n)
    let auto := nextAuto u.pmA u.afc.band u.afc.fall
    ∃ t, exec .regulationBoundary s = .next t ∧
      t.handsOn (w.setAfc { w.afc with
        band := auto.1, fall := auto.2, target := 0, actual := s.afc.actual - 1, duty := 0
        limitedBy := if faults then .fault else .stall }) ∧
      (∀ n, s.afc.pendingBank = some n → t.afc.active = n ∧ t.afc.pendingBank = none ∧ t.flagOnAll .curve) ∧
      t.afc.history = h ∧ t.afc.lowCount = 0 ∧ t.afc.duty = 0 ∧ t.afc.target = 0 ∧
      t.afc.actual = s.afc.actual - 1 ∧ t.afc.q = 0 ∧ t.fau.running = false ∧ t.comp = false ∧
      t.flagOnAll .fan ∧
      (h.length < 3 → t.afc.stalled = true ∧ t.afc.stallOff = some 0 ∧ t.afc.fault = false ∧
        t.afc.limitedBy = .stall) ∧
      (3 ≤ h.length → t.afc.fault = true ∧ t.afc.stalled = false ∧ t.afc.stallOff = u.afc.stallOff ∧
        t.afc.limitedBy = .fault ∧ t.drc.state = .lockout) ∧
      t.sameBut u [.afc, .fau, .drc, .tlg, .prt]) ∧
  (∀ (s : State) (e : Nat), s.up = true → s.afc.stallOff = some e →
    let u := s.advance (30000 - e)
    ∃ t, exec .stallOffTimer s = .next t ∧
      t.handsOn (u.setAfc { u.afc with stalled := false, stallOff := none }))

/-- The AUTO state at a boundary.
The bands begin at 0, 13, 36, 56, 151 and 251. Without a reading AUTO is in FALLBACK at step 4. A first
reading, and a reading in a higher band, set the band at once. In bands 2 to 6 a reading below the lower
bound less 3 starts the fall timer, which keeps counting until it has counted 60 s, and then the band falls
by one; a reading at or above it stops the timer. Band 1 has no threshold. -/
def Obligations.AutoFollowsTheParticleBands : Prop :=
  let lower := fun b : Nat => [0, 0, 13, 36, 56, 151, 251].getD b 0
  (∀ v b, 1 ≤ b → b ≤ 6 → (bandOf v = b ↔ lower b ≤ v ∧ (b < 6 → v < lower (b + 1)))) ∧
  autoStep none = 4 ∧ (∀ b, 1 ≤ b → b ≤ 6 → autoStep (some b) = [0, 1, 3, 5, 7, 9, 10].getD b 0) ∧
  (∀ band fall, nextAuto none band fall = (none, none)) ∧
  (∀ v fall, nextAuto (some v) none fall = (some (bandOf v), none)) ∧
  (∀ v b fall, b < bandOf v → nextAuto (some v) (some b) fall = (some (bandOf v), none)) ∧
  (∀ v fall, bandOf v = 1 → nextAuto (some v) (some 1) fall = (some 1, none)) ∧
  (∀ v b fall, 2 ≤ b → b ≤ 6 → bandOf v ≤ b → lower b ≤ v + 3 →
    nextAuto (some v) (some b) fall = (some b, none)) ∧
  (∀ v b, 2 ≤ b → b ≤ 6 → bandOf v ≤ b → v + 3 < lower b →
    nextAuto (some v) (some b) none = (some b, some 0) ∧
    ∀ e, nextAuto (some v) (some b) (some e) = if 60000 ≤ e then (some (b - 1), none) else (some b, some e))

/-- The effective dry floor, Q and the derating.
The floor is the smallest step from the dry minimum step to 10 whose derated airflow reaches the minimum
coil airflow, and NONE when no step does. Q is the derated airflow of the actual step while the fan runs and
0 otherwise. The fan runs with the actual step at 1 or more and neither a stall nor the fault. The derating
is the sum, over the stages whose slot is TAGGED or UNTAGGED, of the lesser of W and 1500, times K, divided
by 1000 and rounded down, and at most 700; W is the load divided by C, rounded down, and at most 2000. -/
def Obligations.DryFloorIsTheLeastStepThatDelivers : Prop :=
  ∀ (x : Afc) (cfg : AirflowConfig) (d : Nat),
    let air := fun step : Nat => (Bank.point (x.bank x.active) step).qnom * (1000 - d) / 1000
    let good := fun step : Nat => cfg.dryMin ≤ step ∧ step ≤ 10 ∧ cfg.minCoil ≤ air step
    (∀ f, x.dryFloor cfg d = some f ↔ (good f ∧ ∀ g, g < f → ¬good g)) ∧
    (x.dryFloor cfg d = none ↔ ∀ f, ¬good f) ∧
    (1 ≤ x.actual → x.stalled = false → x.fault = false → x.airflow d = air x.actual) ∧
    (x.actual = 0 ∨ x.stalled = true ∨ x.fault = true → x.airflow d = 0) ∧
    (x.isRunning = true ↔ 1 ≤ x.actual ∧ x.stalled = false ∧ x.fault = false) ∧
    ∀ s : State,
      let term := fun st : Stage =>
        let a := s.fau.accounts.get st
        if (s.slot st).state = .tagged ∨ (s.slot st).state = .untagged then
          min (min 2000 (a.load / a.c)) 1500 * a.k / 1000
        else 0
      (∀ st, s.stagePresent st = true ↔ (s.slot st).state = .tagged ∨ (s.slot st).state = .untagged) ∧
      s.derating = min 700 (term .pre + term .carb + term .fine)

/-- LOAD-CURVE and SELECT-CURVE.
From a port at a placing rank LOAD-CURVE of a bank that is neither active nor pending completes with the
bank holding the clamped entries, a legal bank, answered OK or, with a clamp, ADJUSTED; entries that break
an order of R46 are refused with BAD-ARG, a bank code other than 0 and 1 with BAD-ARG, and the active or
pending bank with WRONG-STATE. SELECT-CURVE makes the other bank pending and answers the banks; the active
bank is answered OK with nothing changed; while a swap is pending it is BUSY. A refusal changes nothing.
(That a refusal carries no banks is log 45, the model's choice.) -/
def Obligations.CurveBanksAreLoadedAndSelected : Prop :=
  (∀ (s : State) (p : Port) (tag : Byte) (pl : List Byte), s.takes p = true → s.rank p ≠ .off → pl.length = 45 →
    let b := curveOf pl 1
    (bankOf (arg1 pl 0) = none → ∃ t, exec (.loadCurve p tag pl) s = .next t ∧
      t.answered p tag .badArg [] ∧ t.onlyAnswers s p) ∧
    ∀ n, bankOf (arg1 pl 0) = some n →
      (n = s.afc.active ∨ s.afc.pendingBank = some n → ∃ t, exec (.loadCurve p tag pl) s = .next t ∧
        t.answered p tag .wrongState [] ∧ t.onlyAnswers s p) ∧
      (n ≠ s.afc.active → s.afc.pendingBank ≠ some n → b.acceptable = false →
        ∃ t, exec (.loadCurve p tag pl) s = .next t ∧ t.answered p tag .badArg [] ∧ t.onlyAnswers s p) ∧
      (n ≠ s.afc.active → s.afc.pendingBank ≠ some n → b.acceptable = true →
        ∃ t, exec (.loadCurve p tag pl) s = .next t ∧
          t.answered p tag (if b.clamped = b then .ok else .adjusted) [] ∧
          t.onlyAnswers (s.setAfc (s.afc.setBank n b.clamped)) p ∧ b.clamped.legal = true ∧
          (∀ step, step ≤ 10 → Bank.point b.clamped step =
            ⟨min 1000 (arg2 pl (1 + 4 * step)), min 600 (arg2 pl (3 + 4 * step))⟩))) ∧
  (∀ (s : State) (p : Port) (tag b : Byte), s.takes p = true → s.rank p ≠ .off →
    (bankOf b.toNat = none → ∃ t, exec (.selectCurve p tag [b]) s = .next t ∧
      t.answered p tag .badArg [] ∧ t.onlyAnswers s p) ∧
    ∀ n, bankOf b.toNat = some n →
      (s.afc.pendingBank.isSome = true → ∃ t, exec (.selectCurve p tag [b]) s = .next t ∧
        t.answered p tag .busy [] ∧ t.onlyAnswers s p) ∧
      (s.afc.pendingBank = none → n = s.afc.active → ∃ t, exec (.selectCurve p tag [b]) s = .next t ∧
        t.answered p tag .ok (enc1 n.code ++ [0xFF]) ∧ t.onlyAnswers s p) ∧
      (s.afc.pendingBank = none → n ≠ s.afc.active → ∃ t, exec (.selectCurve p tag [b]) s = .next t ∧
        t.answered p tag .ok (enc1 s.afc.active.code ++ enc1 n.code) ∧
        t.onlyAnswers (s.setAfc { s.afc with pendingBank := some n }) p))

/-- One accounting tick.
With the fan running and lawful accounts, ACCOUNTING_TICK completes with the period 0 and the tick count up
by 1. The inputs are PMa and Va, or their substitutes while INVALID, and the published Q. With the
remainder, the mass in is pm × Q ÷ 240; it equals what the stages capture and what escapes; a PRESENT stage
captures e ‰ of what reaches it, with its remainder; an ABSENT stage captures nothing and keeps its account.
CARB's gas mass is v × Q ÷ 6000 with the remainder. Each load saturates at 2000 × C and the rest is recorded
as discarded. The stage states follow from W and the wash count, and each PRESENT stage whose state changed
posts FILTER, in stage order; one that enters WORN or EXHAUSTED asks for a FILTERS checkpoint. A changed
load sets the dirty mark, and every 40th tick asks for FILTERS while the mark is set; nothing else asks for
a checkpoint. The result is handed on. While the fan is NOT-RUNNING the tick does not come and nothing
changes. (That the time missing from a timer passes when its expiry is taken is log 2, the hand-overs at the
end of the step are log 4, and requests made one after the other are log 18: the model's choices.) -/
def Obligations.AccountingTickConservesMass : Prop :=
  (∀ s : State, s.up = true → s.fau.running = true → s.accountLaw →
    let u := s.advance (15000 - s.fau.period)
    let a := s.fau.accounts
    ∃ t w r, exec .accountingTick s = .next t ∧ t.handsOn w ∧ t.fau.lastTick = some r ∧
      t.fau.period = 0 ∧ t.fau.tickCount = s.fau.tickCount + 1 ∧ r.number = s.fau.tickCount + 1 ∧
      r.pm = s.pmA.getD s.sst.settings.filters.fallbackPm ∧ r.pmSubstituted = s.pmA.isNone ∧
      r.v = s.va.getD 100 ∧ r.vSubstituted = s.va.isNone ∧ r.q = s.afc.q ∧
      240 * r.mIn + t.fau.rIn = r.pm * r.q + s.fau.rIn ∧ t.fau.rIn < 240 ∧
      (let cap := fun st => (r.captured.get st).getD 0
       r.mIn = cap .pre + cap .carb + cap .fine + r.escaped ∧
       (let reach := fun st => match st with
          | .pre => r.mIn
          | .carb => r.mIn - cap .pre
          | .fine => r.mIn - cap .pre - cap .carb
        ∀ st, (s.stagePresent st = true → (r.captured.get st).isSome = true ∧
            1000 * cap st + (t.fau.accounts.get st).rem = reach st * (a.get st).e + (a.get st).rem ∧
            (t.fau.accounts.get st).rem < 1000) ∧
          (s.stagePresent st = false → r.captured.get st = none ∧ r.discarded.get st = none ∧
            t.fau.accounts.get st = a.get st)) ∧
       (s.stagePresent .carb = true → ∃ g, r.gas = some g ∧
          6000 * g + t.fau.rG = r.v * r.q + s.fau.rG ∧ t.fau.rG < 6000) ∧
       (s.stagePresent .carb = false → r.gas = none ∧ t.fau.rG = s.fau.rG) ∧
       (let amount := fun st => match st with
          | .carb => r.gas.getD 0
          | st => cap st
        ∀ st, s.stagePresent st = true →
          (t.fau.accounts.get st).load = min (2000 * (a.get st).c) ((a.get st).load + amount st) ∧
          (t.fau.accounts.get st).load + (r.discarded.get st).getD 0 = (a.get st).load + amount st)) ∧
      (∀ st, t.stageState st = (t.fau.accounts.get st).stateBy s.sst.settings.filters (s.stagePresent st)) ∧
      (let changed := ([.pre, .carb, .fine] : List Stage).filter
         (fun st => s.stagePresent st && t.stageState st != s.stageState st)
       let worn := ∃ st ∈ changed, t.stageState st = .worn ∨ t.stageState st = .exhausted
       let dirty := s.fau.dirty = true ∨ ∃ st, (t.fau.accounts.get st).load ≠ (a.get st).load
       let told := changed.foldl
         (fun x st => (x.postAll .filter).log (.filterState st (t.stageState st))) u
       w.tlg = told.tlg ∧ w.prt = told.prt ∧
       (worn → t.asked (.single .filters)) ∧
       t.fau.periodic = (if s.fau.periodic + 1 < 40 then s.fau.periodic + 1 else 0) ∧
       (39 ≤ s.fau.periodic → dirty → t.asked (.single .filters)) ∧
       (¬worn → s.fau.periodic + 1 < 40 ∨ ¬dirty → t.sst = u.sst) ∧
       (t.sst.writing = s.sst.writing → (t.fau.dirty = true ↔ dirty))) ∧
      t.accountLaw ∧ w.sameBut u [.fau, .sst, .tlg, .prt]) ∧
  (∀ s : State, s.up = true → s.fau.running = false → exec .accountingTick s = .next s)

/-- RESET-FILTER, SET-STAGE and FORGET-CARTRIDGE.
From a port at a placing rank, RESET-FILTER of a PRESENT stage whose cartridge is not a TAGGED one that
cannot be washed completes with load, remainder, unverified and history-lost cleared and a washable
account's wash count up by 1, at most 255, answered OK with the wash count and the stage's state. SET-STAGE
from SERVICE on a PRESENT stage that is not TAGGED sets capacity, efficiency and restriction, clamped, and
the load at most 2000 × C. Both mark the account changed, post the stage's change of state, ask for a
FILTERS checkpoint and are handed on. FORGET-CARTRIDGE from SERVICE removes the list entry, posts it and
asks for a RECENT checkpoint. A bad stage or serial 0 is BAD-ARG, an ABSENT stage or an unlisted serial NOT-
FOUND, the excluded TAGGED stages WRONG-STATE, with nothing changed. (The dirty mark set whatever changed is
log 35, requests made one after the other log 18, and the hand-overs at the end of the step log 4: the
model's choices.) -/
def Obligations.FilterCommandsChangeOneAccount : Prop :=
  let taken := fun (r : State) (st : Stage) (a : Account) =>
    r.setFau { r.fau with accounts := r.fau.accounts.set st a, dirty := true }
  let reported := fun (s x : State) (st : Stage) =>
    let new := x.stageState st
    (if new = s.stageState st then x
     else
       let y := (x.postAll .filter).log (.filterState st new)
       if new = .worn ∨ new = .exhausted then y.request (.single .filters) else y).request (.single .filters)
  (∀ (s : State) (p : Port) (tag b : Byte), s.takes p = true → s.rank p ≠ .off →
    let r := s.heard p
    (stageOf b.toNat = none → ∃ t, exec (.resetFilter p tag [b]) s = .next t ∧
      t.answered p tag .badArg [] ∧ t.onlyAnswers s p) ∧
    ∀ st, stageOf b.toNat = some st →
      let a := s.fau.accounts.get st
      let wash := if a.washable then min 255 (a.wash + 1) else a.wash
      let x := taken r st { a with load := 0, rem := 0, unverified := false, historyLost := false, wash := wash }
      (s.stagePresent st = false → ∃ t, exec (.resetFilter p tag [b]) s = .next t ∧
        t.answered p tag .notFound [] ∧ t.onlyAnswers s p) ∧
      (s.stagePresent st = true → (s.slot st).state = .tagged → a.washable = false →
        ∃ t, exec (.resetFilter p tag [b]) s = .next t ∧ t.answered p tag .wrongState [] ∧ t.onlyAnswers s p) ∧
      (s.stagePresent st = true → ((s.slot st).state = .tagged → a.washable = true) →
        ∃ w t, w.handsOn (reported s x st) ∧ w.asked (.single .filters) ∧
          exec (.resetFilter p tag [b]) s = .next t ∧
          t.answered p tag .ok (enc1 wash ++ enc1 (w.stageState st).code) ∧ t.onlyAnswers w p)) ∧
  (∀ (s : State) (tag : Byte) (pl : List Byte), s.takes .service = true → pl.length = 7 →
    let r := s.heard .service
    (stageOf (arg1 pl 0) = none → ∃ t, exec (.setStage .service tag pl) s = .next t ∧
      t.answered .service tag .badArg [] ∧ t.onlyAnswers s .service) ∧
    ∀ st, stageOf (arg1 pl 0) = some st →
      let a := s.fau.accounts.get st
      let c := max 1 (min 65535 (arg2 pl 1))
      let e := min 1000 (arg2 pl 3)
      let k := min 1000 (arg2 pl 5)
      let x := taken r st { a with c := c, e := e, k := k, load := min (2000 * c) a.load }
      (s.stagePresent st = false → ∃ t, exec (.setStage .service tag pl) s = .next t ∧
        t.answered .service tag .notFound [] ∧ t.onlyAnswers s .service) ∧
      ((s.slot st).state = .tagged → ∃ t, exec (.setStage .service tag pl) s = .next t ∧
        t.answered .service tag .wrongState [] ∧ t.onlyAnswers s .service) ∧
      ((s.slot st).state = .untagged → ∃ w t,
        w.handsOn (reported s x st) ∧ w.asked (.single .filters) ∧
          exec (.setStage .service tag pl) s = .next t ∧
          t.answered .service tag
            (if c = arg2 pl 1 ∧ e = arg2 pl 3 ∧ k = arg2 pl 5 then .ok else .adjusted) [] ∧
          t.onlyAnswers w .service)) ∧
  (∀ (s : State) (tag b0 b1 b2 b3 : Byte), s.takes .service = true →
    let r := s.heard .service
    let pl := [b0, b1, b2, b3]
    let serial := b3 ++ b2 ++ b1 ++ b0
    (serial = 0 → ∃ t, exec (.forgetCartridge .service tag pl) s = .next t ∧
      t.answered .service tag .badArg [] ∧ t.onlyAnswers s .service) ∧
    (serial ≠ 0 → (∀ x ∈ s.crd.recent, x.serial ≠ serial) →
      ∃ t, exec (.forgetCartridge .service tag pl) s = .next t ∧
        t.answered .service tag .notFound [] ∧ t.onlyAnswers s .service) ∧
    (∀ x, serial ≠ 0 → s.crd.recent.find? (fun x => x.serial == serial) = some x →
      let v := (r.setCrd { r.crd with recent := r.crd.recent.filter (fun x => x.serial != serial) }).postAll .cartridge
      ∃ t, exec (.forgetCartridge .service tag pl) s = .next t ∧ t.answered .service tag .ok [] ∧
        t.onlyAnswers ((v.log (.cartridge x.stage (.forgotten serial))).request (.single .recent)) .service))

/-- The end of a slot settling, the read times and failed tag reads.
SLOT_SETTLE_END on a SETTLING slot completes with the slot IDENTIFYING and its failed-read count 0.
TAG_READ_TIME starts the next 2 s cycle and begins a read in IDENTIFYING, TAGGED, UNTAGGED and MISMATCH
alone. TAG_READ_ABANDON acts as a failed TAG_READ_END, a third failure in IDENTIFYING included, when the
read has taken 80 ms. A failed read leaves an UNTAGGED or MISMATCH slot, and is counted, at most 3, in a
TAGGED one; in IDENTIFYING a first and second failure are counted. Nothing else changes. (That the time
missing from a timer passes when its expiry is taken is log 2, that the failed-read count stays in MISMATCH
log 47, and that the settle timer is stopped in IDENTIFYING log 59: the model's choices.) -/
def Obligations.SlotsSettleAndAreRead : Prop :=
  ∀ (s : State) (st : Stage), s.up = true →
    (∀ e, (s.slot st).state = .settling → (s.slot st).settle = some e →
      let u := s.advance (2000 - e)
      exec (.slotSettleEnd st) s = .next (u.setSlot st { u.slot st with
        state := .identifying, settle := none, fails := 0, tag := none, cause := none })) ∧
    (∀ e, (s.slot st).poll = some e →
      let u := s.advance (2000 - e)
      let reads := (s.slot st).state ≠ .empty ∧ (s.slot st).state ≠ .settling
      exec (.tagReadTime st) s = .next (u.setSlot st { u.slot st with
        poll := some 0, reading := if reads then some 0 else (u.slot st).reading })) ∧
    (∀ e, (s.slot st).reading = some e → (s.slot st).state ≠ .identifying ∨ (s.slot st).fails < 2 →
      let read := { s.slot st with reading := none }
      exec (.tagReadEnd st none) s = .next (s.setSlot st (match read.state with
        | .identifying => { read with fails := read.fails + 1 }
        | .tagged => { read with fails := min 3 (read.fails + 1) }
        | _ => read))) ∧
    (∀ e, (s.slot st).reading = some e →
      exec (.tagReadAbandon st) s = exec (.tagReadEnd st none) (s.advance (80 - e)))

/-- A verdict on a cartridge.
A good tag read in IDENTIFYING, UNTAGGED or MISMATCH completes. Of another stage's type, or with the serial
of another stage's account, the slot is in MISMATCH with that cause and no account changes. Otherwise the
slot is TAGGED: with the serial of its own account that account goes on; with a serial listed for this stage
the account takes the tag's parameters and the listed load, at most 2000 × C, and wash count; otherwise it
begins at load 0. Where the account changes, an outgoing TAGGED account joins the recent list at its front,
the entry taken up leaves it and at 4 entries the last is evicted, and FILTERS and RECENT are asked for. A
third failed read in IDENTIFYING makes the slot UNTAGGED: an untagged account goes on, and a tagged one is
replaced by the untagged defaults, unverified. CARTRIDGE is set on all ports in each of these but a repeated
MISMATCH. In a TAGGED slot, the bound serial again changes no account; another tag is a removal, handed on,
followed by that verdict. A read is GOOD with a serial other than 0 and a known stage type; a capacity of 0
becomes 1, and an efficiency and a restriction above 1000 become 1000. (That the removal is handed on before
the verdict is log 26, the wash count of a listed cartridge that cannot be washed log 34, that the mismatch
cause goes with TAGGED log 48, and that a repeated MISMATCH posts nothing log 17: the model's choices.) -/
def Obligations.TagVerdictsBindTheirAccounts : Prop :=
  (∀ (s : State) (st : Stage) (e : Nat), s.up = true → s.recentLaw → (s.slot st).reading = some e →
      let a := s.fau.accounts.get st
      let lost := if (s.slot st).removed then false else a.historyLost
      let joined := fun l : List RecentEntry => match a.serial with
        | some n => ⟨n, st, a.load, a.wash⟩ :: (if 4 ≤ l.length then l.dropLast else l)
        | none => l
      let bound := fun (t : State) (a' : Account) (l : List RecentEntry) =>
        t.fau.accounts = s.fau.accounts.set st a' ∧ t.crd.recent = joined l ∧
        t.asked ⟨false, true, true, false⟩
      let kept := fun t : State => t.fau.accounts = s.fau.accounts ∧ t.crd.recent = s.crd.recent
      (∀ (raw : RawTag) (tag : TagData), RawTag.good raw = some tag →
        let elsewhere := ∃ st', st' ≠ st ∧ (s.fau.accounts.get st').serial = some tag.serial
        let blank : Account := { serial := some tag.serial, c := tag.c, e := tag.e, k := tag.k
                                 washable := tag.washable, load := 0, rem := 0, wash := 0
                                 unverified := false, historyLost := lost }
        ((s.slot st).state = .identifying ∨ (s.slot st).state = .untagged ∨ (s.slot st).state = .mismatch →
          ∃ t, exec (.tagReadEnd st (some raw)) s = .next t ∧
            (t.slot st).tag = some tag ∧ (t.slot st).fails = 0 ∧ (t.slot st).reading = none ∧
            t.sameBut s [.fau, .afc, .crd, .drc, .sst, .tlg, .prt] ∧
            ((s.slot st).state ≠ .mismatch → t.flagOnAll .cartridge) ∧
            (tag.stageType ≠ st → kept t ∧ (t.slot st).state = .mismatch ∧ (t.slot st).cause = some .wrongType) ∧
            (tag.stageType = st → elsewhere →
              kept t ∧ (t.slot st).state = .mismatch ∧ (t.slot st).cause = some .duplicateSerial) ∧
            (tag.stageType = st → ¬elsewhere → (t.slot st).state = .tagged ∧ (t.slot st).cause = none ∧
              t.flagOnAll .cartridge ∧
              (a.serial = some tag.serial → kept t) ∧
              (a.serial ≠ some tag.serial → (∀ x ∈ s.crd.recent, x.serial ≠ tag.serial) →
                bound t blank s.crd.recent) ∧
              (∀ x ∈ s.crd.recent, x.serial = tag.serial →
                bound t (if x.stage = st then
                    { blank with load := min (2000 * tag.c) x.load, wash := x.wash, historyLost := false }
                  else blank)
                  (s.crd.recent.filter (fun y => y.serial != tag.serial))))) ∧
        ((s.slot st).state = .tagged → a.serial = some tag.serial → tag.stageType = st →
          exec (.tagReadEnd st (some raw)) s = .next (s.setSlot st { s.slot st with
            reading := none, fails := 0, tag := some tag })) ∧
        ((s.slot st).state = .tagged → a.serial ≠ some tag.serial ∨ tag.stageType ≠ st →
          ∃ w : State, w.handsOn (((s.setSlot st { s.slot st with
                reading := none, state := .identifying, fails := 0, removed := true }).postAll .cartridge).log
              (.cartridge st .removed)) ∧
            exec (.tagReadEnd st (some raw)) s =
              exec (.tagReadEnd st (some raw)) (w.setSlot st { w.slot st with reading := some 0 }))) ∧
      ((s.slot st).state = .identifying → 2 ≤ (s.slot st).fails →
        ∃ t, exec (.tagReadEnd st none) s = .next t ∧ (t.slot st).state = .untagged ∧ (t.slot st).fails = 3 ∧
          t.flagOnAll .cartridge ∧ t.sameBut s [.fau, .afc, .crd, .drc, .sst, .tlg, .prt] ∧
          (a.serial = none → kept t) ∧
          (a.serial ≠ none →
            let x := s.sst.settings.untagged.get st
            bound t { serial := none, c := x.c, e := x.e, k := x.k, washable := x.washable, load := 0, rem := 0
                      wash := 0, unverified := true, historyLost := lost } s.crd.recent))) ∧
  (∀ (raw : RawTag) (tag : TagData), RawTag.good raw = some tag ↔
      (raw.serial ≠ 0 ∧ raw.stageType = some tag.stageType ∧ tag =
        { serial := raw.serial, stageType := tag.stageType
          c := if raw.capacity = 0 then 1 else raw.capacity.toNat
          e := min 1000 raw.efficiency.toNat, k := min 1000 raw.restriction.toNat, washable := raw.washable }))

/-- The off-timer, the minimum run, POST-RUN and the frost timer, and what the DRC decides by.
OFF_TIMER_PASSED and MINIMUM_RUN_END complete with the timer PASSED, or the minimum run over, handed on.
POST_RUN_END completes with the timer stopped, DRY set on all ports and the re-entry choice made.
FROST_DETECTED in RUNNING completes with the DRC in DEFROST, or in LOCKOUT where the fault or the coil
reading calls for it, for cause FROST, the compressor off, the off-timer and, in DEFROST, the defrost timer
at 0, the run over and a check in progress ended NO-VERDICT, DRY set on all ports and the record written.
The change is handed on. What the hand-overs of the DRC rest on, in any state. The call without a dry target
is clear and under CONTINUOUS set; under a numeric one it is set at ten times the target plus 30 and above,
clear at ten times it less 20 and below, else as it was. The cold mark is set below 50, clear from 60 on,
else as it was. TANK holds unless the tank is PRESENT, not FULL and its level known; QUIET with the
compressor forbidden or a floor above the ceiling; AIRFLOW without a floor; SENSOR with the room or the coil
reading INVALID; COLD with the cold mark; FILTER with a required stage neither TAGGED nor UNTAGGED. The re-
entry choice is OFF without a dry target, else SATISFIED with the call clear, else HOLD with a reason, else
START-WAIT. A start wants the off-timer PASSED, the actual step at the floor or above, no stall and no
fault. A normal stop wants the call clear or QUIET, AIRFLOW or COLD; a safety stop TANK, FILTER, the room
reading INVALID or a stall. The need is FLOOR in PULLDOWN, RUNNING, POST-RUN and START-WAIT with the timer
PASSED, DEFROST in DEFROST, and NONE elsewhere. (That the time missing from a timer passes when its expiry
is taken is log 2, the hand-overs at the end of the step are log 4, and that the cause stays after DEFROST
log 39: the model's choices.) -/
def Obligations.DryingTimersExpire : Prop :=
  (∀ (s : State) (e : Nat), s.up = true →
      (s.drc.off = .counting e →
        let u := s.advance (180000 - e)
        ∃ t, exec .offTimerPassed s = .next t ∧ t.handsOn (u.setDrc { u.drc with off := .passed }) ∧
          (s.drc.state.on = false → t.drc.off = .passed)) ∧
      (s.drc.state = .pulldown ∨ s.drc.state = .running → s.drc.minRun = false → s.drc.run = some e →
        let u := s.advance (120000 - e)
        ∃ t, exec .minimumRunEnd s = .next t ∧ t.handsOn (u.setDrc { u.drc with minRun := true }) ∧
          (t.drc.state.on = true → t.drc.minRun = true)) ∧
      (s.drc.state = .postRun → s.drc.postRun = some e →
        let u := s.advance (60000 - e)
        ∃ t, exec .postRunEnd s = .next t ∧ t.drc.postRun = none ∧ t.flagOnAll .dry ∧
          t.handsOn ((u.setDrc { u.drc with
            state := .off, defrost := none, defrostEnd := none, postRun := none }).postAll .dry)) ∧
      (s.drc.state = .running → s.drc.frost = some e →
        let u := s.advance (60000 - e)
        let pull := if s.drc.pull.outcome = some .checking then { u.drc.pull with outcome := some .noVerdict }
          else u.drc.pull
        ∃ t, exec .frostDetected s = .next t ∧
          t.handsOn (((u.setDrc { u.drc with
            state := .defrost, cause := some .frost, defrost := some 0, defrostEnd := none
            off := .counting 0, run := none, minRun := false, frost := none, pull := pull }).postAll .dry).log
              (.defrost .frost)) ∧
          (t.drc.state = .defrost ∨ t.drc.state = .lockout) ∧ t.drc.cause = some .frost ∧ t.drc.pull = pull ∧
          t.drc.off = .counting 0 ∧ t.drc.run = none ∧ t.drc.minRun = false ∧ t.drc.frost = none ∧ t.comp = false ∧
          t.flagOnAll .dry ∧ (t.drc.state = .defrost → t.drc.defrost = some 0 ∧ t.drc.defrostEnd = none))) ∧
  ((∀ (rh : Option Int) (call : Bool), nextCall none rh call = false ∧ nextCall (some .continuous) rh call = true) ∧
    (∀ (n : Nat) (call : Bool), nextCall (some (.percent n)) none call = call ∧
      ∀ h : Int, nextCall (some (.percent n)) (some h) call =
        if 10 * n + 30 ≤ h then true else if h ≤ 10 * n - 20 then false else call) ∧
    (∀ cold : Bool, nextCold none cold = cold ∧
      ∀ h : Int, nextCold (some h) cold = if h < 50 then true else if 60 ≤ h then false else cold) ∧
    (∀ s : State,
      let x := s.holds
      let p := s.dar.plan
      (x.tank = true ↔ s.cdc.presence ≠ .present ∨ s.cdc.full = true ∨ s.level = .unknown) ∧
      (x.quiet = true ↔ p.allowed = false ∨ ∃ c f, p.ceiling = some c ∧ s.afc.floor = some f ∧ c < f) ∧
      (x.airflow = true ↔ s.afc.floor = none) ∧
      (x.sensor = true ↔ s.rh = none ∨ s.sfe.coil.temp = none) ∧
      (x.cold = true ↔ s.drc.cold = true) ∧ x.filter = s.requiredAbsent ∧
      (s.requiredAbsent = true ↔ ∃ st, s.sst.settings.drying.required.get st = true ∧
        (s.slot st).state ≠ .tagged ∧ (s.slot st).state ≠ .untagged) ∧
      s.choice = (if p.dry = none then .off else if s.drc.call = false then .satisfied
        else if x.tank || x.quiet || x.airflow || x.sensor || x.cold || x.filter then .hold else .startWait) ∧
      (s.canStart = true ↔ s.drc.off = .passed ∧ s.afc.stalled = false ∧ s.afc.fault = false ∧
        ∃ f, s.afc.floor = some f ∧ f ≤ s.afc.actual) ∧
      (s.normalStop = true ↔ s.drc.call = false ∨ x.quiet = true ∨ x.airflow = true ∨ x.cold = true) ∧
      (s.safetyStop = true ↔ x.tank = true ∨ x.filter = true ∨ s.rh = none ∨ s.afc.stalled = true)) ∧
    (∀ x : Drc,
      (x.state = .pulldown ∨ x.state = .running ∨ x.state = .postRun → x.needOf = .floor) ∧
      (x.state = .startWait → x.needOf = if x.off = .passed then .floor else .none) ∧
      (x.state = .defrost → x.needOf = .defrost) ∧
      (x.state = .off ∨ x.state = .satisfied ∨ x.state = .hold ∨ x.state = .lockout → x.needOf = .none)))

/-- A failed pull-down check, and the two ends of a defrost.
PULLDOWN_CHECK_EXPIRY in a checking PULLDOWN completes with outcome FAILED and the compressor off: under
policy RETRY with no failure counted one is counted and the DRC goes to POST-RUN with its timer at 0;
otherwise the count stays and the DRC is in LOCKOUT NO-PULLDOWN, posted, and a LOCKOUT checkpoint is asked
for. DEFROST_SUCCESS completes with the failed defrosts 0, the record written, the defrost timers stopped
and the re-entry choice made. DEFROST_TIMEOUT counts a failed defrost: below 3 the record is written and the
re-entry choice made; at 3 the DRC is in LOCKOUT DEFROST, posted and asked for. The change is handed on.
(That the time missing from a timer passes when its expiry is taken is log 2, the hand-overs at the end of
the step are log 4, that the cause stays after DEFROST log 39, and that policy LOCKOUT leaves the count of
failed checks as it was log 61: the model's choices.) -/
def Obligations.PulldownAndDefrostEnd : Prop :=
  ∀ (s : State) (e : Nat), s.up = true →
    let locked := fun (v : State) (d : Drc) (r : LockReason) =>
      ((((v.setDrc { d with state := .lockout, reason := some r, run := none, minRun := false, frost := none
                            defrost := none, defrostEnd := none, postRun := none }).postAll .dry).postAll
        .lockout).log (.lockout r)).request (.single .lockout)
    let isLocked := fun (t : State) (r : LockReason) => t.drc.state = .lockout ∧ t.drc.reason = some r ∧
      t.comp = false ∧ t.flagOnAll .dry ∧ t.flagOnAll .lockout ∧ t.lastEvent (.lockout r) ∧
      t.asked (.single .lockout) ∧ t.drc.defrost = none ∧ t.drc.defrostEnd = none ∧ t.drc.run = none
    let rested := fun (v : State) (n : Nat) (d : DefrostValue) =>
      let x := (v.setDrc { v.drc with defrostFails := n }).log (.defrost d)
      (x.setDrc { x.drc with state := .off, defrost := none, defrostEnd := none, postRun := none }).postAll .dry
    let isRested := fun (t : State) (n : Nat) => t.drc.defrostFails = n ∧ t.drc.defrost = none ∧
      t.drc.defrostEnd = none ∧ t.flagOnAll .dry ∧ t.drc.state = t.dryingFrom s.drc.minRun .off
    (s.drc.state = .pulldown → s.drc.pull.outcome = some .checking → s.drc.pull.elapsed = some e →
      let u := s.advance (240000 - e)
      let d := { u.drc with
        off := .counting 0, run := none, minRun := false, frost := none
        pull := { u.drc.pull with outcome := some .failed } }
      ∃ t, exec .pulldownCheckExpiry s = .next t ∧ t.drc.pull = d.pull ∧ t.drc.off = .counting 0 ∧
        (s.sst.settings.drying.policy = .retry → s.drc.pullFails = 0 →
          t.handsOn ((u.setDrc { d with state := .postRun, postRun := some 0, pullFails := 1 }).postAll .dry) ∧
          t.drc.pullFails = 1 ∧ t.comp = false ∧ t.flagOnAll .dry ∧
          (t.drc.state = .postRun ∨ t.drc.state = .lockout) ∧
          (t.drc.state = .postRun → t.drc.postRun = some 0)) ∧
        (s.sst.settings.drying.policy = .lockout ∨ s.drc.pullFails ≠ 0 →
          t.handsOn (locked u d .noPulldown) ∧ isLocked t .noPulldown)) ∧
    (s.drc.state = .defrost → s.drc.defrostEnd = some e →
      ∃ t, exec .defrostSuccess s = .next t ∧ t.handsOn (rested (s.advance (30000 - e)) 0 .success) ∧
        isRested t 0) ∧
    (s.drc.state = .defrost → s.drc.defrost = some e →
      let u := s.advance (900000 - e)
      let n := s.drc.defrostFails + 1
      (n < 3 → ∃ t, exec .defrostTimeout s = .next t ∧ t.handsOn (rested u n .timeout) ∧ isRested t n) ∧
      (3 ≤ n → ∃ t, exec .defrostTimeout s = .next t ∧ isLocked t .defrost ∧ t.drc.defrostFails = n ∧
        t.handsOn (locked u { u.drc with
          defrostFails := n
          pull := if s.drc.pull.outcome = some .checking then { u.drc.pull with outcome := some .noVerdict }
            else u.drc.pull } .defrost)))

/-- FORCE-DEFROST and CLEAR-LOCKOUT.
FORCE-DEFROST from SERVICE in RUNNING with the minimum run over (MINIMUM_RUN_END taken, run time 120 s or
more) is answered OK with the DRC in DEFROST, or in LOCKOUT where the fault or the coil reading calls for
it, for cause FORCED, with the defrost timer of DEFROST at 0, the off-timer at 0, the compressor off and a
check in progress ended, handed on; otherwise WRONG-STATE with nothing changed. CLEAR-LOCKOUT from PANEL or
SERVICE at a placing rank in LOCKOUT, unless the reason is COIL-SENSOR and the coil reading INVALID,
completes: the failure counts are 0, the reason is gone, the fan's stall history, count and fault are
cleared (CLEARED posted for a fault), the DRC has left LOCKOUT, DRY and LOCKOUT are set with a LOCKOUT-
CLEARED record, a stored lockout asks for a checkpoint, and the change is handed on; the answer is OK with
the state entered. Otherwise it is WRONG-STATE with nothing changed. (That the run time counts as 120 s when
that expiry has been taken is log 2, the state named in the answer where the compressor starts at once log
38, the cause kept after DEFROST log 39, the fan's record before the lockout's log 49, and the hand-overs at
the end of the step log 4: the model's choices.) -/
def Obligations.ForceDefrostAndClearLockout : Prop :=
  (∀ (s : State) (tag : Byte), s.takes .service = true →
    let r := s.heard .service
    let pull := if s.drc.pull.outcome = some .checking then { s.drc.pull with outcome := some .noVerdict }
      else s.drc.pull
    (s.drc.state = .running → s.drc.minRun = true → ∃ w t,
      w.handsOn (((r.setDrc { r.drc with
          state := .defrost, cause := some .forced, defrost := some 0, defrostEnd := none
          off := .counting 0, run := none, minRun := false, frost := none, pull := pull }).postAll .dry).log
            (.defrost .forced)) ∧
      (w.drc.state = .defrost ∨ w.drc.state = .lockout) ∧ w.drc.cause = some .forced ∧ w.drc.pull = pull ∧
      w.drc.off = .counting 0 ∧ w.drc.run = none ∧ w.drc.frost = none ∧ w.comp = false ∧ w.flagOnAll .dry ∧
      (w.drc.state = .defrost → w.drc.defrost = some 0 ∧ w.drc.defrostEnd = none ∧
        w.lastEvent (.defrost .forced)) ∧
      exec (.forceDefrost .service tag []) s = .next t ∧ t.answered .service tag .ok [] ∧
      t.onlyAnswers w .service) ∧
    (s.drc.state ≠ .running ∨ s.drc.minRun = false → ∃ t, exec (.forceDefrost .service tag []) s = .next t ∧
      t.answered .service tag .wrongState [] ∧ t.onlyAnswers s .service)) ∧
  (∀ (s : State) (p : Port) (tag : Byte), s.takes p = true → p ≠ .link → s.rank p ≠ .off →
    let r := s.heard p
    (∀ reason, s.drc.state = .lockout → s.drc.reason = some reason →
      (reason = .coilSensor → s.sfe.coil.temp.isSome = true) →
      let stored := reason = .noPulldown ∨ reason = .defrost
      let v := (r.setDrc { r.drc with state := .off, pullFails := 0, defrostFails := 0, reason := none }).setAfc
        { r.afc with history := [], lowCount := 0, fault := false }
      let v := if s.afc.fault then (v.postAll .fan).log (.fan .cleared) else v
      let v := ((v.postAll .dry).postAll .lockout).log (.lockoutCleared reason)
      let v := if stored then v.request (.single .lockout) else v
      ∃ w t, w.handsOn v ∧ exec (.clearLockout p tag []) s = .next t ∧
        w.drc.state ≠ .lockout ∧ w.drc.reason = none ∧ w.drc.pullFails = 0 ∧ w.drc.defrostFails = 0 ∧
        w.afc.fault = false ∧ w.afc.history = [] ∧ w.afc.lowCount = 0 ∧ w.tlg = v.tlg ∧
        w.lastEvent (.lockoutCleared reason) ∧ w.flagOnAll .dry ∧ w.flagOnAll .lockout ∧
        (stored → w.asked (.single .lockout)) ∧ (s.afc.fault = true → w.flagOnAll .fan) ∧
        t.answered p tag .ok (enc1 w.drc.state.code) ∧ t.onlyAnswers w p) ∧
    (s.drc.state ≠ .lockout ∨ (s.drc.reason = some .coilSensor ∧ s.sfe.coil.temp = none) →
      ∃ t, exec (.clearLockout p tag []) s = .next t ∧ t.answered p tag .wrongState [] ∧ t.onlyAnswers s p))

/-- The compressor goes on only after three minutes off.
In every step: where the compressor goes on, its off-timer stands PASSED; where it goes off, the off-timer
stands at 0 or the DRC at its start; the off-timer becomes PASSED only when the time it had counted and the
time the step took make 180 s or more; and a counting off-timer was restarted at 0 or has counted no more
than the time that passed. -/
def Obligations.CompressorRestsThreeMinutes : Prop :=
  ∀ s t : State, step s = .next t →
    (s.drc.state.on = false → t.drc.state.on = true → t.drc.off = .passed) ∧
    (s.drc.state.on = true → t.drc.state.on = false → t.drc.off = .counting 0 ∨ t.drc = .idle) ∧
    (t.drc.off = .passed → s.drc.off = .passed ∨
      ∃ e, s.drc.off = .counting e ∧ 180000 ≤ e + (t.now - s.now)) ∧
    (∀ e', t.drc.off = .counting e' → e' = 0 ∨ ∃ e, s.drc.off = .counting e ∧ e' ≤ e + (t.now - s.now))

/-- The tank comes in, and the release of the FULL flag.
TANK_SETTLE_END on a SETTLING tank completes with the tank PRESENT and the FULL flag derived afresh: under
PROBE set above RESUME, under FLOATS set while FLOAT-FULL is closed or its 5 s release has not passed, and
set while the level is UNKNOWN; TANK is set on all ports. In drain mode PUMP, with the level at the start
mark and no sequence RUNNING or STOPPED, a run of origin AUTO begins in PRIME; otherwise the sequence is as
it was. FULL_RELEASE_TIMER completes with the release passed: on a PRESENT tank under FLOATS whose level is
not FULL or UNKNOWN the flag is clear. Both are handed on. An automatic start wants a level at PUMP-START or
above, HIGH or FULL, and no sequence RUNNING or STOPPED; its volume is what stands above EMPTY. A derivation
of the FULL flag gives clear off PRESENT; under PROBE set at FULL and above and clear at RESUME and below,
and between them kept, or set on entry to PRESENT; under FLOATS set at FULL, else clear once released and
until then kept, or set on entry; and set while UNKNOWN. A change while PRESENT posts TANK. (That the settle
timer is stopped in PRESENT is log 57, that the time missing from a timer passes when its expiry is taken is
log 2, and the hand-overs at the end of the step are log 4: the model's choices.) -/
def Obligations.TankSettlesAndTheFullFlagFollows : Prop :=
  ((∀ (s : State) (e : Nat), s.up = true → s.cdc.presence = .settling → s.cdc.settle = some e →
      let u := s.advance (2000 - e)
      let v := ((u.setCdc { u.cdc with presence := .present, settle := none }).postAll .tank).log (.tank .present)
      ∃ t, exec .tankSettleEnd s = .next t ∧ t.handsOn ((v.deriveFull true).autoStart) ∧
        t.cdc.presence = .present ∧ t.cdc.settle = none ∧ t.flagOnAll .tank ∧
        t.cdc.full = (match s.method, s.level with
          | .probe, .ml n => decide (s.tankCfg.full ≤ n) || decide (s.tankCfg.resume < n)
          | .probe, _ => true
          | .floats, .full => true
          | .floats, .unknown => true
          | .floats, _ => !s.cdc.released) ∧
        (let starts := s.tankCfg.drain = .pump ∧ s.levelStarts = true ∧ s.startFree = true
         (starts → t.cdc.pump = true ∧ ∃ q, t.cdc.seq = some q ∧ q.status = .running ∧ q.phase = some .prime ∧
            q.origin = .auto ∧ q.elapsed = some 0 ∧ q.startLevel = s.level ∧
            (s.method = .probe → q.target = some s.volumeAboveEmpty)) ∧
         (¬starts → t.cdc.seq = u.cdc.seq ∧ t.cdc.pump = s.cdc.pump))) ∧
    (∀ (s : State) (e : Nat), s.up = true → s.cdc.released = false → s.cdc.release = some e →
      let u := s.advance (5000 - e)
      let v := u.setCdc { u.cdc with released := true }
      ∃ t, exec .fullReleaseTimer s = .next t ∧ t.handsOn ((v.deriveFull false).autoStart) ∧
        t.cdc.released = true ∧
        (s.method = .floats → s.cdc.presence = .present → s.level = .belowHigh ∨ s.level = .high →
          t.cdc.full = false ∧ (s.cdc.full = true → t.flagOnAll .tank)))) ∧
  (∀ s : State,
      (s.levelStarts = true ↔ (∃ n, s.level = .ml n ∧ s.tankCfg.pumpStart ≤ n) ∨ s.level = .high ∨ s.level = .full) ∧
      (s.startFree = true ↔ ∀ q, s.cdc.seq = some q → q.status = .complete) ∧
      (∀ n, s.level = .ml n → s.volumeAboveEmpty = n - s.tankCfg.empty) ∧
      ∀ entry : Bool,
        let full := if s.cdc.presence ≠ .present then false
          else match s.method, s.level with
            | .probe, .ml n =>
              if s.tankCfg.full ≤ n then true else if n ≤ s.tankCfg.resume then false else entry || s.cdc.full
            | .probe, _ => true
            | .floats, .full => true
            | .floats, .unknown => true
            | .floats, _ => if s.cdc.released then false else entry || s.cdc.full
        let t := s.setCdc { s.cdc with full := full }
        s.deriveFull entry = if s.cdc.presence = .present ∧ full ≠ s.cdc.full then
          (t.postAll .tank).log (.tank (if full then .full else .notFull)) else t)

/-- The one-second sample of a pump-out.
PUMP_SAMPLE completes with the next second started. Under FLOATS, in VERIFY, and in PRIME with the level
UNKNOWN nothing else changes. A known level below the lowest one counts its fall as moved and takes it off
the remaining. In PRIME a level 60 mL or more below the phase's start passes to TRANSFER. In TRANSFER
nothing remaining, or a level at or below EMPTY, passes to VERIFY; else 100 mL or more above the lowest is
BACKFLOW; else 20 mL or more below the block mark is progress; then 15 s without progress is BLOCKED. With
the level UNKNOWN only BLOCKED is judged. A run that entered TRANSFER with the level UNKNOWN has no lowest
level and no block mark; at its first known sample a free value stands for both, and the sample is judged by
it like any other: the statement holds for whatever value that is. (The free value is log 11, that an ended
run's block elapsed is absent log 56, and that the time missing from a timer passes when its expiry is taken
log 2: the model's choices.) -/
def Obligations.PumpSamplesAreJudgedByTheirPhase : Prop :=
  ∀ (s : State) (q : Sequence) (e : Nat), s.up = true → s.cdc.seq = some q → q.status = .running →
    q.sample = some e →
    let u := s.advance (1000 - e)
    let q1 := { q.advance (1000 - e) with sample := some 0 }
    let v := u.setCdc { u.cdc with seq := some q1 }
    let counted := fun (x : Sequence) (n : Nat) => match x.lowest with
      | some low => if n < low then
          { x with lowest := some n, moved := x.moved.map (· + (low - n))
                   remaining := x.remaining.map (· - (low - n)) } else x
      | none => x
    let f := Config.unknownLevel s.free % 4001
    let q2 := if q.lowest = none then { q1 with lowest := some f, blockMark := some f } else q1
    let w := if q.lowest = none then { v with free := s.free + 1 } else v
    let stuck := fun x : Sequence => x.blockElapsed = some 15000
    (s.method = .floats ∨ q.phase = some .verify ∨ (q.phase = some .prime ∧ s.level = .unknown) →
      exec .pumpSample s = .next v) ∧
    (∀ n, s.method = .probe → s.level = .ml n → q.phase = some .prime →
      (∀ start, q.phaseStart = some start → n + 60 ≤ start →
        ∃ t, exec .pumpSample s = .next t ∧ t.entersPhase v (counted q1 n) .transfer) ∧
      ((∀ start, q.phaseStart = some start → start < n + 60) →
        exec .pumpSample s = .next (v.setCdc { v.cdc with seq := some (counted q1 n) }))) ∧
    (∀ n, s.method = .probe → s.level = .ml n → q.phase = some .transfer →
      let c := counted q2 n
      let done := c.remaining = some 0 ∨ n ≤ s.tankCfg.empty
      let back := ∃ low, c.lowest = some low ∧ low + 100 ≤ n
      let moving := ∃ low mark, c.lowest = some low ∧ c.blockMark = some mark ∧ low + 20 ≤ mark
      (done → ∃ t, exec .pumpSample s = .next t ∧ t.entersPhase w c .verify) ∧
      (¬done → back → ∃ t, exec .pumpSample s = .next t ∧ t.endsRun w c .stopped .backflow) ∧
      (¬done → ¬back → moving → exec .pumpSample s =
        .next (w.setCdc { w.cdc with seq := some { c with blockMark := c.lowest, blockElapsed := some 0 } })) ∧
      (¬done → ¬back → ¬moving → stuck c → ∃ t, exec .pumpSample s = .next t ∧ t.endsRun w c .stopped .blocked) ∧
      (¬done → ¬back → ¬moving → (∀ b, c.blockElapsed = some b → b < 15000) →
        exec .pumpSample s = .next (w.setCdc { w.cdc with seq := some c }))) ∧
    (s.method = .probe → s.level = .unknown → q.phase = some .transfer →
      (stuck q1 → ∃ t, exec .pumpSample s = .next t ∧ t.endsRun v q1 .stopped .blocked) ∧
      ((∀ b, q1.blockElapsed = some b → b < 15000) → exec .pumpSample s = .next v))

/-- The timers of the pump-out phases.
For a RUNNING sequence: 2 s of flow, or 10 s of PRIME under FLOATS without PUMP-FLOW, pass PRIME to
TRANSFER; otherwise 20 s of PRIME end the run NO-PRIME, with PRIME by time never failing; 300 s of TRANSFER
end it TIMEOUT; 40 s of open FLOAT-HIGH pass TRANSFER to VERIFY. After 10 s of VERIFY the run ends COMPLETE
when its check passes and CHECK-FAILED otherwise: under PROBE the level is known, at most EMPTY + 100 and at
most 50 above VERIFY's start, under FLOATS FLOAT-HIGH was not closed. Every end posts PUMP and PUMP-RESULT
with the pump off. A run that ends COMPLETE may be followed by an automatic start. A phase entered with the
level UNKNOWN has its levels UNKNOWN. (That an ended run's block elapsed is absent is log 56, that the time
missing from a timer passes when its expiry is taken is log 2, the free value that a run in TRANSFER without
a lowest level takes at its first known sample log 11, that verify start level and float closed are absent
outside their method log 42, and the automatic start after a COMPLETE run under FLOATS with the level FULL
log 50: the model's choices.) -/
def Obligations.PumpTimersMoveThePhases : Prop :=
  ∀ (s : State) (q : Sequence) (e : Nat), s.up = true → s.cdc.seq = some q → q.status = .running →
    (q.phase = some .prime → q.flow = some e →
      ∃ t, exec .flowTimerPass s = .next t ∧
        t.entersPhase (s.advance (2000 - e)) (q.advance (2000 - e)) .transfer) ∧
    (q.phase = some .prime → q.elapsed = some e →
      let byTime := s.method = .floats ∧ s.flowInput = none
      (byTime → (∃ t, exec .primeFloatsTimePass s = .next t ∧
          t.entersPhase (s.advance (10000 - e)) (q.advance (10000 - e)) .transfer) ∧
        exec .primeTimeout s = .next s) ∧
      (¬byTime → (∃ t, exec .primeTimeout s = .next t ∧
          t.endsRun (s.advance (20000 - e)) (q.advance (20000 - e)) .stopped .noPrime) ∧
        exec .primeFloatsTimePass s = .next s)) ∧
    (q.phase = some .transfer → q.elapsed = some e →
      ∃ t, exec .transferTimeout s = .next t ∧
        t.endsRun (s.advance (300000 - e)) (q.advance (300000 - e)) .stopped .timeout) ∧
    (q.phase = some .transfer → q.highRelease = some e →
      ∃ t, exec .highReleaseEnd s = .next t ∧
        t.entersPhase (s.advance (40000 - e)) (q.advance (40000 - e)) .verify) ∧
    (q.phase = some .verify → q.elapsed = some e →
      let u := s.advance (10000 - e)
      let r := q.advance (10000 - e)
      let passes := match s.method with
        | .floats => q.floatClosed ≠ some true
        | .probe => ∃ n start, s.level = .ml n ∧ q.verifyStart = some start ∧
            n ≤ s.tankCfg.empty + 100 ∧ n ≤ start + 50
      (passes → ∃ w t : State, w.endsRun u r .complete .none ∧ t = w.autoStart ∧ exec .verifyEnd s = .next t) ∧
      (¬passes → ∃ t, exec .verifyEnd s = .next t ∧ t.endsRun u r .stopped .checkFailed))

/-- PUMP-OUT and PUMP-ABORT.
From a port at a placing rank: PUMP-OUT NEW, with or without a maximum volume, is BAD-ARG with a volume of
0, BUSY while a sequence is RUNNING, and WRONG-STATE with the tank not PRESENT, in drain mode BUCKET or with
the level UNKNOWN; otherwise a run of that port begins in PRIME with the volume above EMPTY, at most the
maximum, as its target (absent under FLOATS), answered OK, or ADJUSTED with a maximum above 4000; under
PROBE with nothing above EMPTY the sequence is COMPLETE at once. RESUME takes a STOPPED sequence up in its
phase, and is BUSY, NOT-FOUND or WRONG-STATE otherwise. PUMP-ABORT ends a run in PRIME or TRANSFER ABORTED,
only marks one in VERIFY, and is NOT-FOUND without a run. An unknown variant, and RESUME with a maximum
volume, is BAD-ARG. A refusal changes nothing. (The codes of the status in the answers are log 12, the
target sent as 0xFFFF under FLOATS log 41, a NOT-FOUND without status and phase log 55, the fields of a
phase in a run that ended or never began log 56, and the row of an unknown variant log 23: the model's
choices.) -/
def Obligations.PumpOutCommandsStartAndStopRuns : Prop :=
  ∀ (s : State) (p : Port) (tag : Byte), s.takes p = true → s.rank p ≠ .off →
    let r := s.heard p
    let ready := s.cdc.presence = .present ∧ s.tankCfg.drain = .pump ∧ s.level ≠ .unknown
    let running := ∃ q, s.cdc.seq = some q ∧ q.status = .running
    let refused := fun (i : Instr) (st : Status) =>
      ∃ t, exec i s = .next t ∧ t.answered p tag st [] ∧ t.onlyAnswers s p
    (∀ (pl : List Byte) (limit : Option Nat), (pl = [0] ∧ limit = none) ∨
        (∃ lo hi : Byte, pl = [0, lo, hi] ∧ limit = some (lo.toNat + 256 * hi.toNat)) →
      let i : Instr := .pumpOutNew p tag pl
      let above := s.volumeAboveEmpty
      let target := match limit with
        | some m => min (min 4000 m) above
        | none => above
      let vol := fun n : Nat => match s.method with
        | .probe => some n
        | .floats => none
      let st : Status := if ∃ m, limit = some m ∧ 4000 < m then .adjusted else .ok
      let q : Sequence := { r.newSequence (.port p) target with sample := some 0 }
      (limit = some 0 → refused i .badArg) ∧
      (limit ≠ some 0 → running → refused i .busy) ∧
      (limit ≠ some 0 → ¬running → ¬ready → refused i .wrongState) ∧
      q.target = vol target ∧ q.remaining = vol target ∧ q.moved = vol 0 ∧ q.startLevel = s.level ∧
      q.origin = .port p ∧ q.status = .running ∧ q.condition = .none ∧
      (limit ≠ some 0 → ¬running → ready → s.method = .floats ∨ target ≠ 0 →
        ∃ w t, w.entersPhase r q .prime ∧ exec i s = .next t ∧
          t.answered p tag st (enc1 1 ++ encOpt2 (vol target)) ∧ t.onlyAnswers w p) ∧
      (limit ≠ some 0 → ¬running → ready → s.method = .probe → target = 0 → s.configLaw →
        ∃ w t, w.endsRun r { q with sample := none } .complete .none ∧ exec i s = .next t ∧
          t.answered p tag st (enc1 3 ++ enc2 0) ∧ t.onlyAnswers w p)) ∧
    (∀ b lo hi : Byte, 2 ≤ b.toNat → refused (.pumpOutNew p tag [b]) .badArg ∧
      refused (.pumpOutNew p tag [b, lo, hi]) .badArg) ∧
    (∀ lo hi : Byte, refused (.pumpOutResume p tag [1, lo, hi]) .badArg) ∧
    ((running → refused (.pumpOutResume p tag [1]) .busy) ∧
      (s.cdc.seq = none ∨ (∃ q, s.cdc.seq = some q ∧ q.status = .complete) →
        refused (.pumpOutResume p tag [1]) .notFound) ∧
      ∀ q, s.cdc.seq = some q → q.status = .stopped →
        (¬ready → refused (.pumpOutResume p tag [1]) .wrongState) ∧
        (ready → ∃ w t, w.entersPhase r
            { q with status := .running, condition := .none, abort := false, sample := some 0 }
            (q.phase.getD .prime) ∧
          exec (.pumpOutResume p tag [1]) s = .next t ∧ t.answered p tag .ok [] ∧ t.onlyAnswers w p)) ∧
    ((¬running → refused (.pumpAbort p tag []) .notFound) ∧
      ∀ q, s.cdc.seq = some q → q.status = .running →
        (q.phase = some .verify → ∃ t, exec (.pumpAbort p tag []) s = .next t ∧
          t.answered p tag .ok (enc1 1 ++ enc1 2) ∧
          t.onlyAnswers (s.setCdc { s.cdc with seq := some { q with abort := true } }) p) ∧
        (q.phase ≠ some .verify → ∃ w t, w.endsRun r q .stopped .aborted ∧
          exec (.pumpAbort p tag []) s = .next t ∧
          t.answered p tag .ok (enc1 2 ++ encOpt1 (q.phase.map (·.code))) ∧ t.onlyAnswers w p))

/-- The minute timer, and what a write does to the readers.
MINUTE_TIMER completes with the uptime up by 1 and a SAMPLE of the values held written with the next
sequence number; a full ring loses its oldest record first. A port whose cursor stood on the record lost
moves to the next one with LOGLATE set; each mark follows the new backlog, and one that was ARMED and is
reached sets its flag. Nothing else changes. An event posted to all ports sets its flag there alone; a
record of an event is written in the same way as a SAMPLE. (That the time missing from a timer passes when
its expiry is taken is log 2, the model's choice.) -/
def Obligations.MinuteTimerWritesASample : Prop :=
  (∀ (s : State) (e : Nat), s.up = true → s.tlg.minute = some e →
      let u := s.advance (60000 - e)
      ∃ t x, exec .minuteTimer s = .next t ∧
        t.tlg.wrote { s.tlg with uptime := s.tlg.uptime + 1, minute := some 0 } (.sample x) ∧
        x.pm = s.pmA ∧ x.v = s.va ∧ x.rh = s.rh ∧ x.room = s.roomTemp ∧ x.coil = s.sfe.coil.temp ∧
        x.step = s.afc.actual ∧ x.q = s.afc.q ∧ x.drying = s.drc.state ∧
        (∀ n, x.level = some n ↔ s.level = .ml n) ∧
        (∀ st, x.wear.get st =
          if s.stagePresent st then some (min 2000 ((s.fau.accounts.get st).load / (s.fau.accounts.get st).c))
          else none) ∧
        t.flagsRaised u s.tlg.writeBits ∧ t.sameBut u [.tlg, .prt]) ∧
  ((∀ (s : State) (f : Flag), (s.postAll f).flagsRaised s (fun _ => f.bit) ∧ (s.postAll f).sameBut s [.prt]) ∧
    (∀ (s : State) (p : Port) (f : Flag),
      (s.post p f).flagsRaised s (fun q => if q = p then f.bit else 0) ∧ (s.post p f).sameBut s [.prt]) ∧
    ∀ (s : State) (e : Event), (s.log e).tlg.wrote s.tlg (.event e) ∧ (s.log e).flagsRaised s s.tlg.writeBits ∧
      (s.log e).sameBut s [.tlg, .prt])

/-- READ-LOG and SET-CURSOR.
READ-LOG completes with OK from every port at every rank: it examines the port's records in order from its
cursor, returns the joined ones that fit whole in 42 bytes, stops before a joined one that no longer fits,
and sets the cursor after the last one examined. SET-CURSOR OLDEST and AFTER-NEWEST place the cursor;
another value is BAD-ARG with nothing changed. The answer ends with the cursor and backlog after it; the
marks follow the new backlog, and one that was ARMED and is reached sets its flag on that port. The records'
bytes are those of their layouts. (That records not joined which stand before a joined one that no longer
fits are examined and skipped is log 60, the codes of a record's values that Table 9-9 leaves open are log
12, and the 2 bytes of the backlog that SET-CURSOR answers log 51: the model's choices.) -/
def Obligations.LogReadersMoveTheirCursors : Prop :=
  ∀ (s : State) (p : Port) (tag : Byte), s.takes p = true →
    let r := s.tlg.readers.get p
    let placed := fun c : BitVec 32 =>
      let b := (s.tlg.nextSeq - c).toNat
      (s.setTlg { s.tlg with readers := s.tlg.readers.set p { r with
        cursor := c, m64 := decide (64 ≤ b), m128 := decide (128 ≤ b), m192 := decide (192 ≤ b) } }).raise
        (fun x => if x = p then
          (if r.m64 = false ∧ 64 ≤ b then 0x0400#16 else 0) |||
          (if r.m128 = false ∧ 128 ≤ b then 0x0800#16 else 0) |||
          (if r.m192 = false ∧ 192 ≤ b then 0x1000#16 else 0) else 0)
    let place := fun c : BitVec 32 => enc4 c.toNat ++ enc2 (s.tlg.nextSeq - c).toNat
    let unread := s.tlg.ring.drop (s.tlg.ring.length - s.tlg.backlog r)
    (∃ t k, exec (.readLog p tag []) s = .next t ∧ k ≤ unread.length ∧
      (let bytes := fun x : TrendRecord => spell x.layout
       let got := (unread.take k).filter r.joins
       let c := s.tlg.nextSeq - BitVec.ofNat 32 (unread.length - k)
       (got.flatMap bytes).length ≤ 42 ∧
       (k = unread.length ∨ ∃ x, unread[k]? = some x ∧ r.joins x = true ∧
         42 < (got.flatMap bytes).length + (bytes x).length) ∧
       t.answered p tag .ok (got.flatMap bytes ++ place c) ∧ t.onlyAnswers (placed c) p)) ∧
    (let oldest := (s.tlg.ring.head?.map (·.seq)).getD s.tlg.nextSeq
     ∃ t, exec (.setCursor p tag [0]) s = .next t ∧ t.answered p tag .ok (place oldest) ∧
       t.onlyAnswers (placed oldest) p) ∧
    (∃ t, exec (.setCursor p tag [1]) s = .next t ∧ t.answered p tag .ok (place s.tlg.nextSeq) ∧
      t.onlyAnswers (placed s.tlg.nextSeq) p) ∧
    (∀ b : Byte, 2 ≤ b.toNat → ∃ t, exec (.setCursor p tag [b]) s = .next t ∧
      t.answered p tag .badArg [] ∧ t.onlyAnswers s p)

/-- SET-LOG-JOIN.
SET-LOG-JOIN naming SAMPLE, EVENT or both, from any port at any rank, completes: the port's join set takes
the value and the answer is OK with it; the cursor, the backlog and the marks stay. An empty set, or one
naming another kind, is BAD-ARG with nothing changed. The next READ-LOG of the port takes the records of the
new join set, from the cursor as it was. -/
def Obligations.SetLogJoinSetsTheJoinSet : Prop :=
  ∀ (s : State) (p : Port) (tag b : Byte), s.takes p = true →
    let r := s.tlg.readers.get p
    (1 ≤ b.toNat → b.toNat ≤ 3 →
      let new := { r with joinSample := b.toNat.testBit 0, joinEvent := b.toNat.testBit 1 }
      ∃ t, exec (.setLogJoin p tag [b]) s = .next t ∧ t.answered p tag .ok [b] ∧
        t.onlyAnswers (s.setTlg { s.tlg with readers := s.tlg.readers.set p new }) p ∧
        t.tlg.backlog (t.tlg.readers.get p) = s.tlg.backlog r ∧
        ∀ x, (t.tlg.readers.get p).joins x = (match x.body with
          | .sample _ => b.toNat.testBit 0
          | .event _ => b.toNat.testBit 1)) ∧
    (b.toNat = 0 ∨ 3 < b.toNat → ∃ t, exec (.setLogJoin p tag [b]) s = .next t ∧
      t.answered p tag .badArg [] ∧ t.onlyAnswers s p)

/-- The READ commands.
Each READ command is taken from every port at every rank and completes with the record it names, and no
block, flag, mask or other port changes. The records are spelled field by field, least significant byte
first: each layout lists its fields in the order of its table, with the width of its kind, codes by the
position in the owning table's list and absent values as all ones. READ-AIRFLOW, READ-FILTERS, READ-
CARTRIDGES, READ-TANK and READ-CONFIG with a part code they do not know answer BAD-ARG. (The widths and
codes that the tables leave open are logs 12, 25, 33, 37, 43, 44, 46, 53, 54 and 62: the model's choices.) -/
def Obligations.ReadsAnswerAndChangeNothing : Prop :=
  ∀ (s : State) (p : Port) (tag b : Byte), s.takes p = true →
    let answers := fun (i : Instr) (st : Status) (pl : List Byte) =>
      ∃ t, exec i s = .next t ∧ t.answered p tag st pl ∧ t.onlyAnswers s p
    answers (.readSensors p tag []) .ok (spell s.sensorsLayout) ∧
    answers (.readPlan p tag []) .ok (spell s.planLayout) ∧
    answers (.readDemands p tag []) .ok (spell s.demandsLayout) ∧
    answers (.readDrying p tag []) .ok (spell s.dryingLayout) ∧
    answers (.readAirflow p tag [0]) .ok (spell s.airflowLayout) ∧
    answers (.readAirflow p tag [1]) .ok (spell (s.bankLayout .a)) ∧
    answers (.readAirflow p tag [2]) .ok (spell (s.bankLayout .b)) ∧
    (3 ≤ b.toNat → answers (.readAirflow p tag [b]) .badArg []) ∧
    answers (.readFilters p tag [0]) .ok (spell (s.stageLayout .pre)) ∧
    answers (.readFilters p tag [1]) .ok (spell (s.stageLayout .carb)) ∧
    answers (.readFilters p tag [2]) .ok (spell (s.stageLayout .fine)) ∧
    answers (.readFilters p tag [3]) .ok (spell s.unitLayout) ∧
    answers (.readFilters p tag [4]) .ok (spell (lastTickLayout s.fau.lastTick)) ∧
    (5 ≤ b.toNat → answers (.readFilters p tag [b]) .badArg []) ∧
    answers (.readCartridges p tag [0]) .ok (spell (s.slotLayout .pre)) ∧
    answers (.readCartridges p tag [1]) .ok (spell (s.slotLayout .carb)) ∧
    answers (.readCartridges p tag [2]) .ok (spell (s.slotLayout .fine)) ∧
    answers (.readCartridges p tag [3]) .ok (spell s.listLayout) ∧
    (4 ≤ b.toNat → answers (.readCartridges p tag [b]) .badArg []) ∧
    answers (.readTank p tag [0]) .ok (spell s.tankLayout) ∧
    answers (.readTank p tag [1]) .ok (spell (sequenceLayout s.cdc.seq)) ∧
    (2 ≤ b.toNat → answers (.readTank p tag [b]) .badArg []) ∧
    (b.toNat ≤ 7 → answers (.readConfig p tag [b]) .ok (encGroup s.sst.settings b.toNat)) ∧
    answers (.readConfig p tag [8]) .ok (spell s.storeLayout) ∧
    (9 ≤ b.toNat → answers (.readConfig p tag [b]) .badArg [])

/-- READ-EVENTS.
READ-EVENTS from any port at any rank completes with OK, the port's flags as they stand and its mask. The
flags returned are cleared on that port, masked and unmasked alike; the mask and the other ports are as they
were, and no block changes. A flag posted before it is returned and cleared; one posted after it stays set. -/
def Obligations.ReadEventsReturnsAndClears : Prop :=
  ∀ (s : State) (p : Port) (tag : Byte), s.takes p = true →
    ∃ t, exec (.readEvents p tag []) s = .next t ∧
      t.answered p tag .ok (enc2 (s.port p).flags.toNat ++ enc2 (s.port p).mask.toNat) ∧
      (t.port p).flags = 0 ∧ (t.port p).mask = (s.port p).mask ∧ (∀ q, q ≠ p → t.port q = s.port q) ∧
      t.sameBut s [.prt] ∧
      (∀ f q, (t.post q f).flagOn q f) ∧
      (∀ f, ∃ u, exec (.readEvents p tag []) (s.post p f) = .next u ∧ (u.port p).flags = 0 ∧
        u.answered p tag .ok (enc2 ((s.port p).flags ||| f.bit).toNat ++ enc2 (s.port p).mask.toNat))

/-- SET-EVENT-MASK, the attention lines and the reception of a frame.
SET-EVENT-MASK from any port at any rank completes: the port's mask takes the value, the answer is OK with
it, the flags stay. The attention line of a live part is active exactly while no frame to the port is being
received or held and a flag is set whose mask entry is on. COMMAND_RECEPTION_START gives a port bytes. On
LINK each byte is taken by the framing state: in HUNT the sync byte 0xA5 begins a frame and any other is
ignored; a Length above 48 ends it; the Check's byte ends it with the command that the bytes spell; any
other byte is collected; each byte of a frame restarts the gap timer. On PANEL a first byte other than 0x00
begins a frame, and 0x00 begins none; MISO carries 0x5A or 0x00 with the first byte and 0x00 with each later
one. On SERVICE the address begins one. FRAME_DISCARD ends a reception, and so does LINK_GAP_TIMEOUT when
more than 20 ms have passed since LINK's last byte; nothing else changes. The bit of each flag is its place
in Table 9-3, PLAN the lowest. (The held frame is log 13, the bytes held as clocked out log 19, the 21 ms of
the gap log 6, its beginning at the sync byte log 52, and that the missing time passes log 2: the model's
choices.) -/
def Obligations.MasksAndAttention : Prop :=
  ((∀ (s : State) (p : Port) (tag lo hi : Byte), s.takes p = true →
      ∃ w t, w = (s.setPort p { s.port p with mask := hi ++ lo }) ∧
        exec (.setEventMask p tag [lo, hi]) s = .next t ∧ t.answered p tag .ok [lo, hi] ∧ t.onlyAnswers w p) ∧
    (∀ (s : State) (p : Port), s.live = true → (s.attention p = true ↔
      (s.port p).rx = none ∧ (p = .link → s.prt.held = none) ∧
      ∃ f : Flag, (s.port p).flags &&& f.bit = f.bit ∧ (s.port p).mask &&& f.bit = f.bit)) ∧
    (∀ (s : State) (e : Nat), s.live = true →
      let link := s.port .link
      let takes := fun b : Byte => exec (.commandReceptionStart ⟨.link, [b]⟩) s
      let collects := fun bytes : List Byte => Host.Outcome.next (s.setPrt { s.prt with
        gap := some 0, ports := s.prt.ports.set .link { link with rx := some bytes } })
      exec (.commandReceptionStart ⟨.link, []⟩) s = .next s ∧
      (∀ b more t, takes b = .next t →
        exec (.commandReceptionStart ⟨.link, b :: more⟩) s = exec (.commandReceptionStart ⟨.link, more⟩) t) ∧
      (link.rx = none → takes 0xA5 = collects []) ∧
      (∀ b, link.rx = none → b ≠ 0xA5 → takes b = .next s) ∧
      (∀ bytes b, link.rx = some bytes →
        let n := bytes.length
        let len := (bytes.getD 2 0).toNat
        (n < 2 ∨ (n = 2 ∧ b.toNat ≤ 48) ∨ (3 ≤ n ∧ n < 3 + len) → takes b = collects (bytes ++ [b])) ∧
        (n = 2 → 48 < b.toNat → takes b = exec (.frameDiscard .link) s) ∧
        (n = 3 + len → len ≤ 48 → takes b = exec (decodeFrame .link (bytes ++ [b])) s)) ∧
      (s.prt.gap = some e → exec .linkGapTimeout s = exec (.frameDiscard .link) (s.advance (21 - e))) ∧
      (s.prt.gap = none → exec .linkGapTimeout s = .next s)) ∧
    (∀ (s : State) (bytes : List Byte), s.live = true →
      let panel := s.port .panel
      let takes := exec (.commandReceptionStart ⟨.panel, bytes⟩) s
      (∀ got, panel.rx = some got → takes = .next (s.setPort .panel { panel with
        rx := some (got ++ bytes), out := panel.out ++ List.replicate bytes.length 0x00 })) ∧
      (panel.rx = none → bytes.head? = none ∨ bytes.head? = some 0 → takes = .next s) ∧
      (∀ b, panel.rx = none → bytes.head? = some b → b ≠ 0 → takes = .next (s.setPort .panel { panel with
        rx := some bytes
        out := (if panel.response.isSome then 0x5A else 0x00) :: List.replicate (bytes.length - 1) 0x00 })) ∧
      exec (.commandReceptionStart ⟨.service, bytes⟩) s = .next (s.setPort .service { s.port .service with
        rx := some ((s.port .service).rx.getD [] ++ bytes) })) ∧
    (∀ (s : State) (p : Port), s.live = true → exec (.frameDiscard p) s = .next (s.setPrt { s.prt with
      gap := if p = .link then none else s.prt.gap
      ports := s.prt.ports.set p { s.port p with
        rx := none
        out := if p = .panel ∧ (s.port p).rx = none then [if (s.port p).response.isSome then 0x5A else 0x00]
          else (s.port p).out } }))) ∧
  (([.plan, .expired, .filter, .cartridge, .tank, .pump, .dry, .lockout, .fan, .sensor, .logq, .logh, .log3q, .loglate,
      .curve, .store] : List Flag).map (fun f => f.bit.toNat) = (List.range 16).map (fun n => 2 ^ n))

/-- WRITE-CONFIG.
Byte by byte, the configuration a WRITE-CONFIG gives: a code outside its list is bad, SERVICE at OFF is
taken at rank 1, an assignment and marks that break their rules are bad, and every other value is clamped to
its range. From SERVICE a WRITE-CONFIG of the right length whose group and values are acceptable, with the
compressor off, no defrost and no sequence RUNNING, completes: the configuration takes the group, answered
OK, or ADJUSTED with a clamp. What it changes is handed on and a CONFIG checkpoint asked for: the floor is
computed from the new airflow fields and the DRC applies its rule to the new required stages. New ranks drop
the entries of a port at OFF, oldest first, with EXPIRED and a DEMAND-DROPPED record for each, re-rank the
others in order and resolve the table once. New marks or a new drain mode derive FULL and examine the
automatic start. A new worn threshold or wash limit gives each present stage its state, with FILTER for one
that changes and a FILTERS checkpoint for one that enters WORN or EXHAUSTED. A terminal whose function
changed starts afresh, with SENSOR and its record when a level is lost, and the others keep their inputs. A
new level method restarts the release timer and removes the pump-out record with PUMP. FULL and the
automatic start follow an assignment too. The curve banks stay. Where it changes nothing, only the answer is
given. Otherwise it is BAD-ARG or WRONG-STATE and nothing changes. (The washable byte coded 1 for yes is log
12. The hand-overs at the end of the step, and the order of the events, are log 4: the model's choices.) -/
def Obligations.WriteConfigTakesAGroup : Prop :=
  (∀ t : Terminals, t.ok = true ↔
    t.mf0 ∈ [.none, .probe, .floatHigh] ∧ t.mf1 ∈ [.none, .floatFull, .pumpFlow] ∧
    t.mf2 ∈ [.none, .pumpFlow, .powerFailWarn] ∧ ¬(t.mf1 = .pumpFlow ∧ t.mf2 = .pumpFlow) ∧
    (t.method = .probe → t.mf0 = .probe ∧ t.mf1 ≠ .floatFull) ∧
    (t.method = .floats → t.mf0 = .floatHigh ∧ t.mf1 = .floatFull)) ∧
  (∀ cfg : Settings,
    let word := fun lo hi : Byte => lo.toNat + 256 * hi.toNat
    let clamp := fun lo hi n : Nat => max lo (min hi n)
    let rank := fun b : Byte => [Rank.off, .r1, .r2, .r3].getD b.toNat .off
    let function := fun b : Byte => [MfFunction.none, .probe, .floatHigh, .floatFull, .pumpFlow,
      .powerFailWarn].getD b.toNat .none
    let takes := fun (x y : Settings) (c : Bool) (pl : List Byte) => configOf x pl = .taken y c
    (∀ a b c : Byte, configOf cfg [0, a, b, c] =
      if 3 < a.toNat ∨ 3 < b.toNat ∨ 3 < c.toNat then .bad
      else .taken { cfg with ports := ⟨rank a, rank b, if c = 0 then .r1 else rank c⟩ } (decide (c = 0))) ∧
    (∀ a b c m : Byte, configOf cfg [1, a, b, c, m] =
      let t : Terminals := ⟨function a, function b, function c, if m = 0 then .probe else .floats⟩
      if 5 < a.toNat ∨ 5 < b.toNat ∨ 5 < c.toNat ∨ 1 < m.toNat ∨ t.ok = false then .bad
      else .taken { cfg with terminals := t } false) ∧
    (∀ d e e' p p' r r' f f' : Byte, configOf cfg [2, d, e, e', p, p', r, r', f, f'] =
      let t : TankConfig := ⟨if d = 0 then .bucket else .pump, clamp 50 500 (word e e'),
        clamp 500 2800 (word p p'), clamp 600 3400 (word r r'), clamp 1000 3600 (word f f')⟩
      if 1 < d.toNat ∨ ¬(t.empty < t.pumpStart ∧ t.pumpStart < t.resume ∧ t.resume + 200 ≤ t.full) then .bad
      else .taken { cfg with tank := t } (decide (t.empty ≠ word e e' ∨ t.pumpStart ≠ word p p' ∨
        t.resume ≠ word r r' ∨ t.full ≠ word f f'))) ∧
    (∀ a b c c' : Byte,
      let x : AirflowConfig := ⟨clamp 1 6 a.toNat, clamp 1 6 b.toNat, clamp 60 300 (word c c')⟩
      takes cfg { cfg with airflow := x }
        (decide (x ≠ ⟨a.toNat, b.toNat, word c c'⟩)) [3, a, b, c, c']) ∧
    (∀ p r : Byte, configOf cfg [4, p, r] =
      if 1 < p.toNat ∨ 7 < r.toNat then .bad
      else .taken { cfg with drying := ⟨if p = 0 then .retry else .lockout,
        ⟨r.toNat.testBit 0, r.toNat.testBit 1, r.toNat.testBit 2⟩⟩ } false) ∧
    (∀ w w' l f f' : Byte,
      let x : FiltersConfig := ⟨clamp 500 990 (word w w'), clamp 1 20 l.toNat, clamp 0 500 (word f f')⟩
      takes cfg { cfg with filters := x }
        (decide (x ≠ ⟨word w w', l.toNat, word f f'⟩)) [5, w, w', l, f, f']) ∧
    (∀ pl : List Byte, pl.length = 22 → pl.head? = some 6 →
      let at' := fun i : Nat => pl.getD i 0
      let given := fun i : Nat => (⟨word (at' i) (at' (i + 1)), word (at' (i + 2)) (at' (i + 3)),
        word (at' (i + 4)) (at' (i + 5)), decide (at' (i + 6) = 1)⟩ : UntaggedDefault)
      let one := fun i : Nat => { given i with
        c := clamp 1 65535 (given i).c, e := min 1000 (given i).e, k := min 1000 (given i).k }
      configOf cfg pl =
        if 1 < (at' 7).toNat ∨ 1 < (at' 14).toNat ∨ 1 < (at' 21).toNat then .bad
        else .taken { cfg with untagged := ⟨one 1, one 8, one 15⟩ }
          (decide (one 1 ≠ given 1 ∨ one 8 ≠ given 8 ∨ one 15 ≠ given 15))) ∧
    (∀ pl : List Byte, pl.length = 45 → pl.head? = some 7 →
      let given := (List.range 11).map (fun st => (⟨word (pl.getD (1 + 4 * st) 0) (pl.getD (2 + 4 * st) 0),
        word (pl.getD (3 + 4 * st) 0) (pl.getD (4 + 4 * st) 0)⟩ : CurvePoint))
      let b := given.map (fun x => (⟨min 1000 x.duty, min 600 x.qnom⟩ : CurvePoint))
      let good := given.head? = some ⟨0, 0⟩ ∧ (∀ x ∈ given.tail, x.duty ≠ 0 ∧ x.qnom ≠ 0) ∧
        ∀ i x y, b[i]? = some x → b[i + 1]? = some y → x.duty ≤ y.duty ∧ x.qnom ≤ y.qnom
      (good → configOf cfg pl = .taken { cfg with curve := b } (decide (b ≠ given))) ∧
      (¬good → configOf cfg pl = .bad))) ∧
  (∀ (s : State) (tag : Byte) (pl : List Byte), s.takes .service = true → fits .writeConfig pl = true →
    let old := s.sst.settings
    let busy := s.drc.state = .pulldown ∨ s.drc.state = .running ∨ s.drc.state = .defrost ∨
      ∃ q, s.cdc.seq = some q ∧ q.status = .running
    let refused := fun st : Status => ∃ t, exec (.writeConfig .service tag pl) s = .next t ∧
      t.answered .service tag st [] ∧ t.onlyAnswers s .service
    (7 < arg1 pl 0 → refused .badArg) ∧
    (arg1 pl 0 ≤ 7 → busy → refused .wrongState) ∧
    (arg1 pl 0 ≤ 7 → ¬busy → configOf old pl = .bad → refused .badArg) ∧
    (∀ new clamped, arg1 pl 0 ≤ 7 → ¬busy → configOf old pl = .taken new clamped →
      (s.configLaw → new.valid = true) ∧
      ∃ w t, exec (.writeConfig .service tag pl) s = .next t ∧
        t.answered .service tag (if clamped then .adjusted else .ok) [] ∧ t.onlyAnswers w .service ∧
        w.sst.settings = new ∧ w.afc.bankA = s.afc.bankA ∧ w.afc.bankB = s.afc.bankB ∧
        (new = old → w = s.heard .service) ∧
        (new ≠ old → w.asked (.single .config) ∧ w.afc.floor = w.afc.dryFloor new.airflow w.derating ∧
          let c := (s.heard .service).setSst { s.sst with settings := new }
          let derived := fun u : State => (u.deriveFull false).autoStart
          let a := old.terminals
          let b := new.terminals
          let gone := s.dar.table.filter (fun e => new.ports.get e.origin = .off)
          let kept := (s.dar.table.filter (fun e => new.ports.get e.origin ≠ .off)).map
            (fun e => { e with rank := new.ports.get e.origin })
          let dropped := gone.foldl (fun u e => (u.post e.origin .expired).log (.demandDropped e.ref .rankOff)) c
          let refiltered := fun (u : State) (st : Stage) =>
            let f := (s.fau.accounts.get st).stateBy new.filters (s.stagePresent st)
            let y := (u.postAll .filter).log (.filterState st f)
            if f = s.stageState st then u
            else if f = .worn ∨ f = .exhausted then y.request (.single .filters) else y
          let lost := let u := c.setSfe w.sfe
            if a.mf0 ≠ b.mf0 ∧ s.sfe.probe.window ≠ [] then (u.postAll .sensor).log (.sensor .probe false) else u
          let emptied := lost.setCdc { lost.cdc with
            release := if b.method = .floats then some 0 else none, released := false, seq := none }
          ∃ v x : State, x.handsOn v ∧ w = x.request (.single .config) ∧
            (new.ports = old.ports → a = b → new.tank = old.tank → new.filters = old.filters → v = c) ∧
            (new.ports ≠ old.ports → v = if gone = [] ∧ kept = s.dar.table then c
              else (dropped.setDar { s.dar with table := kept }).resolve) ∧
            (a ≠ b → v = derived (if a.method = b.method then lost
              else if s.cdc.seq = none then emptied else emptied.postAll .pump)) ∧
            (new.tank ≠ old.tank → v = derived c) ∧
            (new.filters ≠ old.filters → v = [Stage.pre, .carb, .fine].foldl refiltered c)) ∧
        (new.tank ≠ old.tank →
          let marks := new.tank
          let starts := marks.drain = .pump ∧ s.cdc.presence = .present ∧
            (∀ q, s.cdc.seq = some q → q.status = .complete) ∧
            ((∃ n, s.level = .ml n ∧ marks.pumpStart ≤ n) ∨ s.level = .high ∨ s.level = .full)
          w.cdc.full = (if s.cdc.presence ≠ .present then false
            else match s.level with
              | .unknown | .full => true
              | .ml n => if marks.full ≤ n then true else if n ≤ marks.resume then false else s.cdc.full
              | .belowHigh | .high => s.cdc.full && !s.cdc.released) ∧
          (s.cdc.presence = .present → w.cdc.full ≠ s.cdc.full → w.flagOnAll .tank) ∧
          (starts → w.cdc.pump = true ∧ ∃ q, w.cdc.seq = some q ∧ q.status = .running ∧ q.origin = .auto ∧
            q.phase = some .prime ∧ q.startLevel = s.level ∧
            ∀ n, s.level = .ml n → q.target = some (n - marks.empty) ∧ q.remaining = some (n - marks.empty) ∧
              q.moved = some 0) ∧
          (¬starts → w.cdc.seq = s.cdc.seq ∧ w.cdc.pump = s.cdc.pump)) ∧
        (new.filters ≠ old.filters → ∀ st,
          let f := (s.fau.accounts.get st).stateBy new.filters (s.stagePresent st)
          w.stageState st = f ∧ (f ≠ s.stageState st → w.flagOnAll .filter ∧
            (f = .worn ∨ f = .exhausted → w.asked (.single .filters)))) ∧
        (new.ports ≠ old.ports →
          (∀ e ∈ w.dar.table, e.rank = new.ports.get e.origin ∧ e.rank ≠ .off) ∧
          w.dar.table.map (fun e => (e.ref, e.ask, e.remaining)) =
            (s.dar.table.filter (fun e => new.ports.get e.origin ≠ .off)).map (fun e => (e.ref, e.ask, e.remaining)) ∧
          ∀ e ∈ s.dar.table, new.ports.get e.origin = .off → w.flagOn e.origin .expired) ∧
        (new.ports = old.ports → w.dar = s.dar) ∧
        (let a := old.terminals
         let b := new.terminals
         let input := fun (f g : MfFunction) (x : SwitchInput) => if f = g then x
           else if g = .none ∨ g = .probe then ⟨false, false, none⟩ else ⟨false, false, some 0⟩
         w.sfe = { s.sfe with
           mf0 := input a.mf0 b.mf0 s.sfe.mf0, mf1 := input a.mf1 b.mf1 s.sfe.mf1, mf2 := input a.mf2 b.mf2 s.sfe.mf2
           probe := if a.mf0 = b.mf0 then s.sfe.probe else ⟨[], 0⟩ } ∧
         (a.mf0 ≠ b.mf0 → s.sfe.probe.window ≠ [] → w.flagOnAll .sensor)) ∧
        (s.configLaw → new.terminals.method ≠ old.terminals.method →
          w.cdc.seq = none ∧ (s.cdc.seq ≠ none → w.flagOnAll .pump)) ∧
        w.sameBut s [.sfe, .dar, .afc, .fau, .drc, .cdc, .tlg, .prt, .sst]))

/-- Frames that no command handler sees.
A known command whose Length does not fit is answered BAD-FRAME, and one the port or its rank may not send
NOT-PERMITTED; an unknown Command byte is answered UNKNOWN and a bad frame BAD-FRAME (on PANEL the byte 0x00
is no Command byte and never forms a frame: nothing changes); while the start-up store is being read every
frame with a good Check is answered BUSY. The answer carries the frame's Tag and no payload, and nothing but
the answer changes. The Lengths that fit are those of Table 9-8: 0; 1; for PUT-DEMAND 4 with a HALT, 6 with
another kind and either with a byte that names none; 0 or 1 for CLEAR-ALL-DEMANDS; 45, 7, 4, 2; 1 or 3 for
PUMP-OUT; and its group's for a WRITE-CONFIG. The READ commands, the log readers' commands and SET-EVENT-
MASK are permitted to every port at every rank, CLEAR-LOCKOUT to PANEL and SERVICE above OFF, five commands
to SERVICE alone, and every other to a port above OFF. -/
def Obligations.RefusedFramesChangeNothing : Prop :=
  (∀ (s : State) (p : Port) (c : Command) (code tag : Byte) (pl : List Byte),
      let known := Frame.row p ⟨.known c, tag, pl⟩
      let refused := fun (i : Instr) (st : Status) => ∃ t, exec i s = .next t ∧ t.answered p tag st [] ∧ t.onlyAnswers s p
      (s.takes p = true → fits c pl = false → refused known .badFrame) ∧
      (s.takes p = true → fits c pl = true → permitted c p (s.rank p) = false → refused known .notPermitted) ∧
      (p = .panel → code = 0 → exec (.unknownCommand p code tag pl) s = .next s) ∧
      (s.takes p = true → ¬(p = .panel ∧ code = 0) → refused (.unknownCommand p code tag pl) .unknown) ∧
      (s.live = true → (p = .service → s.prt.closed = false) → (p = .link → s.prt.sending = false) →
        refused (.badFrame p tag) .badFrame ∧
        (s.sst.startUp = .reading → refused known .busy ∧
          (¬(p = .panel ∧ code = 0) → refused (.unknownCommand p code tag pl) .busy)))) ∧
  ((∀ (c : Command) (pl : List Byte), fits c pl = true ↔
      let n := pl.length
      (n = 0 ∧ c ∈ ([.readSensors, .readPlan, .readDemands, .readDrying, .readEvents, .clearAllDemands, .clearLockout,
        .forceDefrost, .pumpAbort, .readLog, .restart] : List Command)) ∨
      (n = 1 ∧ c ∈ ([.readAirflow, .readFilters, .readCartridges, .readTank, .readConfig, .clearDemand,
        .clearAllDemands, .selectCurve, .resetFilter, .pumpOut, .setCursor, .setLogJoin] : List Command)) ∨
      (c = .putDemand ∧ (n = 4 ∧ 3 ≤ (pl.getD 1 0).toNat ∨ n = 6 ∧ (pl.getD 1 0).toNat ≠ 3)) ∨
      (c = .loadCurve ∧ n = 45) ∨ (c = .setStage ∧ n = 7) ∨ (c = .forgetCartridge ∧ n = 4) ∨
      (c = .setEventMask ∧ n = 2) ∨ (c = .pumpOut ∧ n = 3) ∨
      (c = .writeConfig ∧ 1 ≤ n ∧
        ∀ k, ([4, 5, 10, 5, 3, 6, 22, 45] : List Nat)[(pl.getD 0 0).toNat]? = some k → n = k)) ∧
    (∀ (c : Command) (p : Port) (r : Rank), permitted c p r = true ↔
      c ∈ ([.readSensors, .readPlan, .readDemands, .readAirflow, .readFilters, .readCartridges, .readDrying, .readTank,
        .readConfig, .readEvents, .setEventMask, .readLog, .setCursor, .setLogJoin] : List Command) ∨
      (r ≠ .off ∧ c ∈ ([.putDemand, .clearDemand, .clearAllDemands, .loadCurve, .selectCurve, .resetFilter, .pumpOut,
        .pumpAbort] : List Command)) ∨
      (c = .clearLockout ∧ p ≠ .link ∧ r ≠ .off) ∨
      (p = .service ∧ c ∈ ([.setStage, .forgetCartridge, .forceDefrost, .writeConfig, .restart] : List Command))))

/-- A held LINK frame, the end of a transmission, a PANEL fetch and a SERVICE read.
A frame that ends on LINK while TXD transmits is held when none is held and discarded otherwise.
LINK_TRANSMIT_END frees TXD and takes the held frame as it would have been taken then. In the window of a
PANEL frame MISO carries 0x5A or 0x00 with the first byte and 0x00 with each later one. A PANEL fetch window
of n bytes, and a SERVICE read of n bytes, gives the first n of 0x5A and the pending response's body, with
0x00 beyond them and without a response; a response read whole is no longer pending. A window that was open
when the last response was formed gives the one before it, until that was read whole, and leaves the new one
pending. A SERVICE read that takes the whole response to RESTART also hands the RESTART over. Nothing else
changes. (The window open at that moment is log 5, and the bytes held as read log 19: the model's choices.) -/
def Obligations.LinksCarryAnswersOut : Prop :=
  (∀ (s : State) (f : Frame), s.live = true → s.prt.sending = true →
    ∃ t, exec (Frame.row .link f) s = .next t ∧ t.onlyAnswers { s with prt := { s.prt with held := t.prt.held } } .link ∧
      (∀ g, s.prt.held = some g → t.prt.held = some g) ∧
      (s.prt.held = none → f.kind ≠ .bad → t.prt.held = some f) ∧
      (s.prt.held = none → f.kind = .bad → t.prt.held = some { f with payload := [] })) ∧
  (∀ s : State, s.live = true → s.prt.sending = true →
    let u := s.setPrt { s.prt with sending := false, held := none }
    (s.prt.held = none → exec .linkTransmitEnd s = .next u) ∧
    (∀ f, s.prt.held = some f → exec .linkTransmitEnd s = .next (u.takeFrame .link f) ∧
      ((s.port .link).rx = none → s.prt.gap = none → exec .linkTransmitEnd s = exec (Frame.row .link f) u))) ∧
  (∀ (s : State) (f : Frame), s.live = true → f.kind ≠ .unknown 0 →
    let x := s.port .panel
    let n := match f.kind with
      | .bad => 3
      | _ => 4 + f.payload.length
    ∃ t, exec (Frame.row .panel f) s = .next t ∧
      (x.rx = none → (t.port .panel).out =
        (if x.response.isSome then 0x5A else 0x00) :: List.replicate (n - 1) 0x00) ∧
      (x.rx ≠ none → (t.port .panel).out = x.out ++ List.replicate (n - x.out.length) 0x00)) ∧
  (∀ (s : State) (n : Nat) (p : Port) (i : Instr), s.live = true →
    (p = .panel ∧ i = .panelFetchWindow n false) ∨
    (p = .service ∧ i = .serviceReadTransaction n false ∧ s.prt.handover = none) →
    (s.port p).response = none → exec i s = .next (s.setPort p { s.port p with
      out := List.replicate n 0, prior := none })) ∧
  (∀ (s : State) (n : Nat) (p : Port) (i : Instr) (x : Response), s.live = true → (s.port p).response = some x →
    let bytes := 0x5A :: x.body
    let read := s.setPort p { s.port p with
      out := (bytes ++ List.replicate n 0).take n, prior := none
      response := if bytes.length ≤ n then none else some x }
    ((p = .panel ∧ i = .panelFetchWindow n false) ∨
      (p = .service ∧ i = .serviceReadTransaction n false ∧ (s.prt.handover = none ∨ n < bytes.length)) →
      exec i s = .next read) ∧
    (p = .service → i = .serviceReadTransaction n false → s.prt.handover.isSome = true → bytes.length ≤ n →
      exec i s = .next ((read.setPrt { read.prt with handover := none }).setSst
        { s.sst with restart := if s.sst.writing.isSome then .finishing else .drained }))) ∧
  (∀ (s : State) (n : Nat) (p : Port) (i : Instr), s.live = true →
    (p = .panel ∧ i = .panelFetchWindow n true) ∨ (p = .service ∧ i = .serviceReadTransaction n true) →
    ((s.port p).prior = none → exec i s = .next (s.setPort p { s.port p with out := List.replicate n 0 })) ∧
    (∀ x, (s.port p).prior = some x →
      let bytes := 0x5A :: x.body
      exec i s = .next (s.setPort p { s.port p with
        out := (bytes ++ List.replicate n 0).take n
        prior := if bytes.length ≤ n then none else some x })))

/-- The compressor is on only where it may be.
Every step keeps, together with a configuration the checks accept: while the compressor is on, the tank is
PRESENT with the FULL flag clear and its level known, every required stage is present, and the fan is
neither stalled nor in fault. -/
def Obligations.CompressorNeedsTheTankAndTheFan : Prop :=
  keptByStep (fun s => s.configLaw ∧ s.compressorLaw)

/-- The pump is driven in PRIME and TRANSFER of a run alone.
Every step keeps: the pump is driven exactly in PRIME and TRANSFER of a RUNNING sequence, and a RUNNING
sequence is in a phase with the tank PRESENT. -/
def Obligations.PumpRunsOnlyInItsPhases : Prop :=
  keptByStep State.pumpLaw

/-- The ring and the cursors.
Every step keeps: the ring holds at most 256 records, their sequence numbers are consecutive up to the
newest, and each port's cursor lies between the oldest held and the newest plus one. -/
def Obligations.TrendLogStaysInOrder : Prop :=
  keptByStep State.ringLaw

/-- Curve banks, accounts and the derating stay in their ranges.
Every step keeps, together with a configuration the checks accept: both curve banks satisfy the four
conditions of R45; every account's capacity is at least 1, its efficiency and restriction at most 1000, its
load at most 2000 × C and its remainder below 1000; the unit remainders stay below 240 and 6000 and D at
most 700. -/
def Obligations.BanksAndAccountsStayInRange : Prop :=
  keptByStep (fun s => s.configLaw ∧ s.bankLaw ∧ s.accountLaw)

/-- No serial stands in two places.
Every step keeps: the recent list holds at most 4 entries, none with the serial of another or of a current
account, and no two stages are bound to one serial, in the part or in the store. -/
def Obligations.SerialsStayApart : Prop :=
  keptByStep State.recentLaw

/-- The demand table and the plan.
Every step keeps: the table holds one entry at most for a port and slot, each with its fields in range and
at its port's rank, none of a port at OFF; and the plan content is that of the table. -/
def Obligations.DemandTableStaysResolved : Prop :=
  keptByStep State.demandLaw
end

