-- ==== Sys2Proof/Laws/State.lean ====
section
/-! SUPPORT. One lemma for each field and each block setter, and the projections of the per-port and per-stage
containers. -/

namespace Sys2Proof

@[simp] theorem PerPort.get_set_same {α : Type} (x : PerPort α) (p : Port) (v : α) : (x.set p v).get p = v := by
  cases p <;> rfl

theorem PerPort.get_set_other {α : Type} (x : PerPort α) (p q : Port) (v : α) (h : q ≠ p) :
    (x.set p v).get q = x.get q := by
  cases p <;> cases q <;> first | rfl | exact absurd rfl h

@[simp] theorem PerPort.get_map {α β : Type} (f : Port → α → β) (x : PerPort α) (p : Port) :
    (x.map f).get p = f p (x.get p) := by
  cases p <;> rfl

theorem PerPort.ext_get {α : Type} (x y : PerPort α) (h : ∀ p, x.get p = y.get p) : x = y := by
  have h1 := h .panel
  have h2 := h .link
  have h3 := h .service
  cases x
  cases y
  simp [PerPort.get] at h1 h2 h3
  simp [h1, h2, h3]

@[simp] theorem PerStage.get_set_same {α : Type} (x : PerStage α) (st : Stage) (v : α) : (x.set st v).get st = v := by
  cases st <;> rfl

theorem PerStage.get_set_other {α : Type} (x : PerStage α) (st st' : Stage) (v : α) (h : st' ≠ st) :
    (x.set st v).get st' = x.get st' := by
  cases st <;> cases st' <;> first | rfl | exact absurd rfl h

@[simp] theorem PerStage.get_map {α β : Type} (f : Stage → α → β) (x : PerStage α) (st : Stage) :
    (x.map f).get st = f st (x.get st) := by
  cases st <;> rfl

end Sys2Proof

namespace Sys2Proof.Machine

/-! ### setPins -/

@[simp] theorem setPins_pending (s : State) (x : Pins) : (s.setPins x).pending = s.pending := rfl
@[simp] theorem setPins_now (s : State) (x : Pins) : (s.setPins x).now = s.now := rfl
@[simp] theorem setPins_free (s : State) (x : Pins) : (s.setPins x).free = s.free := rfl
@[simp] theorem setPins_supply (s : State) (x : Pins) : (s.setPins x).supply = s.supply := rfl
@[simp] theorem setPins_resetnLow (s : State) (x : Pins) : (s.setPins x).resetnLow = s.resetnLow := rfl
@[simp] theorem setPins_kind (s : State) (x : Pins) : (s.setPins x).kind = s.kind := rfl
@[simp] theorem setPins_pins (s : State) (x : Pins) : (s.setPins x).pins = x := rfl
@[simp] theorem setPins_store (s : State) (x : Pins) : (s.setPins x).store = s.store := rfl
@[simp] theorem setPins_sfe (s : State) (x : Pins) : (s.setPins x).sfe = s.sfe := rfl
@[simp] theorem setPins_dar (s : State) (x : Pins) : (s.setPins x).dar = s.dar := rfl
@[simp] theorem setPins_afc (s : State) (x : Pins) : (s.setPins x).afc = s.afc := rfl
@[simp] theorem setPins_fau (s : State) (x : Pins) : (s.setPins x).fau = s.fau := rfl
@[simp] theorem setPins_crd (s : State) (x : Pins) : (s.setPins x).crd = s.crd := rfl
@[simp] theorem setPins_drc (s : State) (x : Pins) : (s.setPins x).drc = s.drc := rfl
@[simp] theorem setPins_cdc (s : State) (x : Pins) : (s.setPins x).cdc = s.cdc := rfl
@[simp] theorem setPins_tlg (s : State) (x : Pins) : (s.setPins x).tlg = s.tlg := rfl
@[simp] theorem setPins_prt (s : State) (x : Pins) : (s.setPins x).prt = s.prt := rfl
@[simp] theorem setPins_sst (s : State) (x : Pins) : (s.setPins x).sst = s.sst := rfl

/-! ### setStore -/

@[simp] theorem setStore_pending (s : State) (x : Store) : (s.setStore x).pending = s.pending := rfl
@[simp] theorem setStore_now (s : State) (x : Store) : (s.setStore x).now = s.now := rfl
@[simp] theorem setStore_free (s : State) (x : Store) : (s.setStore x).free = s.free := rfl
@[simp] theorem setStore_supply (s : State) (x : Store) : (s.setStore x).supply = s.supply := rfl
@[simp] theorem setStore_resetnLow (s : State) (x : Store) : (s.setStore x).resetnLow = s.resetnLow := rfl
@[simp] theorem setStore_kind (s : State) (x : Store) : (s.setStore x).kind = s.kind := rfl
@[simp] theorem setStore_pins (s : State) (x : Store) : (s.setStore x).pins = s.pins := rfl
@[simp] theorem setStore_store (s : State) (x : Store) : (s.setStore x).store = x := rfl
@[simp] theorem setStore_sfe (s : State) (x : Store) : (s.setStore x).sfe = s.sfe := rfl
@[simp] theorem setStore_dar (s : State) (x : Store) : (s.setStore x).dar = s.dar := rfl
@[simp] theorem setStore_afc (s : State) (x : Store) : (s.setStore x).afc = s.afc := rfl
@[simp] theorem setStore_fau (s : State) (x : Store) : (s.setStore x).fau = s.fau := rfl
@[simp] theorem setStore_crd (s : State) (x : Store) : (s.setStore x).crd = s.crd := rfl
@[simp] theorem setStore_drc (s : State) (x : Store) : (s.setStore x).drc = s.drc := rfl
@[simp] theorem setStore_cdc (s : State) (x : Store) : (s.setStore x).cdc = s.cdc := rfl
@[simp] theorem setStore_tlg (s : State) (x : Store) : (s.setStore x).tlg = s.tlg := rfl
@[simp] theorem setStore_prt (s : State) (x : Store) : (s.setStore x).prt = s.prt := rfl
@[simp] theorem setStore_sst (s : State) (x : Store) : (s.setStore x).sst = s.sst := rfl

/-! ### setSfe -/

@[simp] theorem setSfe_pending (s : State) (x : Sfe) : (s.setSfe x).pending = s.pending := rfl
@[simp] theorem setSfe_now (s : State) (x : Sfe) : (s.setSfe x).now = s.now := rfl
@[simp] theorem setSfe_free (s : State) (x : Sfe) : (s.setSfe x).free = s.free := rfl
@[simp] theorem setSfe_supply (s : State) (x : Sfe) : (s.setSfe x).supply = s.supply := rfl
@[simp] theorem setSfe_resetnLow (s : State) (x : Sfe) : (s.setSfe x).resetnLow = s.resetnLow := rfl
@[simp] theorem setSfe_kind (s : State) (x : Sfe) : (s.setSfe x).kind = s.kind := rfl
@[simp] theorem setSfe_pins (s : State) (x : Sfe) : (s.setSfe x).pins = s.pins := rfl
@[simp] theorem setSfe_store (s : State) (x : Sfe) : (s.setSfe x).store = s.store := rfl
@[simp] theorem setSfe_sfe (s : State) (x : Sfe) : (s.setSfe x).sfe = x := rfl
@[simp] theorem setSfe_dar (s : State) (x : Sfe) : (s.setSfe x).dar = s.dar := rfl
@[simp] theorem setSfe_afc (s : State) (x : Sfe) : (s.setSfe x).afc = s.afc := rfl
@[simp] theorem setSfe_fau (s : State) (x : Sfe) : (s.setSfe x).fau = s.fau := rfl
@[simp] theorem setSfe_crd (s : State) (x : Sfe) : (s.setSfe x).crd = s.crd := rfl
@[simp] theorem setSfe_drc (s : State) (x : Sfe) : (s.setSfe x).drc = s.drc := rfl
@[simp] theorem setSfe_cdc (s : State) (x : Sfe) : (s.setSfe x).cdc = s.cdc := rfl
@[simp] theorem setSfe_tlg (s : State) (x : Sfe) : (s.setSfe x).tlg = s.tlg := rfl
@[simp] theorem setSfe_prt (s : State) (x : Sfe) : (s.setSfe x).prt = s.prt := rfl
@[simp] theorem setSfe_sst (s : State) (x : Sfe) : (s.setSfe x).sst = s.sst := rfl

/-! ### setDar -/

@[simp] theorem setDar_pending (s : State) (x : Dar) : (s.setDar x).pending = s.pending := rfl
@[simp] theorem setDar_now (s : State) (x : Dar) : (s.setDar x).now = s.now := rfl
@[simp] theorem setDar_free (s : State) (x : Dar) : (s.setDar x).free = s.free := rfl
@[simp] theorem setDar_supply (s : State) (x : Dar) : (s.setDar x).supply = s.supply := rfl
@[simp] theorem setDar_resetnLow (s : State) (x : Dar) : (s.setDar x).resetnLow = s.resetnLow := rfl
@[simp] theorem setDar_kind (s : State) (x : Dar) : (s.setDar x).kind = s.kind := rfl
@[simp] theorem setDar_pins (s : State) (x : Dar) : (s.setDar x).pins = s.pins := rfl
@[simp] theorem setDar_store (s : State) (x : Dar) : (s.setDar x).store = s.store := rfl
@[simp] theorem setDar_sfe (s : State) (x : Dar) : (s.setDar x).sfe = s.sfe := rfl
@[simp] theorem setDar_dar (s : State) (x : Dar) : (s.setDar x).dar = x := rfl
@[simp] theorem setDar_afc (s : State) (x : Dar) : (s.setDar x).afc = s.afc := rfl
@[simp] theorem setDar_fau (s : State) (x : Dar) : (s.setDar x).fau = s.fau := rfl
@[simp] theorem setDar_crd (s : State) (x : Dar) : (s.setDar x).crd = s.crd := rfl
@[simp] theorem setDar_drc (s : State) (x : Dar) : (s.setDar x).drc = s.drc := rfl
@[simp] theorem setDar_cdc (s : State) (x : Dar) : (s.setDar x).cdc = s.cdc := rfl
@[simp] theorem setDar_tlg (s : State) (x : Dar) : (s.setDar x).tlg = s.tlg := rfl
@[simp] theorem setDar_prt (s : State) (x : Dar) : (s.setDar x).prt = s.prt := rfl
@[simp] theorem setDar_sst (s : State) (x : Dar) : (s.setDar x).sst = s.sst := rfl

/-! ### setAfc -/

@[simp] theorem setAfc_pending (s : State) (x : Afc) : (s.setAfc x).pending = s.pending := rfl
@[simp] theorem setAfc_now (s : State) (x : Afc) : (s.setAfc x).now = s.now := rfl
@[simp] theorem setAfc_free (s : State) (x : Afc) : (s.setAfc x).free = s.free := rfl
@[simp] theorem setAfc_supply (s : State) (x : Afc) : (s.setAfc x).supply = s.supply := rfl
@[simp] theorem setAfc_resetnLow (s : State) (x : Afc) : (s.setAfc x).resetnLow = s.resetnLow := rfl
@[simp] theorem setAfc_kind (s : State) (x : Afc) : (s.setAfc x).kind = s.kind := rfl
@[simp] theorem setAfc_pins (s : State) (x : Afc) : (s.setAfc x).pins = s.pins := rfl
@[simp] theorem setAfc_store (s : State) (x : Afc) : (s.setAfc x).store = s.store := rfl
@[simp] theorem setAfc_sfe (s : State) (x : Afc) : (s.setAfc x).sfe = s.sfe := rfl
@[simp] theorem setAfc_dar (s : State) (x : Afc) : (s.setAfc x).dar = s.dar := rfl
@[simp] theorem setAfc_afc (s : State) (x : Afc) : (s.setAfc x).afc = x := rfl
@[simp] theorem setAfc_fau (s : State) (x : Afc) : (s.setAfc x).fau = s.fau := rfl
@[simp] theorem setAfc_crd (s : State) (x : Afc) : (s.setAfc x).crd = s.crd := rfl
@[simp] theorem setAfc_drc (s : State) (x : Afc) : (s.setAfc x).drc = s.drc := rfl
@[simp] theorem setAfc_cdc (s : State) (x : Afc) : (s.setAfc x).cdc = s.cdc := rfl
@[simp] theorem setAfc_tlg (s : State) (x : Afc) : (s.setAfc x).tlg = s.tlg := rfl
@[simp] theorem setAfc_prt (s : State) (x : Afc) : (s.setAfc x).prt = s.prt := rfl
@[simp] theorem setAfc_sst (s : State) (x : Afc) : (s.setAfc x).sst = s.sst := rfl

/-! ### setFau -/

@[simp] theorem setFau_pending (s : State) (x : Fau) : (s.setFau x).pending = s.pending := rfl
@[simp] theorem setFau_now (s : State) (x : Fau) : (s.setFau x).now = s.now := rfl
@[simp] theorem setFau_free (s : State) (x : Fau) : (s.setFau x).free = s.free := rfl
@[simp] theorem setFau_supply (s : State) (x : Fau) : (s.setFau x).supply = s.supply := rfl
@[simp] theorem setFau_resetnLow (s : State) (x : Fau) : (s.setFau x).resetnLow = s.resetnLow := rfl
@[simp] theorem setFau_kind (s : State) (x : Fau) : (s.setFau x).kind = s.kind := rfl
@[simp] theorem setFau_pins (s : State) (x : Fau) : (s.setFau x).pins = s.pins := rfl
@[simp] theorem setFau_store (s : State) (x : Fau) : (s.setFau x).store = s.store := rfl
@[simp] theorem setFau_sfe (s : State) (x : Fau) : (s.setFau x).sfe = s.sfe := rfl
@[simp] theorem setFau_dar (s : State) (x : Fau) : (s.setFau x).dar = s.dar := rfl
@[simp] theorem setFau_afc (s : State) (x : Fau) : (s.setFau x).afc = s.afc := rfl
@[simp] theorem setFau_fau (s : State) (x : Fau) : (s.setFau x).fau = x := rfl
@[simp] theorem setFau_crd (s : State) (x : Fau) : (s.setFau x).crd = s.crd := rfl
@[simp] theorem setFau_drc (s : State) (x : Fau) : (s.setFau x).drc = s.drc := rfl
@[simp] theorem setFau_cdc (s : State) (x : Fau) : (s.setFau x).cdc = s.cdc := rfl
@[simp] theorem setFau_tlg (s : State) (x : Fau) : (s.setFau x).tlg = s.tlg := rfl
@[simp] theorem setFau_prt (s : State) (x : Fau) : (s.setFau x).prt = s.prt := rfl
@[simp] theorem setFau_sst (s : State) (x : Fau) : (s.setFau x).sst = s.sst := rfl

/-! ### setCrd -/

@[simp] theorem setCrd_pending (s : State) (x : Crd) : (s.setCrd x).pending = s.pending := rfl
@[simp] theorem setCrd_now (s : State) (x : Crd) : (s.setCrd x).now = s.now := rfl
@[simp] theorem setCrd_free (s : State) (x : Crd) : (s.setCrd x).free = s.free := rfl
@[simp] theorem setCrd_supply (s : State) (x : Crd) : (s.setCrd x).supply = s.supply := rfl
@[simp] theorem setCrd_resetnLow (s : State) (x : Crd) : (s.setCrd x).resetnLow = s.resetnLow := rfl
@[simp] theorem setCrd_kind (s : State) (x : Crd) : (s.setCrd x).kind = s.kind := rfl
@[simp] theorem setCrd_pins (s : State) (x : Crd) : (s.setCrd x).pins = s.pins := rfl
@[simp] theorem setCrd_store (s : State) (x : Crd) : (s.setCrd x).store = s.store := rfl
@[simp] theorem setCrd_sfe (s : State) (x : Crd) : (s.setCrd x).sfe = s.sfe := rfl
@[simp] theorem setCrd_dar (s : State) (x : Crd) : (s.setCrd x).dar = s.dar := rfl
@[simp] theorem setCrd_afc (s : State) (x : Crd) : (s.setCrd x).afc = s.afc := rfl
@[simp] theorem setCrd_fau (s : State) (x : Crd) : (s.setCrd x).fau = s.fau := rfl
@[simp] theorem setCrd_crd (s : State) (x : Crd) : (s.setCrd x).crd = x := rfl
@[simp] theorem setCrd_drc (s : State) (x : Crd) : (s.setCrd x).drc = s.drc := rfl
@[simp] theorem setCrd_cdc (s : State) (x : Crd) : (s.setCrd x).cdc = s.cdc := rfl
@[simp] theorem setCrd_tlg (s : State) (x : Crd) : (s.setCrd x).tlg = s.tlg := rfl
@[simp] theorem setCrd_prt (s : State) (x : Crd) : (s.setCrd x).prt = s.prt := rfl
@[simp] theorem setCrd_sst (s : State) (x : Crd) : (s.setCrd x).sst = s.sst := rfl

/-! ### setDrc -/

@[simp] theorem setDrc_pending (s : State) (x : Drc) : (s.setDrc x).pending = s.pending := rfl
@[simp] theorem setDrc_now (s : State) (x : Drc) : (s.setDrc x).now = s.now := rfl
@[simp] theorem setDrc_free (s : State) (x : Drc) : (s.setDrc x).free = s.free := rfl
@[simp] theorem setDrc_supply (s : State) (x : Drc) : (s.setDrc x).supply = s.supply := rfl
@[simp] theorem setDrc_resetnLow (s : State) (x : Drc) : (s.setDrc x).resetnLow = s.resetnLow := rfl
@[simp] theorem setDrc_kind (s : State) (x : Drc) : (s.setDrc x).kind = s.kind := rfl
@[simp] theorem setDrc_pins (s : State) (x : Drc) : (s.setDrc x).pins = s.pins := rfl
@[simp] theorem setDrc_store (s : State) (x : Drc) : (s.setDrc x).store = s.store := rfl
@[simp] theorem setDrc_sfe (s : State) (x : Drc) : (s.setDrc x).sfe = s.sfe := rfl
@[simp] theorem setDrc_dar (s : State) (x : Drc) : (s.setDrc x).dar = s.dar := rfl
@[simp] theorem setDrc_afc (s : State) (x : Drc) : (s.setDrc x).afc = s.afc := rfl
@[simp] theorem setDrc_fau (s : State) (x : Drc) : (s.setDrc x).fau = s.fau := rfl
@[simp] theorem setDrc_crd (s : State) (x : Drc) : (s.setDrc x).crd = s.crd := rfl
@[simp] theorem setDrc_drc (s : State) (x : Drc) : (s.setDrc x).drc = x := rfl
@[simp] theorem setDrc_cdc (s : State) (x : Drc) : (s.setDrc x).cdc = s.cdc := rfl
@[simp] theorem setDrc_tlg (s : State) (x : Drc) : (s.setDrc x).tlg = s.tlg := rfl
@[simp] theorem setDrc_prt (s : State) (x : Drc) : (s.setDrc x).prt = s.prt := rfl
@[simp] theorem setDrc_sst (s : State) (x : Drc) : (s.setDrc x).sst = s.sst := rfl

/-! ### setCdc -/

@[simp] theorem setCdc_pending (s : State) (x : Cdc) : (s.setCdc x).pending = s.pending := rfl
@[simp] theorem setCdc_now (s : State) (x : Cdc) : (s.setCdc x).now = s.now := rfl
@[simp] theorem setCdc_free (s : State) (x : Cdc) : (s.setCdc x).free = s.free := rfl
@[simp] theorem setCdc_supply (s : State) (x : Cdc) : (s.setCdc x).supply = s.supply := rfl
@[simp] theorem setCdc_resetnLow (s : State) (x : Cdc) : (s.setCdc x).resetnLow = s.resetnLow := rfl
@[simp] theorem setCdc_kind (s : State) (x : Cdc) : (s.setCdc x).kind = s.kind := rfl
@[simp] theorem setCdc_pins (s : State) (x : Cdc) : (s.setCdc x).pins = s.pins := rfl
@[simp] theorem setCdc_store (s : State) (x : Cdc) : (s.setCdc x).store = s.store := rfl
@[simp] theorem setCdc_sfe (s : State) (x : Cdc) : (s.setCdc x).sfe = s.sfe := rfl
@[simp] theorem setCdc_dar (s : State) (x : Cdc) : (s.setCdc x).dar = s.dar := rfl
@[simp] theorem setCdc_afc (s : State) (x : Cdc) : (s.setCdc x).afc = s.afc := rfl
@[simp] theorem setCdc_fau (s : State) (x : Cdc) : (s.setCdc x).fau = s.fau := rfl
@[simp] theorem setCdc_crd (s : State) (x : Cdc) : (s.setCdc x).crd = s.crd := rfl
@[simp] theorem setCdc_drc (s : State) (x : Cdc) : (s.setCdc x).drc = s.drc := rfl
@[simp] theorem setCdc_cdc (s : State) (x : Cdc) : (s.setCdc x).cdc = x := rfl
@[simp] theorem setCdc_tlg (s : State) (x : Cdc) : (s.setCdc x).tlg = s.tlg := rfl
@[simp] theorem setCdc_prt (s : State) (x : Cdc) : (s.setCdc x).prt = s.prt := rfl
@[simp] theorem setCdc_sst (s : State) (x : Cdc) : (s.setCdc x).sst = s.sst := rfl

/-! ### setTlg -/

@[simp] theorem setTlg_pending (s : State) (x : Tlg) : (s.setTlg x).pending = s.pending := rfl
@[simp] theorem setTlg_now (s : State) (x : Tlg) : (s.setTlg x).now = s.now := rfl
@[simp] theorem setTlg_free (s : State) (x : Tlg) : (s.setTlg x).free = s.free := rfl
@[simp] theorem setTlg_supply (s : State) (x : Tlg) : (s.setTlg x).supply = s.supply := rfl
@[simp] theorem setTlg_resetnLow (s : State) (x : Tlg) : (s.setTlg x).resetnLow = s.resetnLow := rfl
@[simp] theorem setTlg_kind (s : State) (x : Tlg) : (s.setTlg x).kind = s.kind := rfl
@[simp] theorem setTlg_pins (s : State) (x : Tlg) : (s.setTlg x).pins = s.pins := rfl
@[simp] theorem setTlg_store (s : State) (x : Tlg) : (s.setTlg x).store = s.store := rfl
@[simp] theorem setTlg_sfe (s : State) (x : Tlg) : (s.setTlg x).sfe = s.sfe := rfl
@[simp] theorem setTlg_dar (s : State) (x : Tlg) : (s.setTlg x).dar = s.dar := rfl
@[simp] theorem setTlg_afc (s : State) (x : Tlg) : (s.setTlg x).afc = s.afc := rfl
@[simp] theorem setTlg_fau (s : State) (x : Tlg) : (s.setTlg x).fau = s.fau := rfl
@[simp] theorem setTlg_crd (s : State) (x : Tlg) : (s.setTlg x).crd = s.crd := rfl
@[simp] theorem setTlg_drc (s : State) (x : Tlg) : (s.setTlg x).drc = s.drc := rfl
@[simp] theorem setTlg_cdc (s : State) (x : Tlg) : (s.setTlg x).cdc = s.cdc := rfl
@[simp] theorem setTlg_tlg (s : State) (x : Tlg) : (s.setTlg x).tlg = x := rfl
@[simp] theorem setTlg_prt (s : State) (x : Tlg) : (s.setTlg x).prt = s.prt := rfl
@[simp] theorem setTlg_sst (s : State) (x : Tlg) : (s.setTlg x).sst = s.sst := rfl

/-! ### setPrt -/

@[simp] theorem setPrt_pending (s : State) (x : Prt) : (s.setPrt x).pending = s.pending := rfl
@[simp] theorem setPrt_now (s : State) (x : Prt) : (s.setPrt x).now = s.now := rfl
@[simp] theorem setPrt_free (s : State) (x : Prt) : (s.setPrt x).free = s.free := rfl
@[simp] theorem setPrt_supply (s : State) (x : Prt) : (s.setPrt x).supply = s.supply := rfl
@[simp] theorem setPrt_resetnLow (s : State) (x : Prt) : (s.setPrt x).resetnLow = s.resetnLow := rfl
@[simp] theorem setPrt_kind (s : State) (x : Prt) : (s.setPrt x).kind = s.kind := rfl
@[simp] theorem setPrt_pins (s : State) (x : Prt) : (s.setPrt x).pins = s.pins := rfl
@[simp] theorem setPrt_store (s : State) (x : Prt) : (s.setPrt x).store = s.store := rfl
@[simp] theorem setPrt_sfe (s : State) (x : Prt) : (s.setPrt x).sfe = s.sfe := rfl
@[simp] theorem setPrt_dar (s : State) (x : Prt) : (s.setPrt x).dar = s.dar := rfl
@[simp] theorem setPrt_afc (s : State) (x : Prt) : (s.setPrt x).afc = s.afc := rfl
@[simp] theorem setPrt_fau (s : State) (x : Prt) : (s.setPrt x).fau = s.fau := rfl
@[simp] theorem setPrt_crd (s : State) (x : Prt) : (s.setPrt x).crd = s.crd := rfl
@[simp] theorem setPrt_drc (s : State) (x : Prt) : (s.setPrt x).drc = s.drc := rfl
@[simp] theorem setPrt_cdc (s : State) (x : Prt) : (s.setPrt x).cdc = s.cdc := rfl
@[simp] theorem setPrt_tlg (s : State) (x : Prt) : (s.setPrt x).tlg = s.tlg := rfl
@[simp] theorem setPrt_prt (s : State) (x : Prt) : (s.setPrt x).prt = x := rfl
@[simp] theorem setPrt_sst (s : State) (x : Prt) : (s.setPrt x).sst = s.sst := rfl

/-! ### setSst -/

@[simp] theorem setSst_pending (s : State) (x : Sst) : (s.setSst x).pending = s.pending := rfl
@[simp] theorem setSst_now (s : State) (x : Sst) : (s.setSst x).now = s.now := rfl
@[simp] theorem setSst_free (s : State) (x : Sst) : (s.setSst x).free = s.free := rfl
@[simp] theorem setSst_supply (s : State) (x : Sst) : (s.setSst x).supply = s.supply := rfl
@[simp] theorem setSst_resetnLow (s : State) (x : Sst) : (s.setSst x).resetnLow = s.resetnLow := rfl
@[simp] theorem setSst_kind (s : State) (x : Sst) : (s.setSst x).kind = s.kind := rfl
@[simp] theorem setSst_pins (s : State) (x : Sst) : (s.setSst x).pins = s.pins := rfl
@[simp] theorem setSst_store (s : State) (x : Sst) : (s.setSst x).store = s.store := rfl
@[simp] theorem setSst_sfe (s : State) (x : Sst) : (s.setSst x).sfe = s.sfe := rfl
@[simp] theorem setSst_dar (s : State) (x : Sst) : (s.setSst x).dar = s.dar := rfl
@[simp] theorem setSst_afc (s : State) (x : Sst) : (s.setSst x).afc = s.afc := rfl
@[simp] theorem setSst_fau (s : State) (x : Sst) : (s.setSst x).fau = s.fau := rfl
@[simp] theorem setSst_crd (s : State) (x : Sst) : (s.setSst x).crd = s.crd := rfl
@[simp] theorem setSst_drc (s : State) (x : Sst) : (s.setSst x).drc = s.drc := rfl
@[simp] theorem setSst_cdc (s : State) (x : Sst) : (s.setSst x).cdc = s.cdc := rfl
@[simp] theorem setSst_tlg (s : State) (x : Sst) : (s.setSst x).tlg = s.tlg := rfl
@[simp] theorem setSst_prt (s : State) (x : Sst) : (s.setSst x).prt = s.prt := rfl
@[simp] theorem setSst_sst (s : State) (x : Sst) : (s.setSst x).sst = x := rfl

/-! ### advance -/

@[simp] theorem advance_pending (s : State) (ms : Nat) : (s.advance ms).pending = s.pending := rfl
@[simp] theorem advance_now (s : State) (ms : Nat) : (s.advance ms).now = s.now + ms := rfl
@[simp] theorem advance_free (s : State) (ms : Nat) : (s.advance ms).free = s.free := rfl
@[simp] theorem advance_supply (s : State) (ms : Nat) : (s.advance ms).supply = s.supply := rfl
@[simp] theorem advance_resetnLow (s : State) (ms : Nat) : (s.advance ms).resetnLow = s.resetnLow := rfl
@[simp] theorem advance_kind (s : State) (ms : Nat) : (s.advance ms).kind = s.kind := rfl
@[simp] theorem advance_pins (s : State) (ms : Nat) : (s.advance ms).pins = s.pins := rfl
@[simp] theorem advance_store (s : State) (ms : Nat) : (s.advance ms).store = s.store := rfl
@[simp] theorem advance_sfe (s : State) (ms : Nat) : (s.advance ms).sfe = s.sfe.advance ms := rfl
@[simp] theorem advance_dar (s : State) (ms : Nat) : (s.advance ms).dar = s.dar.advance ms := rfl
@[simp] theorem advance_afc (s : State) (ms : Nat) : (s.advance ms).afc = s.afc.advance ms := rfl
@[simp] theorem advance_fau (s : State) (ms : Nat) : (s.advance ms).fau = s.fau.advance ms := rfl
@[simp] theorem advance_crd (s : State) (ms : Nat) : (s.advance ms).crd = s.crd.advance ms := rfl
@[simp] theorem advance_drc (s : State) (ms : Nat) : (s.advance ms).drc = s.drc.advance ms := rfl
@[simp] theorem advance_cdc (s : State) (ms : Nat) : (s.advance ms).cdc = s.cdc.advance ms := rfl
@[simp] theorem advance_tlg (s : State) (ms : Nat) : (s.advance ms).tlg = s.tlg.advance ms := rfl
@[simp] theorem advance_prt (s : State) (ms : Nat) : (s.advance ms).prt = s.prt.advance ms := rfl
@[simp] theorem advance_sst (s : State) (ms : Nat) : (s.advance ms).sst = s.sst.advance ms := rfl

end Sys2Proof.Machine
end

