-- ==== Sys2Proof/Laws/Frames.lean ====
section
/-! SUPPORT. For each shared operation, the parts of the state it may change (`…_sameBut`) and, as rewrite rules, the
fields it leaves as they were (`…_frame`). -/

namespace Sys2Proof.Machine

/-- A list fold of operations that each keep a field keeps it. -/
theorem foldl_keeps {α β γ : Type} (f : β → γ) (g : β → α → β) (h : ∀ b a, f (g b a) = f b) (l : List α) (b : β) :
    f (l.foldl g b) = f b := by
  induction l generalizing b with
  | nil => rfl
  | cons x xs ih => simp [ih, h]

/-! ### Flags, the log and checkpoints -/

@[simp] theorem raise_frame (s : State) (bits : Port → BitVec 16) :
    (s.raise bits).pending = s.pending ∧ (s.raise bits).now = s.now ∧ (s.raise bits).free = s.free ∧
    (s.raise bits).supply = s.supply ∧ (s.raise bits).resetnLow = s.resetnLow ∧ (s.raise bits).kind = s.kind ∧
    (s.raise bits).pins = s.pins ∧ (s.raise bits).store = s.store ∧ (s.raise bits).sfe = s.sfe ∧
    (s.raise bits).dar = s.dar ∧ (s.raise bits).afc = s.afc ∧ (s.raise bits).fau = s.fau ∧
    (s.raise bits).crd = s.crd ∧ (s.raise bits).drc = s.drc ∧ (s.raise bits).cdc = s.cdc ∧
    (s.raise bits).tlg = s.tlg ∧ (s.raise bits).sst = s.sst :=
  ⟨rfl, rfl, rfl, rfl, rfl, rfl, rfl, rfl, rfl, rfl, rfl, rfl, rfl, rfl, rfl, rfl, rfl⟩

@[simp] theorem post_frame (s : State) (p : Port) (f : Flag) :
    (s.post p f).pending = s.pending ∧ (s.post p f).now = s.now ∧ (s.post p f).free = s.free ∧
    (s.post p f).supply = s.supply ∧ (s.post p f).resetnLow = s.resetnLow ∧ (s.post p f).kind = s.kind ∧
    (s.post p f).pins = s.pins ∧ (s.post p f).store = s.store ∧ (s.post p f).sfe = s.sfe ∧
    (s.post p f).dar = s.dar ∧ (s.post p f).afc = s.afc ∧ (s.post p f).fau = s.fau ∧ (s.post p f).crd = s.crd ∧
    (s.post p f).drc = s.drc ∧ (s.post p f).cdc = s.cdc ∧ (s.post p f).tlg = s.tlg ∧ (s.post p f).sst = s.sst :=
  ⟨rfl, rfl, rfl, rfl, rfl, rfl, rfl, rfl, rfl, rfl, rfl, rfl, rfl, rfl, rfl, rfl, rfl⟩

@[simp] theorem postAll_frame (s : State) (f : Flag) :
    (s.postAll f).pending = s.pending ∧ (s.postAll f).now = s.now ∧ (s.postAll f).free = s.free ∧
    (s.postAll f).supply = s.supply ∧ (s.postAll f).resetnLow = s.resetnLow ∧ (s.postAll f).kind = s.kind ∧
    (s.postAll f).pins = s.pins ∧ (s.postAll f).store = s.store ∧ (s.postAll f).sfe = s.sfe ∧
    (s.postAll f).dar = s.dar ∧ (s.postAll f).afc = s.afc ∧ (s.postAll f).fau = s.fau ∧
    (s.postAll f).crd = s.crd ∧ (s.postAll f).drc = s.drc ∧ (s.postAll f).cdc = s.cdc ∧
    (s.postAll f).tlg = s.tlg ∧ (s.postAll f).sst = s.sst :=
  ⟨rfl, rfl, rfl, rfl, rfl, rfl, rfl, rfl, rfl, rfl, rfl, rfl, rfl, rfl, rfl, rfl, rfl⟩

@[simp] theorem write_frame (s : State) (body : RecordBody) :
    (s.write body).pending = s.pending ∧ (s.write body).now = s.now ∧ (s.write body).free = s.free ∧
    (s.write body).supply = s.supply ∧ (s.write body).resetnLow = s.resetnLow ∧ (s.write body).kind = s.kind ∧
    (s.write body).pins = s.pins ∧ (s.write body).store = s.store ∧ (s.write body).sfe = s.sfe ∧
    (s.write body).dar = s.dar ∧ (s.write body).afc = s.afc ∧ (s.write body).fau = s.fau ∧
    (s.write body).crd = s.crd ∧ (s.write body).drc = s.drc ∧ (s.write body).cdc = s.cdc ∧
    (s.write body).sst = s.sst :=
  ⟨rfl, rfl, rfl, rfl, rfl, rfl, rfl, rfl, rfl, rfl, rfl, rfl, rfl, rfl, rfl, rfl⟩

@[simp] theorem log_frame (s : State) (e : Event) :
    (s.log e).pending = s.pending ∧ (s.log e).now = s.now ∧ (s.log e).free = s.free ∧
    (s.log e).supply = s.supply ∧ (s.log e).resetnLow = s.resetnLow ∧ (s.log e).kind = s.kind ∧
    (s.log e).pins = s.pins ∧ (s.log e).store = s.store ∧ (s.log e).sfe = s.sfe ∧ (s.log e).dar = s.dar ∧
    (s.log e).afc = s.afc ∧ (s.log e).fau = s.fau ∧ (s.log e).crd = s.crd ∧ (s.log e).drc = s.drc ∧
    (s.log e).cdc = s.cdc ∧ (s.log e).sst = s.sst :=
  ⟨rfl, rfl, rfl, rfl, rfl, rfl, rfl, rfl, rfl, rfl, rfl, rfl, rfl, rfl, rfl, rfl⟩

@[simp] theorem beginWrite_frame (s : State) (rs : RegionSet) :
    (s.beginWrite rs).pending = s.pending ∧ (s.beginWrite rs).now = s.now ∧ (s.beginWrite rs).free = s.free ∧
    (s.beginWrite rs).supply = s.supply ∧ (s.beginWrite rs).resetnLow = s.resetnLow ∧
    (s.beginWrite rs).kind = s.kind ∧ (s.beginWrite rs).pins = s.pins ∧ (s.beginWrite rs).store = s.store ∧
    (s.beginWrite rs).sfe = s.sfe ∧ (s.beginWrite rs).dar = s.dar ∧ (s.beginWrite rs).afc = s.afc ∧
    (s.beginWrite rs).crd = s.crd ∧ (s.beginWrite rs).drc = s.drc ∧ (s.beginWrite rs).cdc = s.cdc ∧
    (s.beginWrite rs).tlg = s.tlg ∧ (s.beginWrite rs).prt = s.prt :=
  ⟨rfl, rfl, rfl, rfl, rfl, rfl, rfl, rfl, rfl, rfl, rfl, rfl, rfl, rfl, rfl, rfl⟩

@[simp] theorem joinPending_frame (s : State) (rs : RegionSet) :
    (s.joinPending rs).pending = s.pending ∧ (s.joinPending rs).now = s.now ∧ (s.joinPending rs).free = s.free ∧
    (s.joinPending rs).supply = s.supply ∧ (s.joinPending rs).resetnLow = s.resetnLow ∧
    (s.joinPending rs).kind = s.kind ∧ (s.joinPending rs).pins = s.pins ∧ (s.joinPending rs).store = s.store ∧
    (s.joinPending rs).sfe = s.sfe ∧ (s.joinPending rs).dar = s.dar ∧ (s.joinPending rs).afc = s.afc ∧
    (s.joinPending rs).fau = s.fau ∧ (s.joinPending rs).crd = s.crd ∧ (s.joinPending rs).drc = s.drc ∧
    (s.joinPending rs).cdc = s.cdc ∧ (s.joinPending rs).tlg = s.tlg ∧ (s.joinPending rs).prt = s.prt :=
  ⟨rfl, rfl, rfl, rfl, rfl, rfl, rfl, rfl, rfl, rfl, rfl, rfl, rfl, rfl, rfl, rfl, rfl⟩

theorem request_sameBut (s : State) (rs : RegionSet) : (s.request rs).sameBut s [.fau, .sst] := by
  unfold State.request
  try dsimp only
  repeat' split
  all_goals (intro b hb; cases b <;> first | simp [State.sameAt]; done | simp at hb; done)

@[simp] theorem request_frame (s : State) (rs : RegionSet) :
    (s.request rs).pending = s.pending ∧ (s.request rs).now = s.now ∧ (s.request rs).free = s.free ∧
    (s.request rs).supply = s.supply ∧ (s.request rs).resetnLow = s.resetnLow ∧ (s.request rs).kind = s.kind ∧
    (s.request rs).pins = s.pins ∧ (s.request rs).store = s.store ∧ (s.request rs).sfe = s.sfe ∧
    (s.request rs).dar = s.dar ∧ (s.request rs).afc = s.afc ∧ (s.request rs).crd = s.crd ∧
    (s.request rs).drc = s.drc ∧ (s.request rs).cdc = s.cdc ∧ (s.request rs).tlg = s.tlg ∧
    (s.request rs).prt = s.prt := by
  have h := request_sameBut s rs
  exact ⟨h .pending rfl, h .now rfl, h .free rfl, h .supply rfl, h .resetnLow rfl, h .kind rfl, h .pins rfl, h .store rfl, h .sfe rfl, h .dar rfl, h .afc rfl, h .crd rfl, h .drc rfl, h .cdc rfl, h .tlg rfl, h .prt rfl⟩

theorem respond_sameBut (s : State) (p : Port) (tag : Byte) (r : Reply) : (s.respond p tag r).sameBut s [.prt] := by
  unfold State.respond; (try dsimp only); split <;> (intro b hb; cases b <;> first | simp [State.sameAt]; done | simp at hb; done)

@[simp] theorem respond_frame (s : State) (p : Port) (tag : Byte) (r : Reply) :
    (s.respond p tag r).pending = s.pending ∧ (s.respond p tag r).now = s.now ∧
    (s.respond p tag r).free = s.free ∧ (s.respond p tag r).supply = s.supply ∧
    (s.respond p tag r).resetnLow = s.resetnLow ∧ (s.respond p tag r).kind = s.kind ∧
    (s.respond p tag r).pins = s.pins ∧ (s.respond p tag r).store = s.store ∧ (s.respond p tag r).sfe = s.sfe ∧
    (s.respond p tag r).dar = s.dar ∧ (s.respond p tag r).afc = s.afc ∧ (s.respond p tag r).fau = s.fau ∧
    (s.respond p tag r).crd = s.crd ∧ (s.respond p tag r).drc = s.drc ∧ (s.respond p tag r).cdc = s.cdc ∧
    (s.respond p tag r).tlg = s.tlg ∧ (s.respond p tag r).sst = s.sst := by
  have h := respond_sameBut s p tag r
  exact ⟨h .pending rfl, h .now rfl, h .free rfl, h .supply rfl, h .resetnLow rfl, h .kind rfl, h .pins rfl, h .store rfl, h .sfe rfl, h .dar rfl, h .afc rfl, h .fau rfl, h .crd rfl, h .drc rfl, h .cdc rfl, h .tlg rfl, h .sst rfl⟩

@[simp] theorem setRx_frame (s : State) (p : Port) (rx : Option (List Byte)) :
    (s.setRx p rx).pending = s.pending ∧ (s.setRx p rx).now = s.now ∧ (s.setRx p rx).free = s.free ∧
    (s.setRx p rx).supply = s.supply ∧ (s.setRx p rx).resetnLow = s.resetnLow ∧ (s.setRx p rx).kind = s.kind ∧
    (s.setRx p rx).pins = s.pins ∧ (s.setRx p rx).store = s.store ∧ (s.setRx p rx).sfe = s.sfe ∧
    (s.setRx p rx).dar = s.dar ∧ (s.setRx p rx).afc = s.afc ∧ (s.setRx p rx).fau = s.fau ∧
    (s.setRx p rx).crd = s.crd ∧ (s.setRx p rx).drc = s.drc ∧ (s.setRx p rx).cdc = s.cdc ∧
    (s.setRx p rx).tlg = s.tlg ∧ (s.setRx p rx).sst = s.sst :=
  ⟨rfl, rfl, rfl, rfl, rfl, rfl, rfl, rfl, rfl, rfl, rfl, rfl, rfl, rfl, rfl, rfl, rfl⟩

/-! ### Drying -/

theorem goto_sameBut (s : State) (st : DryState) : (s.goto st).sameBut s [.drc, .prt] := by
  unfold State.goto
  try dsimp only
  repeat' split
  all_goals (intro b hb; cases b <;> first | simp [State.sameAt]; done | simp at hb; done)

@[simp] theorem goto_frame (s : State) (st : DryState) :
    (s.goto st).pending = s.pending ∧ (s.goto st).now = s.now ∧ (s.goto st).free = s.free ∧
    (s.goto st).supply = s.supply ∧ (s.goto st).resetnLow = s.resetnLow ∧ (s.goto st).kind = s.kind ∧
    (s.goto st).pins = s.pins ∧ (s.goto st).store = s.store ∧ (s.goto st).sfe = s.sfe ∧
    (s.goto st).dar = s.dar ∧ (s.goto st).afc = s.afc ∧ (s.goto st).fau = s.fau ∧ (s.goto st).crd = s.crd ∧
    (s.goto st).cdc = s.cdc ∧ (s.goto st).tlg = s.tlg ∧ (s.goto st).sst = s.sst := by
  have h := goto_sameBut s st
  exact ⟨h .pending rfl, h .now rfl, h .free rfl, h .supply rfl, h .resetnLow rfl, h .kind rfl, h .pins rfl, h .store rfl, h .sfe rfl, h .dar rfl, h .afc rfl, h .fau rfl, h .crd rfl, h .cdc rfl, h .tlg rfl, h .sst rfl⟩

theorem startCompressor_sameBut (s : State) : (s.startCompressor).sameBut s [.drc, .prt] := by
  unfold State.startCompressor
  try dsimp only
  repeat' split
  all_goals (intro b hb; cases b <;> first | simp [State.sameAt]; done | simp at hb; done)

@[simp] theorem startCompressor_frame (s : State) :
    (s.startCompressor).pending = s.pending ∧ (s.startCompressor).now = s.now ∧
    (s.startCompressor).free = s.free ∧ (s.startCompressor).supply = s.supply ∧
    (s.startCompressor).resetnLow = s.resetnLow ∧ (s.startCompressor).kind = s.kind ∧
    (s.startCompressor).pins = s.pins ∧ (s.startCompressor).store = s.store ∧ (s.startCompressor).sfe = s.sfe ∧
    (s.startCompressor).dar = s.dar ∧ (s.startCompressor).afc = s.afc ∧ (s.startCompressor).fau = s.fau ∧
    (s.startCompressor).crd = s.crd ∧ (s.startCompressor).cdc = s.cdc ∧ (s.startCompressor).tlg = s.tlg ∧
    (s.startCompressor).sst = s.sst := by
  have h := startCompressor_sameBut s 
  exact ⟨h .pending rfl, h .now rfl, h .free rfl, h .supply rfl, h .resetnLow rfl, h .kind rfl, h .pins rfl, h .store rfl, h .sfe rfl, h .dar rfl, h .afc rfl, h .fau rfl, h .crd rfl, h .cdc rfl, h .tlg rfl, h .sst rfl⟩

theorem reenter_sameBut (s : State) : (s.reenter).sameBut s [.drc, .prt] := by
  unfold State.reenter
  try dsimp only
  repeat' split
  all_goals (intro b hb; cases b <;> first | simp [State.sameAt]; done | simp at hb; done)

@[simp] theorem reenter_frame (s : State) :
    (s.reenter).pending = s.pending ∧ (s.reenter).now = s.now ∧ (s.reenter).free = s.free ∧
    (s.reenter).supply = s.supply ∧ (s.reenter).resetnLow = s.resetnLow ∧ (s.reenter).kind = s.kind ∧
    (s.reenter).pins = s.pins ∧ (s.reenter).store = s.store ∧ (s.reenter).sfe = s.sfe ∧
    (s.reenter).dar = s.dar ∧ (s.reenter).afc = s.afc ∧ (s.reenter).fau = s.fau ∧ (s.reenter).crd = s.crd ∧
    (s.reenter).cdc = s.cdc ∧ (s.reenter).tlg = s.tlg ∧ (s.reenter).sst = s.sst := by
  have h := reenter_sameBut s 
  exact ⟨h .pending rfl, h .now rfl, h .free rfl, h .supply rfl, h .resetnLow rfl, h .kind rfl, h .pins rfl, h .store rfl, h .sfe rfl, h .dar rfl, h .afc rfl, h .fau rfl, h .crd rfl, h .cdc rfl, h .tlg rfl, h .sst rfl⟩

theorem rest_sameBut (s : State) : (s.rest).sameBut s [.drc, .prt] := by
  unfold State.rest
  try dsimp only
  repeat' split
  all_goals (intro b hb; cases b <;> first | simp [State.sameAt]; done | simp at hb; done)

@[simp] theorem rest_frame (s : State) :
    (s.rest).pending = s.pending ∧ (s.rest).now = s.now ∧ (s.rest).free = s.free ∧ (s.rest).supply = s.supply ∧
    (s.rest).resetnLow = s.resetnLow ∧ (s.rest).kind = s.kind ∧ (s.rest).pins = s.pins ∧
    (s.rest).store = s.store ∧ (s.rest).sfe = s.sfe ∧ (s.rest).dar = s.dar ∧ (s.rest).afc = s.afc ∧
    (s.rest).fau = s.fau ∧ (s.rest).crd = s.crd ∧ (s.rest).cdc = s.cdc ∧ (s.rest).tlg = s.tlg ∧
    (s.rest).sst = s.sst := by
  have h := rest_sameBut s 
  exact ⟨h .pending rfl, h .now rfl, h .free rfl, h .supply rfl, h .resetnLow rfl, h .kind rfl, h .pins rfl, h .store rfl, h .sfe rfl, h .dar rfl, h .afc rfl, h .fau rfl, h .crd rfl, h .cdc rfl, h .tlg rfl, h .sst rfl⟩

theorem enterPostRun_sameBut (s : State) : (s.enterPostRun).sameBut s [.drc, .prt] := by
  unfold State.enterPostRun
  try dsimp only
  repeat' split
  all_goals (intro b hb; cases b <;> first | simp [State.sameAt]; done | simp at hb; done)

@[simp] theorem enterPostRun_frame (s : State) :
    (s.enterPostRun).pending = s.pending ∧ (s.enterPostRun).now = s.now ∧ (s.enterPostRun).free = s.free ∧
    (s.enterPostRun).supply = s.supply ∧ (s.enterPostRun).resetnLow = s.resetnLow ∧
    (s.enterPostRun).kind = s.kind ∧ (s.enterPostRun).pins = s.pins ∧ (s.enterPostRun).store = s.store ∧
    (s.enterPostRun).sfe = s.sfe ∧ (s.enterPostRun).dar = s.dar ∧ (s.enterPostRun).afc = s.afc ∧
    (s.enterPostRun).fau = s.fau ∧ (s.enterPostRun).crd = s.crd ∧ (s.enterPostRun).cdc = s.cdc ∧
    (s.enterPostRun).tlg = s.tlg ∧ (s.enterPostRun).sst = s.sst := by
  have h := enterPostRun_sameBut s 
  exact ⟨h .pending rfl, h .now rfl, h .free rfl, h .supply rfl, h .resetnLow rfl, h .kind rfl, h .pins rfl, h .store rfl, h .sfe rfl, h .dar rfl, h .afc rfl, h .fau rfl, h .crd rfl, h .cdc rfl, h .tlg rfl, h .sst rfl⟩

theorem normalStopNow_sameBut (s : State) : (s.normalStopNow).sameBut s [.drc, .prt] := by
  unfold State.normalStopNow
  try dsimp only
  repeat' split
  all_goals (intro b hb; cases b <;> first | simp [State.sameAt]; done | simp at hb; done)

@[simp] theorem normalStopNow_frame (s : State) :
    (s.normalStopNow).pending = s.pending ∧ (s.normalStopNow).now = s.now ∧ (s.normalStopNow).free = s.free ∧
    (s.normalStopNow).supply = s.supply ∧ (s.normalStopNow).resetnLow = s.resetnLow ∧
    (s.normalStopNow).kind = s.kind ∧ (s.normalStopNow).pins = s.pins ∧ (s.normalStopNow).store = s.store ∧
    (s.normalStopNow).sfe = s.sfe ∧ (s.normalStopNow).dar = s.dar ∧ (s.normalStopNow).afc = s.afc ∧
    (s.normalStopNow).fau = s.fau ∧ (s.normalStopNow).crd = s.crd ∧ (s.normalStopNow).cdc = s.cdc ∧
    (s.normalStopNow).tlg = s.tlg ∧ (s.normalStopNow).sst = s.sst := by
  have h := normalStopNow_sameBut s 
  exact ⟨h .pending rfl, h .now rfl, h .free rfl, h .supply rfl, h .resetnLow rfl, h .kind rfl, h .pins rfl, h .store rfl, h .sfe rfl, h .dar rfl, h .afc rfl, h .fau rfl, h .crd rfl, h .cdc rfl, h .tlg rfl, h .sst rfl⟩

theorem safetyStopNow_sameBut (s : State) : (s.safetyStopNow).sameBut s [.drc, .prt] := by
  unfold State.safetyStopNow
  try dsimp only
  repeat' split
  all_goals (intro b hb; cases b <;> first | simp [State.sameAt]; done | simp at hb; done)

@[simp] theorem safetyStopNow_frame (s : State) :
    (s.safetyStopNow).pending = s.pending ∧ (s.safetyStopNow).now = s.now ∧ (s.safetyStopNow).free = s.free ∧
    (s.safetyStopNow).supply = s.supply ∧ (s.safetyStopNow).resetnLow = s.resetnLow ∧
    (s.safetyStopNow).kind = s.kind ∧ (s.safetyStopNow).pins = s.pins ∧ (s.safetyStopNow).store = s.store ∧
    (s.safetyStopNow).sfe = s.sfe ∧ (s.safetyStopNow).dar = s.dar ∧ (s.safetyStopNow).afc = s.afc ∧
    (s.safetyStopNow).fau = s.fau ∧ (s.safetyStopNow).crd = s.crd ∧ (s.safetyStopNow).cdc = s.cdc ∧
    (s.safetyStopNow).tlg = s.tlg ∧ (s.safetyStopNow).sst = s.sst := by
  have h := safetyStopNow_sameBut s 
  exact ⟨h .pending rfl, h .now rfl, h .free rfl, h .supply rfl, h .resetnLow rfl, h .kind rfl, h .pins rfl, h .store rfl, h .sfe rfl, h .dar rfl, h .afc rfl, h .fau rfl, h .crd rfl, h .cdc rfl, h .tlg rfl, h .sst rfl⟩

theorem enterLockout_sameBut (s : State) (r : LockReason) : (s.enterLockout r).sameBut s [.fau, .drc, .tlg, .prt, .sst] := by
  unfold State.enterLockout
  try dsimp only
  repeat' split
  all_goals (intro b hb; cases b <;> first | simp [State.sameAt]; done | simp at hb; done)

@[simp] theorem enterLockout_frame (s : State) (r : LockReason) :
    (s.enterLockout r).pending = s.pending ∧ (s.enterLockout r).now = s.now ∧ (s.enterLockout r).free = s.free ∧
    (s.enterLockout r).supply = s.supply ∧ (s.enterLockout r).resetnLow = s.resetnLow ∧
    (s.enterLockout r).kind = s.kind ∧ (s.enterLockout r).pins = s.pins ∧ (s.enterLockout r).store = s.store ∧
    (s.enterLockout r).sfe = s.sfe ∧ (s.enterLockout r).dar = s.dar ∧ (s.enterLockout r).afc = s.afc ∧
    (s.enterLockout r).crd = s.crd ∧ (s.enterLockout r).cdc = s.cdc := by
  have h := enterLockout_sameBut s r
  exact ⟨h .pending rfl, h .now rfl, h .free rfl, h .supply rfl, h .resetnLow rfl, h .kind rfl, h .pins rfl, h .store rfl, h .sfe rfl, h .dar rfl, h .afc rfl, h .crd rfl, h .cdc rfl⟩

theorem enterDefrost_sameBut (s : State) (c : DefrostCause) : (s.enterDefrost c).sameBut s [.drc, .tlg, .prt] := by
  unfold State.enterDefrost
  try dsimp only
  repeat' split
  all_goals (intro b hb; cases b <;> first | simp [State.sameAt]; done | simp at hb; done)

@[simp] theorem enterDefrost_frame (s : State) (c : DefrostCause) :
    (s.enterDefrost c).pending = s.pending ∧ (s.enterDefrost c).now = s.now ∧ (s.enterDefrost c).free = s.free ∧
    (s.enterDefrost c).supply = s.supply ∧ (s.enterDefrost c).resetnLow = s.resetnLow ∧
    (s.enterDefrost c).kind = s.kind ∧ (s.enterDefrost c).pins = s.pins ∧ (s.enterDefrost c).store = s.store ∧
    (s.enterDefrost c).sfe = s.sfe ∧ (s.enterDefrost c).dar = s.dar ∧ (s.enterDefrost c).afc = s.afc ∧
    (s.enterDefrost c).fau = s.fau ∧ (s.enterDefrost c).crd = s.crd ∧ (s.enterDefrost c).cdc = s.cdc ∧
    (s.enterDefrost c).sst = s.sst := by
  have h := enterDefrost_sameBut s c
  exact ⟨h .pending rfl, h .now rfl, h .free rfl, h .supply rfl, h .resetnLow rfl, h .kind rfl, h .pins rfl, h .store rfl, h .sfe rfl, h .dar rfl, h .afc rfl, h .fau rfl, h .crd rfl, h .cdc rfl, h .sst rfl⟩

theorem drcRule_sameBut (s : State) : (s.drcRule).sameBut s [.fau, .drc, .tlg, .prt, .sst] := by
  unfold State.drcRule
  try dsimp only
  repeat' split
  all_goals (intro b hb; cases b <;> first | simp [State.sameAt]; done | simp at hb; done)

@[simp] theorem drcRule_frame (s : State) :
    (s.drcRule).pending = s.pending ∧ (s.drcRule).now = s.now ∧ (s.drcRule).free = s.free ∧
    (s.drcRule).supply = s.supply ∧ (s.drcRule).resetnLow = s.resetnLow ∧ (s.drcRule).kind = s.kind ∧
    (s.drcRule).pins = s.pins ∧ (s.drcRule).store = s.store ∧ (s.drcRule).sfe = s.sfe ∧
    (s.drcRule).dar = s.dar ∧ (s.drcRule).afc = s.afc ∧ (s.drcRule).crd = s.crd ∧ (s.drcRule).cdc = s.cdc := by
  have h := drcRule_sameBut s 
  exact ⟨h .pending rfl, h .now rfl, h .free rfl, h .supply rfl, h .resetnLow rfl, h .kind rfl, h .pins rfl, h .store rfl, h .sfe rfl, h .dar rfl, h .afc rfl, h .crd rfl, h .cdc rfl⟩

@[simp] theorem marks_frame (s : State) :
    (s.marks).pending = s.pending ∧ (s.marks).now = s.now ∧ (s.marks).free = s.free ∧
    (s.marks).supply = s.supply ∧ (s.marks).resetnLow = s.resetnLow ∧ (s.marks).kind = s.kind ∧
    (s.marks).pins = s.pins ∧ (s.marks).store = s.store ∧ (s.marks).sfe = s.sfe ∧ (s.marks).dar = s.dar ∧
    (s.marks).afc = s.afc ∧ (s.marks).fau = s.fau ∧ (s.marks).crd = s.crd ∧ (s.marks).cdc = s.cdc ∧
    (s.marks).tlg = s.tlg ∧ (s.marks).prt = s.prt ∧ (s.marks).sst = s.sst :=
  ⟨rfl, rfl, rfl, rfl, rfl, rfl, rfl, rfl, rfl, rfl, rfl, rfl, rfl, rfl, rfl, rfl, rfl⟩

@[simp] theorem publish_frame (s : State) :
    (s.publish).pending = s.pending ∧ (s.publish).now = s.now ∧ (s.publish).free = s.free ∧
    (s.publish).supply = s.supply ∧ (s.publish).resetnLow = s.resetnLow ∧ (s.publish).kind = s.kind ∧
    (s.publish).pins = s.pins ∧ (s.publish).store = s.store ∧ (s.publish).sfe = s.sfe ∧
    (s.publish).dar = s.dar ∧ (s.publish).crd = s.crd ∧ (s.publish).drc = s.drc ∧ (s.publish).cdc = s.cdc ∧
    (s.publish).tlg = s.tlg ∧ (s.publish).prt = s.prt ∧ (s.publish).sst = s.sst :=
  ⟨rfl, rfl, rfl, rfl, rfl, rfl, rfl, rfl, rfl, rfl, rfl, rfl, rfl, rfl, rfl, rfl⟩

@[simp] theorem handNeed_frame (s : State) :
    (s.handNeed).pending = s.pending ∧ (s.handNeed).now = s.now ∧ (s.handNeed).free = s.free ∧
    (s.handNeed).supply = s.supply ∧ (s.handNeed).resetnLow = s.resetnLow ∧ (s.handNeed).kind = s.kind ∧
    (s.handNeed).pins = s.pins ∧ (s.handNeed).store = s.store ∧ (s.handNeed).sfe = s.sfe ∧
    (s.handNeed).dar = s.dar ∧ (s.handNeed).fau = s.fau ∧ (s.handNeed).crd = s.crd ∧ (s.handNeed).drc = s.drc ∧
    (s.handNeed).cdc = s.cdc ∧ (s.handNeed).tlg = s.tlg ∧ (s.handNeed).prt = s.prt ∧ (s.handNeed).sst = s.sst :=
  ⟨rfl, rfl, rfl, rfl, rfl, rfl, rfl, rfl, rfl, rfl, rfl, rfl, rfl, rfl, rfl, rfl, rfl⟩

theorem settle_sameBut (s : State) : (s.settle).sameBut s [.afc, .fau, .drc, .tlg, .prt, .sst] := by
  unfold State.settle
  try dsimp only
  repeat' split
  all_goals (intro b hb; cases b <;> first | simp [State.sameAt]; done | simp at hb; done)

@[simp] theorem settle_frame (s : State) :
    (s.settle).pending = s.pending ∧ (s.settle).now = s.now ∧ (s.settle).free = s.free ∧
    (s.settle).supply = s.supply ∧ (s.settle).resetnLow = s.resetnLow ∧ (s.settle).kind = s.kind ∧
    (s.settle).pins = s.pins ∧ (s.settle).store = s.store ∧ (s.settle).sfe = s.sfe ∧ (s.settle).dar = s.dar ∧
    (s.settle).crd = s.crd ∧ (s.settle).cdc = s.cdc := by
  have h := settle_sameBut s 
  exact ⟨h .pending rfl, h .now rfl, h .free rfl, h .supply rfl, h .resetnLow rfl, h .kind rfl, h .pins rfl, h .store rfl, h .sfe rfl, h .dar rfl, h .crd rfl, h .cdc rfl⟩

theorem coilReading_sameBut (s : State) (t : Int) : (s.coilReading t).sameBut s [.drc, .prt] := by
  unfold State.coilReading
  try dsimp only
  repeat' split
  all_goals (intro b hb; cases b <;> first | simp [State.sameAt]; done | simp at hb; done)

@[simp] theorem coilReading_frame (s : State) (t : Int) :
    (s.coilReading t).pending = s.pending ∧ (s.coilReading t).now = s.now ∧ (s.coilReading t).free = s.free ∧
    (s.coilReading t).supply = s.supply ∧ (s.coilReading t).resetnLow = s.resetnLow ∧
    (s.coilReading t).kind = s.kind ∧ (s.coilReading t).pins = s.pins ∧ (s.coilReading t).store = s.store ∧
    (s.coilReading t).sfe = s.sfe ∧ (s.coilReading t).dar = s.dar ∧ (s.coilReading t).afc = s.afc ∧
    (s.coilReading t).fau = s.fau ∧ (s.coilReading t).crd = s.crd ∧ (s.coilReading t).cdc = s.cdc ∧
    (s.coilReading t).tlg = s.tlg ∧ (s.coilReading t).sst = s.sst := by
  have h := coilReading_sameBut s t
  exact ⟨h .pending rfl, h .now rfl, h .free rfl, h .supply rfl, h .resetnLow rfl, h .kind rfl, h .pins rfl, h .store rfl, h .sfe rfl, h .dar rfl, h .afc rfl, h .fau rfl, h .crd rfl, h .cdc rfl, h .tlg rfl, h .sst rfl⟩

theorem pulldownFailed_sameBut (s : State) : (s.pulldownFailed).sameBut s [.afc, .fau, .drc, .tlg, .prt, .sst] := by
  unfold State.pulldownFailed
  try dsimp only
  repeat' split
  all_goals (intro b hb; cases b <;> first | simp [State.sameAt]; done | simp at hb; done)

@[simp] theorem pulldownFailed_frame (s : State) :
    (s.pulldownFailed).pending = s.pending ∧ (s.pulldownFailed).now = s.now ∧ (s.pulldownFailed).free = s.free ∧
    (s.pulldownFailed).supply = s.supply ∧ (s.pulldownFailed).resetnLow = s.resetnLow ∧
    (s.pulldownFailed).kind = s.kind ∧ (s.pulldownFailed).pins = s.pins ∧ (s.pulldownFailed).store = s.store ∧
    (s.pulldownFailed).sfe = s.sfe ∧ (s.pulldownFailed).dar = s.dar ∧ (s.pulldownFailed).crd = s.crd ∧
    (s.pulldownFailed).cdc = s.cdc := by
  have h := pulldownFailed_sameBut s 
  exact ⟨h .pending rfl, h .now rfl, h .free rfl, h .supply rfl, h .resetnLow rfl, h .kind rfl, h .pins rfl, h .store rfl, h .sfe rfl, h .dar rfl, h .crd rfl, h .cdc rfl⟩

theorem defrostTimedOut_sameBut (s : State) : (s.defrostTimedOut).sameBut s [.afc, .fau, .drc, .tlg, .prt, .sst] := by
  unfold State.defrostTimedOut
  try dsimp only
  repeat' split
  all_goals (intro b hb; cases b <;> first | simp [State.sameAt]; done | simp at hb; done)

@[simp] theorem defrostTimedOut_frame (s : State) :
    (s.defrostTimedOut).pending = s.pending ∧ (s.defrostTimedOut).now = s.now ∧
    (s.defrostTimedOut).free = s.free ∧ (s.defrostTimedOut).supply = s.supply ∧
    (s.defrostTimedOut).resetnLow = s.resetnLow ∧ (s.defrostTimedOut).kind = s.kind ∧
    (s.defrostTimedOut).pins = s.pins ∧ (s.defrostTimedOut).store = s.store ∧ (s.defrostTimedOut).sfe = s.sfe ∧
    (s.defrostTimedOut).dar = s.dar ∧ (s.defrostTimedOut).crd = s.crd ∧ (s.defrostTimedOut).cdc = s.cdc := by
  have h := defrostTimedOut_sameBut s 
  exact ⟨h .pending rfl, h .now rfl, h .free rfl, h .supply rfl, h .resetnLow rfl, h .kind rfl, h .pins rfl, h .store rfl, h .sfe rfl, h .dar rfl, h .crd rfl, h .cdc rfl⟩

/-! ### Filters and cartridges -/

theorem postFilter_sameBut (s : State) (st : Stage) (old new : StageState) : (s.postFilter st old new).sameBut s [.fau, .tlg, .prt, .sst] := by
  unfold State.postFilter
  try dsimp only
  repeat' split
  all_goals (intro b hb; cases b <;> first | simp [State.sameAt]; done | simp at hb; done)

@[simp] theorem postFilter_frame (s : State) (st : Stage) (old new : StageState) :
    (s.postFilter st old new).pending = s.pending ∧ (s.postFilter st old new).now = s.now ∧
    (s.postFilter st old new).free = s.free ∧ (s.postFilter st old new).supply = s.supply ∧
    (s.postFilter st old new).resetnLow = s.resetnLow ∧ (s.postFilter st old new).kind = s.kind ∧
    (s.postFilter st old new).pins = s.pins ∧ (s.postFilter st old new).store = s.store ∧
    (s.postFilter st old new).sfe = s.sfe ∧ (s.postFilter st old new).dar = s.dar ∧
    (s.postFilter st old new).afc = s.afc ∧ (s.postFilter st old new).crd = s.crd ∧
    (s.postFilter st old new).drc = s.drc ∧ (s.postFilter st old new).cdc = s.cdc := by
  have h := postFilter_sameBut s st old new
  exact ⟨h .pending rfl, h .now rfl, h .free rfl, h .supply rfl, h .resetnLow rfl, h .kind rfl, h .pins rfl, h .store rfl, h .sfe rfl, h .dar rfl, h .afc rfl, h .crd rfl, h .drc rfl, h .cdc rfl⟩

theorem filterEvents_sameBut (s : State) (b : State) : (s.filterEvents b).sameBut s [.fau, .tlg, .prt, .sst] := by
  unfold State.filterEvents
  try dsimp only
  repeat' split
  all_goals (intro b hb; cases b <;> first | simp [State.sameAt]; done | simp at hb; done)

@[simp] theorem filterEvents_frame (s : State) (b : State) :
    (s.filterEvents b).pending = s.pending ∧ (s.filterEvents b).now = s.now ∧ (s.filterEvents b).free = s.free ∧
    (s.filterEvents b).supply = s.supply ∧ (s.filterEvents b).resetnLow = s.resetnLow ∧
    (s.filterEvents b).kind = s.kind ∧ (s.filterEvents b).pins = s.pins ∧ (s.filterEvents b).store = s.store ∧
    (s.filterEvents b).sfe = s.sfe ∧ (s.filterEvents b).dar = s.dar ∧ (s.filterEvents b).afc = s.afc ∧
    (s.filterEvents b).crd = s.crd ∧ (s.filterEvents b).drc = s.drc ∧ (s.filterEvents b).cdc = s.cdc := by
  have h := filterEvents_sameBut s b
  exact ⟨h .pending rfl, h .now rfl, h .free rfl, h .supply rfl, h .resetnLow rfl, h .kind rfl, h .pins rfl, h .store rfl, h .sfe rfl, h .dar rfl, h .afc rfl, h .crd rfl, h .drc rfl, h .cdc rfl⟩

theorem countTick_sameBut (s : State) (r : LastTick) : (s.countTick r).sameBut s [.fau, .sst] := by
  unfold State.countTick
  try dsimp only
  repeat' split
  all_goals (intro b hb; cases b <;> first | simp [State.sameAt]; done | simp at hb; done)

@[simp] theorem countTick_frame (s : State) (r : LastTick) :
    (s.countTick r).pending = s.pending ∧ (s.countTick r).now = s.now ∧ (s.countTick r).free = s.free ∧
    (s.countTick r).supply = s.supply ∧ (s.countTick r).resetnLow = s.resetnLow ∧
    (s.countTick r).kind = s.kind ∧ (s.countTick r).pins = s.pins ∧ (s.countTick r).store = s.store ∧
    (s.countTick r).sfe = s.sfe ∧ (s.countTick r).dar = s.dar ∧ (s.countTick r).afc = s.afc ∧
    (s.countTick r).crd = s.crd ∧ (s.countTick r).drc = s.drc ∧ (s.countTick r).cdc = s.cdc ∧
    (s.countTick r).tlg = s.tlg ∧ (s.countTick r).prt = s.prt := by
  have h := countTick_sameBut s r
  exact ⟨h .pending rfl, h .now rfl, h .free rfl, h .supply rfl, h .resetnLow rfl, h .kind rfl, h .pins rfl, h .store rfl, h .sfe rfl, h .dar rfl, h .afc rfl, h .crd rfl, h .drc rfl, h .cdc rfl, h .tlg rfl, h .prt rfl⟩

theorem tick_sameBut (s : State) : (s.tick).sameBut s [.afc, .fau, .drc, .tlg, .prt, .sst] := by
  unfold State.tick
  try dsimp only
  repeat' split
  all_goals (intro b hb; cases b <;> first | simp [State.sameAt]; done | simp at hb; done)

@[simp] theorem tick_frame (s : State) :
    (s.tick).pending = s.pending ∧ (s.tick).now = s.now ∧ (s.tick).free = s.free ∧ (s.tick).supply = s.supply ∧
    (s.tick).resetnLow = s.resetnLow ∧ (s.tick).kind = s.kind ∧ (s.tick).pins = s.pins ∧
    (s.tick).store = s.store ∧ (s.tick).sfe = s.sfe ∧ (s.tick).dar = s.dar ∧ (s.tick).crd = s.crd ∧
    (s.tick).cdc = s.cdc := by
  have h := tick_sameBut s 
  exact ⟨h .pending rfl, h .now rfl, h .free rfl, h .supply rfl, h .resetnLow rfl, h .kind rfl, h .pins rfl, h .store rfl, h .sfe rfl, h .dar rfl, h .crd rfl, h .cdc rfl⟩

theorem changeAccount_sameBut (s : State) (st : Stage) (a : Account) : (s.changeAccount st a).sameBut s [.afc, .fau, .drc, .tlg, .prt, .sst] := by
  unfold State.changeAccount
  try dsimp only
  repeat' split
  all_goals (intro b hb; cases b <;> first | simp [State.sameAt]; done | simp at hb; done)

@[simp] theorem changeAccount_frame (s : State) (st : Stage) (a : Account) :
    (s.changeAccount st a).pending = s.pending ∧ (s.changeAccount st a).now = s.now ∧
    (s.changeAccount st a).free = s.free ∧ (s.changeAccount st a).supply = s.supply ∧
    (s.changeAccount st a).resetnLow = s.resetnLow ∧ (s.changeAccount st a).kind = s.kind ∧
    (s.changeAccount st a).pins = s.pins ∧ (s.changeAccount st a).store = s.store ∧
    (s.changeAccount st a).sfe = s.sfe ∧ (s.changeAccount st a).dar = s.dar ∧
    (s.changeAccount st a).crd = s.crd ∧ (s.changeAccount st a).cdc = s.cdc := by
  have h := changeAccount_sameBut s st a
  exact ⟨h .pending rfl, h .now rfl, h .free rfl, h .supply rfl, h .resetnLow rfl, h .kind rfl, h .pins rfl, h .store rfl, h .sfe rfl, h .dar rfl, h .crd rfl, h .cdc rfl⟩

@[simp] theorem setSlot_frame (s : State) (st : Stage) (x : Slot) :
    (s.setSlot st x).pending = s.pending ∧ (s.setSlot st x).now = s.now ∧ (s.setSlot st x).free = s.free ∧
    (s.setSlot st x).supply = s.supply ∧ (s.setSlot st x).resetnLow = s.resetnLow ∧
    (s.setSlot st x).kind = s.kind ∧ (s.setSlot st x).pins = s.pins ∧ (s.setSlot st x).store = s.store ∧
    (s.setSlot st x).sfe = s.sfe ∧ (s.setSlot st x).dar = s.dar ∧ (s.setSlot st x).afc = s.afc ∧
    (s.setSlot st x).fau = s.fau ∧ (s.setSlot st x).drc = s.drc ∧ (s.setSlot st x).cdc = s.cdc ∧
    (s.setSlot st x).tlg = s.tlg ∧ (s.setSlot st x).prt = s.prt ∧ (s.setSlot st x).sst = s.sst :=
  ⟨rfl, rfl, rfl, rfl, rfl, rfl, rfl, rfl, rfl, rfl, rfl, rfl, rfl, rfl, rfl, rfl, rfl⟩

@[simp] theorem postCartridge_frame (s : State) (st : Stage) (v : CartridgeValue) :
    (s.postCartridge st v).pending = s.pending ∧ (s.postCartridge st v).now = s.now ∧
    (s.postCartridge st v).free = s.free ∧ (s.postCartridge st v).supply = s.supply ∧
    (s.postCartridge st v).resetnLow = s.resetnLow ∧ (s.postCartridge st v).kind = s.kind ∧
    (s.postCartridge st v).pins = s.pins ∧ (s.postCartridge st v).store = s.store ∧
    (s.postCartridge st v).sfe = s.sfe ∧ (s.postCartridge st v).dar = s.dar ∧
    (s.postCartridge st v).afc = s.afc ∧ (s.postCartridge st v).fau = s.fau ∧
    (s.postCartridge st v).crd = s.crd ∧ (s.postCartridge st v).drc = s.drc ∧
    (s.postCartridge st v).cdc = s.cdc ∧ (s.postCartridge st v).sst = s.sst := by
  unfold State.postCartridge
  simp

theorem addRecent_sameBut (s : State) (e : RecentEntry) : (s.addRecent e).sameBut s [.crd, .tlg, .prt] := by
  unfold State.addRecent
  try dsimp only
  repeat' split
  all_goals (intro b hb; cases b <;> first | simp [State.sameAt]; done | simp at hb; done)

@[simp] theorem addRecent_frame (s : State) (e : RecentEntry) :
    (s.addRecent e).pending = s.pending ∧ (s.addRecent e).now = s.now ∧ (s.addRecent e).free = s.free ∧
    (s.addRecent e).supply = s.supply ∧ (s.addRecent e).resetnLow = s.resetnLow ∧
    (s.addRecent e).kind = s.kind ∧ (s.addRecent e).pins = s.pins ∧ (s.addRecent e).store = s.store ∧
    (s.addRecent e).sfe = s.sfe ∧ (s.addRecent e).dar = s.dar ∧ (s.addRecent e).afc = s.afc ∧
    (s.addRecent e).fau = s.fau ∧ (s.addRecent e).drc = s.drc ∧ (s.addRecent e).cdc = s.cdc ∧
    (s.addRecent e).sst = s.sst := by
  have h := addRecent_sameBut s e
  exact ⟨h .pending rfl, h .now rfl, h .free rfl, h .supply rfl, h .resetnLow rfl, h .kind rfl, h .pins rfl, h .store rfl, h .sfe rfl, h .dar rfl, h .afc rfl, h .fau rfl, h .drc rfl, h .cdc rfl, h .sst rfl⟩

@[simp] theorem removeRecent_frame (s : State) (serial : BitVec 32) :
    (s.removeRecent serial).pending = s.pending ∧ (s.removeRecent serial).now = s.now ∧
    (s.removeRecent serial).free = s.free ∧ (s.removeRecent serial).supply = s.supply ∧
    (s.removeRecent serial).resetnLow = s.resetnLow ∧ (s.removeRecent serial).kind = s.kind ∧
    (s.removeRecent serial).pins = s.pins ∧ (s.removeRecent serial).store = s.store ∧
    (s.removeRecent serial).sfe = s.sfe ∧ (s.removeRecent serial).dar = s.dar ∧
    (s.removeRecent serial).afc = s.afc ∧ (s.removeRecent serial).fau = s.fau ∧
    (s.removeRecent serial).drc = s.drc ∧ (s.removeRecent serial).cdc = s.cdc ∧
    (s.removeRecent serial).tlg = s.tlg ∧ (s.removeRecent serial).prt = s.prt ∧
    (s.removeRecent serial).sst = s.sst :=
  ⟨rfl, rfl, rfl, rfl, rfl, rfl, rfl, rfl, rfl, rfl, rfl, rfl, rfl, rfl, rfl, rfl, rfl⟩

theorem keepOutgoing_sameBut (s : State) (st : Stage) : (s.keepOutgoing st).sameBut s [.crd, .tlg, .prt] := by
  unfold State.keepOutgoing
  try dsimp only
  repeat' split
  all_goals (intro b hb; cases b <;> first | simp [State.sameAt]; done | simp at hb; done)

@[simp] theorem keepOutgoing_frame (s : State) (st : Stage) :
    (s.keepOutgoing st).pending = s.pending ∧ (s.keepOutgoing st).now = s.now ∧
    (s.keepOutgoing st).free = s.free ∧ (s.keepOutgoing st).supply = s.supply ∧
    (s.keepOutgoing st).resetnLow = s.resetnLow ∧ (s.keepOutgoing st).kind = s.kind ∧
    (s.keepOutgoing st).pins = s.pins ∧ (s.keepOutgoing st).store = s.store ∧ (s.keepOutgoing st).sfe = s.sfe ∧
    (s.keepOutgoing st).dar = s.dar ∧ (s.keepOutgoing st).afc = s.afc ∧ (s.keepOutgoing st).fau = s.fau ∧
    (s.keepOutgoing st).drc = s.drc ∧ (s.keepOutgoing st).cdc = s.cdc ∧ (s.keepOutgoing st).sst = s.sst := by
  have h := keepOutgoing_sameBut s st
  exact ⟨h .pending rfl, h .now rfl, h .free rfl, h .supply rfl, h .resetnLow rfl, h .kind rfl, h .pins rfl, h .store rfl, h .sfe rfl, h .dar rfl, h .afc rfl, h .fau rfl, h .drc rfl, h .cdc rfl, h .sst rfl⟩

theorem bind_sameBut (s : State) (st : Stage) (a : Account) (v : CartridgeValue) : (s.bind st a v).sameBut s [.fau, .tlg, .prt, .sst] := by
  unfold State.bind
  try dsimp only
  repeat' split
  all_goals (intro b hb; cases b <;> first | simp [State.sameAt]; done | simp at hb; done)

@[simp] theorem bind_frame (s : State) (st : Stage) (a : Account) (v : CartridgeValue) :
    (s.bind st a v).pending = s.pending ∧ (s.bind st a v).now = s.now ∧ (s.bind st a v).free = s.free ∧
    (s.bind st a v).supply = s.supply ∧ (s.bind st a v).resetnLow = s.resetnLow ∧
    (s.bind st a v).kind = s.kind ∧ (s.bind st a v).pins = s.pins ∧ (s.bind st a v).store = s.store ∧
    (s.bind st a v).sfe = s.sfe ∧ (s.bind st a v).dar = s.dar ∧ (s.bind st a v).afc = s.afc ∧
    (s.bind st a v).crd = s.crd ∧ (s.bind st a v).drc = s.drc ∧ (s.bind st a v).cdc = s.cdc := by
  have h := bind_sameBut s st a v
  exact ⟨h .pending rfl, h .now rfl, h .free rfl, h .supply rfl, h .resetnLow rfl, h .kind rfl, h .pins rfl, h .store rfl, h .sfe rfl, h .dar rfl, h .afc rfl, h .crd rfl, h .drc rfl, h .cdc rfl⟩

theorem bindNewTagged_sameBut (s : State) (st : Stage) (tag : TagData) : (s.bindNewTagged st tag).sameBut s [.fau, .crd, .tlg, .prt, .sst] := by
  unfold State.bindNewTagged
  try dsimp only
  repeat' split
  all_goals (intro b hb; cases b <;> first | simp [State.sameAt]; done | simp at hb; done)

@[simp] theorem bindNewTagged_frame (s : State) (st : Stage) (tag : TagData) :
    (s.bindNewTagged st tag).pending = s.pending ∧ (s.bindNewTagged st tag).now = s.now ∧
    (s.bindNewTagged st tag).free = s.free ∧ (s.bindNewTagged st tag).supply = s.supply ∧
    (s.bindNewTagged st tag).resetnLow = s.resetnLow ∧ (s.bindNewTagged st tag).kind = s.kind ∧
    (s.bindNewTagged st tag).pins = s.pins ∧ (s.bindNewTagged st tag).store = s.store ∧
    (s.bindNewTagged st tag).sfe = s.sfe ∧ (s.bindNewTagged st tag).dar = s.dar ∧
    (s.bindNewTagged st tag).afc = s.afc ∧ (s.bindNewTagged st tag).drc = s.drc ∧
    (s.bindNewTagged st tag).cdc = s.cdc := by
  have h := bindNewTagged_sameBut s st tag
  exact ⟨h .pending rfl, h .now rfl, h .free rfl, h .supply rfl, h .resetnLow rfl, h .kind rfl, h .pins rfl, h .store rfl, h .sfe rfl, h .dar rfl, h .afc rfl, h .drc rfl, h .cdc rfl⟩

theorem bindTagged_sameBut (s : State) (st : Stage) (tag : TagData) : (s.bindTagged st tag).sameBut s [.fau, .crd, .tlg, .prt, .sst] := by
  unfold State.bindTagged
  try dsimp only
  repeat' split
  all_goals (intro b hb; cases b <;> first | simp [State.sameAt]; done | simp at hb; done)

@[simp] theorem bindTagged_frame (s : State) (st : Stage) (tag : TagData) :
    (s.bindTagged st tag).pending = s.pending ∧ (s.bindTagged st tag).now = s.now ∧
    (s.bindTagged st tag).free = s.free ∧ (s.bindTagged st tag).supply = s.supply ∧
    (s.bindTagged st tag).resetnLow = s.resetnLow ∧ (s.bindTagged st tag).kind = s.kind ∧
    (s.bindTagged st tag).pins = s.pins ∧ (s.bindTagged st tag).store = s.store ∧
    (s.bindTagged st tag).sfe = s.sfe ∧ (s.bindTagged st tag).dar = s.dar ∧ (s.bindTagged st tag).afc = s.afc ∧
    (s.bindTagged st tag).drc = s.drc ∧ (s.bindTagged st tag).cdc = s.cdc := by
  have h := bindTagged_sameBut s st tag
  exact ⟨h .pending rfl, h .now rfl, h .free rfl, h .supply rfl, h .resetnLow rfl, h .kind rfl, h .pins rfl, h .store rfl, h .sfe rfl, h .dar rfl, h .afc rfl, h .drc rfl, h .cdc rfl⟩

theorem bindUntagged_sameBut (s : State) (st : Stage) : (s.bindUntagged st).sameBut s [.fau, .crd, .tlg, .prt, .sst] := by
  unfold State.bindUntagged
  try dsimp only
  repeat' split
  all_goals (intro b hb; cases b <;> first | simp [State.sameAt]; done | simp at hb; done)

@[simp] theorem bindUntagged_frame (s : State) (st : Stage) :
    (s.bindUntagged st).pending = s.pending ∧ (s.bindUntagged st).now = s.now ∧
    (s.bindUntagged st).free = s.free ∧ (s.bindUntagged st).supply = s.supply ∧
    (s.bindUntagged st).resetnLow = s.resetnLow ∧ (s.bindUntagged st).kind = s.kind ∧
    (s.bindUntagged st).pins = s.pins ∧ (s.bindUntagged st).store = s.store ∧ (s.bindUntagged st).sfe = s.sfe ∧
    (s.bindUntagged st).dar = s.dar ∧ (s.bindUntagged st).afc = s.afc ∧ (s.bindUntagged st).drc = s.drc ∧
    (s.bindUntagged st).cdc = s.cdc := by
  have h := bindUntagged_sameBut s st
  exact ⟨h .pending rfl, h .now rfl, h .free rfl, h .supply rfl, h .resetnLow rfl, h .kind rfl, h .pins rfl, h .store rfl, h .sfe rfl, h .dar rfl, h .afc rfl, h .drc rfl, h .cdc rfl⟩

theorem enterMismatch_sameBut (s : State) (st : Stage) (c : MismatchCause) : (s.enterMismatch st c).sameBut s [.afc, .fau, .crd, .drc, .tlg, .prt, .sst] := by
  unfold State.enterMismatch
  try dsimp only
  repeat' split
  all_goals (intro b hb; cases b <;> first | simp [State.sameAt]; done | simp at hb; done)

@[simp] theorem enterMismatch_frame (s : State) (st : Stage) (c : MismatchCause) :
    (s.enterMismatch st c).pending = s.pending ∧ (s.enterMismatch st c).now = s.now ∧
    (s.enterMismatch st c).free = s.free ∧ (s.enterMismatch st c).supply = s.supply ∧
    (s.enterMismatch st c).resetnLow = s.resetnLow ∧ (s.enterMismatch st c).kind = s.kind ∧
    (s.enterMismatch st c).pins = s.pins ∧ (s.enterMismatch st c).store = s.store ∧
    (s.enterMismatch st c).sfe = s.sfe ∧ (s.enterMismatch st c).dar = s.dar ∧
    (s.enterMismatch st c).cdc = s.cdc := by
  have h := enterMismatch_sameBut s st c
  exact ⟨h .pending rfl, h .now rfl, h .free rfl, h .supply rfl, h .resetnLow rfl, h .kind rfl, h .pins rfl, h .store rfl, h .sfe rfl, h .dar rfl, h .cdc rfl⟩

theorem judgeGood_sameBut (s : State) (st : Stage) (tag : TagData) : (s.judgeGood st tag).sameBut s [.afc, .fau, .crd, .drc, .tlg, .prt, .sst] := by
  unfold State.judgeGood
  try dsimp only
  repeat' split
  all_goals (intro b hb; cases b <;> first | simp [State.sameAt]; done | simp at hb; done)

@[simp] theorem judgeGood_frame (s : State) (st : Stage) (tag : TagData) :
    (s.judgeGood st tag).pending = s.pending ∧ (s.judgeGood st tag).now = s.now ∧
    (s.judgeGood st tag).free = s.free ∧ (s.judgeGood st tag).supply = s.supply ∧
    (s.judgeGood st tag).resetnLow = s.resetnLow ∧ (s.judgeGood st tag).kind = s.kind ∧
    (s.judgeGood st tag).pins = s.pins ∧ (s.judgeGood st tag).store = s.store ∧
    (s.judgeGood st tag).sfe = s.sfe ∧ (s.judgeGood st tag).dar = s.dar ∧ (s.judgeGood st tag).cdc = s.cdc := by
  have h := judgeGood_sameBut s st tag
  exact ⟨h .pending rfl, h .now rfl, h .free rfl, h .supply rfl, h .resetnLow rfl, h .kind rfl, h .pins rfl, h .store rfl, h .sfe rfl, h .dar rfl, h .cdc rfl⟩

theorem postRemoved_sameBut (s : State) (st : Stage) : (s.postRemoved st).sameBut s [.crd, .tlg, .prt] := by
  unfold State.postRemoved
  try dsimp only
  repeat' split
  all_goals (intro b hb; cases b <;> first | simp [State.sameAt]; done | simp at hb; done)

@[simp] theorem postRemoved_frame (s : State) (st : Stage) :
    (s.postRemoved st).pending = s.pending ∧ (s.postRemoved st).now = s.now ∧ (s.postRemoved st).free = s.free ∧
    (s.postRemoved st).supply = s.supply ∧ (s.postRemoved st).resetnLow = s.resetnLow ∧
    (s.postRemoved st).kind = s.kind ∧ (s.postRemoved st).pins = s.pins ∧ (s.postRemoved st).store = s.store ∧
    (s.postRemoved st).sfe = s.sfe ∧ (s.postRemoved st).dar = s.dar ∧ (s.postRemoved st).afc = s.afc ∧
    (s.postRemoved st).fau = s.fau ∧ (s.postRemoved st).drc = s.drc ∧ (s.postRemoved st).cdc = s.cdc ∧
    (s.postRemoved st).sst = s.sst := by
  have h := postRemoved_sameBut s st
  exact ⟨h .pending rfl, h .now rfl, h .free rfl, h .supply rfl, h .resetnLow rfl, h .kind rfl, h .pins rfl, h .store rfl, h .sfe rfl, h .dar rfl, h .afc rfl, h .fau rfl, h .drc rfl, h .cdc rfl, h .sst rfl⟩

theorem goodRead_sameBut (s : State) (st : Stage) (tag : TagData) : (s.goodRead st tag).sameBut s [.afc, .fau, .crd, .drc, .tlg, .prt, .sst] := by
  unfold State.goodRead
  try dsimp only
  repeat' split
  all_goals (intro b hb; cases b <;> first | simp [State.sameAt]; done | simp at hb; done)

@[simp] theorem goodRead_frame (s : State) (st : Stage) (tag : TagData) :
    (s.goodRead st tag).pending = s.pending ∧ (s.goodRead st tag).now = s.now ∧
    (s.goodRead st tag).free = s.free ∧ (s.goodRead st tag).supply = s.supply ∧
    (s.goodRead st tag).resetnLow = s.resetnLow ∧ (s.goodRead st tag).kind = s.kind ∧
    (s.goodRead st tag).pins = s.pins ∧ (s.goodRead st tag).store = s.store ∧ (s.goodRead st tag).sfe = s.sfe ∧
    (s.goodRead st tag).dar = s.dar ∧ (s.goodRead st tag).cdc = s.cdc := by
  have h := goodRead_sameBut s st tag
  exact ⟨h .pending rfl, h .now rfl, h .free rfl, h .supply rfl, h .resetnLow rfl, h .kind rfl, h .pins rfl, h .store rfl, h .sfe rfl, h .dar rfl, h .cdc rfl⟩

theorem failedRead_sameBut (s : State) (st : Stage) : (s.failedRead st).sameBut s [.afc, .fau, .crd, .drc, .tlg, .prt, .sst] := by
  unfold State.failedRead
  try dsimp only
  repeat' split
  all_goals (intro b hb; cases b <;> first | simp [State.sameAt]; done | simp at hb; done)

@[simp] theorem failedRead_frame (s : State) (st : Stage) :
    (s.failedRead st).pending = s.pending ∧ (s.failedRead st).now = s.now ∧ (s.failedRead st).free = s.free ∧
    (s.failedRead st).supply = s.supply ∧ (s.failedRead st).resetnLow = s.resetnLow ∧
    (s.failedRead st).kind = s.kind ∧ (s.failedRead st).pins = s.pins ∧ (s.failedRead st).store = s.store ∧
    (s.failedRead st).sfe = s.sfe ∧ (s.failedRead st).dar = s.dar ∧ (s.failedRead st).cdc = s.cdc := by
  have h := failedRead_sameBut s st
  exact ⟨h .pending rfl, h .now rfl, h .free rfl, h .supply rfl, h .resetnLow rfl, h .kind rfl, h .pins rfl, h .store rfl, h .sfe rfl, h .dar rfl, h .cdc rfl⟩

theorem tagReadEnd_sameBut (s : State) (st : Stage) (answer : Option RawTag) : (s.tagReadEnd st answer).sameBut s [.afc, .fau, .crd, .drc, .tlg, .prt, .sst] := by
  unfold State.tagReadEnd
  try dsimp only
  repeat' split
  all_goals (intro b hb; cases b <;> first | simp [State.sameAt]; done | simp at hb; done)

@[simp] theorem tagReadEnd_frame (s : State) (st : Stage) (answer : Option RawTag) :
    (s.tagReadEnd st answer).pending = s.pending ∧ (s.tagReadEnd st answer).now = s.now ∧
    (s.tagReadEnd st answer).free = s.free ∧ (s.tagReadEnd st answer).supply = s.supply ∧
    (s.tagReadEnd st answer).resetnLow = s.resetnLow ∧ (s.tagReadEnd st answer).kind = s.kind ∧
    (s.tagReadEnd st answer).pins = s.pins ∧ (s.tagReadEnd st answer).store = s.store ∧
    (s.tagReadEnd st answer).sfe = s.sfe ∧ (s.tagReadEnd st answer).dar = s.dar ∧
    (s.tagReadEnd st answer).cdc = s.cdc := by
  have h := tagReadEnd_sameBut s st answer
  exact ⟨h .pending rfl, h .now rfl, h .free rfl, h .supply rfl, h .resetnLow rfl, h .kind rfl, h .pins rfl, h .store rfl, h .sfe rfl, h .dar rfl, h .cdc rfl⟩

theorem slotClosed_sameBut (s : State) (st : Stage) : (s.slotClosed st).sameBut s [.crd] := by
  unfold State.slotClosed
  try dsimp only
  repeat' split
  all_goals (intro b hb; cases b <;> first | simp [State.sameAt]; done | simp at hb; done)

@[simp] theorem slotClosed_frame (s : State) (st : Stage) :
    (s.slotClosed st).pending = s.pending ∧ (s.slotClosed st).now = s.now ∧ (s.slotClosed st).free = s.free ∧
    (s.slotClosed st).supply = s.supply ∧ (s.slotClosed st).resetnLow = s.resetnLow ∧
    (s.slotClosed st).kind = s.kind ∧ (s.slotClosed st).pins = s.pins ∧ (s.slotClosed st).store = s.store ∧
    (s.slotClosed st).sfe = s.sfe ∧ (s.slotClosed st).dar = s.dar ∧ (s.slotClosed st).afc = s.afc ∧
    (s.slotClosed st).fau = s.fau ∧ (s.slotClosed st).drc = s.drc ∧ (s.slotClosed st).cdc = s.cdc ∧
    (s.slotClosed st).tlg = s.tlg ∧ (s.slotClosed st).prt = s.prt ∧ (s.slotClosed st).sst = s.sst := by
  have h := slotClosed_sameBut s st
  exact ⟨h .pending rfl, h .now rfl, h .free rfl, h .supply rfl, h .resetnLow rfl, h .kind rfl, h .pins rfl, h .store rfl, h .sfe rfl, h .dar rfl, h .afc rfl, h .fau rfl, h .drc rfl, h .cdc rfl, h .tlg rfl, h .prt rfl, h .sst rfl⟩

theorem slotOpened_sameBut (s : State) (st : Stage) : (s.slotOpened st).sameBut s [.afc, .fau, .crd, .drc, .tlg, .prt, .sst] := by
  unfold State.slotOpened
  try dsimp only
  repeat' split
  all_goals (intro b hb; cases b <;> first | simp [State.sameAt]; done | simp at hb; done)

@[simp] theorem slotOpened_frame (s : State) (st : Stage) :
    (s.slotOpened st).pending = s.pending ∧ (s.slotOpened st).now = s.now ∧ (s.slotOpened st).free = s.free ∧
    (s.slotOpened st).supply = s.supply ∧ (s.slotOpened st).resetnLow = s.resetnLow ∧
    (s.slotOpened st).kind = s.kind ∧ (s.slotOpened st).pins = s.pins ∧ (s.slotOpened st).store = s.store ∧
    (s.slotOpened st).sfe = s.sfe ∧ (s.slotOpened st).dar = s.dar ∧ (s.slotOpened st).cdc = s.cdc := by
  have h := slotOpened_sameBut s st
  exact ⟨h .pending rfl, h .now rfl, h .free rfl, h .supply rfl, h .resetnLow rfl, h .kind rfl, h .pins rfl, h .store rfl, h .sfe rfl, h .dar rfl, h .cdc rfl⟩

/-! ### Tank -/

@[simp] theorem postTank_frame (s : State) (v : TankValue) :
    (s.postTank v).pending = s.pending ∧ (s.postTank v).now = s.now ∧ (s.postTank v).free = s.free ∧
    (s.postTank v).supply = s.supply ∧ (s.postTank v).resetnLow = s.resetnLow ∧ (s.postTank v).kind = s.kind ∧
    (s.postTank v).pins = s.pins ∧ (s.postTank v).store = s.store ∧ (s.postTank v).sfe = s.sfe ∧
    (s.postTank v).dar = s.dar ∧ (s.postTank v).afc = s.afc ∧ (s.postTank v).fau = s.fau ∧
    (s.postTank v).crd = s.crd ∧ (s.postTank v).drc = s.drc ∧ (s.postTank v).cdc = s.cdc ∧
    (s.postTank v).sst = s.sst := by
  unfold State.postTank
  simp

@[simp] theorem enterPhase_frame (s : State) (q : Sequence) (ph : Phase) :
    (s.enterPhase q ph).pending = s.pending ∧ (s.enterPhase q ph).now = s.now ∧
    (s.enterPhase q ph).free = s.free ∧ (s.enterPhase q ph).supply = s.supply ∧
    (s.enterPhase q ph).resetnLow = s.resetnLow ∧ (s.enterPhase q ph).kind = s.kind ∧
    (s.enterPhase q ph).pins = s.pins ∧ (s.enterPhase q ph).store = s.store ∧ (s.enterPhase q ph).sfe = s.sfe ∧
    (s.enterPhase q ph).dar = s.dar ∧ (s.enterPhase q ph).afc = s.afc ∧ (s.enterPhase q ph).fau = s.fau ∧
    (s.enterPhase q ph).crd = s.crd ∧ (s.enterPhase q ph).drc = s.drc ∧ (s.enterPhase q ph).tlg = s.tlg ∧
    (s.enterPhase q ph).prt = s.prt ∧ (s.enterPhase q ph).sst = s.sst :=
  ⟨rfl, rfl, rfl, rfl, rfl, rfl, rfl, rfl, rfl, rfl, rfl, rfl, rfl, rfl, rfl, rfl, rfl⟩

@[simp] theorem beginRun_frame (s : State) (q : Sequence) (ph : Phase) :
    (s.beginRun q ph).pending = s.pending ∧ (s.beginRun q ph).now = s.now ∧ (s.beginRun q ph).free = s.free ∧
    (s.beginRun q ph).supply = s.supply ∧ (s.beginRun q ph).resetnLow = s.resetnLow ∧
    (s.beginRun q ph).kind = s.kind ∧ (s.beginRun q ph).pins = s.pins ∧ (s.beginRun q ph).store = s.store ∧
    (s.beginRun q ph).sfe = s.sfe ∧ (s.beginRun q ph).dar = s.dar ∧ (s.beginRun q ph).afc = s.afc ∧
    (s.beginRun q ph).fau = s.fau ∧ (s.beginRun q ph).crd = s.crd ∧ (s.beginRun q ph).drc = s.drc ∧
    (s.beginRun q ph).tlg = s.tlg ∧ (s.beginRun q ph).prt = s.prt ∧ (s.beginRun q ph).sst = s.sst :=
  ⟨rfl, rfl, rfl, rfl, rfl, rfl, rfl, rfl, rfl, rfl, rfl, rfl, rfl, rfl, rfl, rfl, rfl⟩

theorem autoStart_sameBut (s : State) : (s.autoStart).sameBut s [.cdc] := by
  unfold State.autoStart
  try dsimp only
  repeat' split
  all_goals (intro b hb; cases b <;> first | simp [State.sameAt]; done | simp at hb; done)

@[simp] theorem autoStart_frame (s : State) :
    (s.autoStart).pending = s.pending ∧ (s.autoStart).now = s.now ∧ (s.autoStart).free = s.free ∧
    (s.autoStart).supply = s.supply ∧ (s.autoStart).resetnLow = s.resetnLow ∧ (s.autoStart).kind = s.kind ∧
    (s.autoStart).pins = s.pins ∧ (s.autoStart).store = s.store ∧ (s.autoStart).sfe = s.sfe ∧
    (s.autoStart).dar = s.dar ∧ (s.autoStart).afc = s.afc ∧ (s.autoStart).fau = s.fau ∧
    (s.autoStart).crd = s.crd ∧ (s.autoStart).drc = s.drc ∧ (s.autoStart).tlg = s.tlg ∧
    (s.autoStart).prt = s.prt ∧ (s.autoStart).sst = s.sst := by
  have h := autoStart_sameBut s 
  exact ⟨h .pending rfl, h .now rfl, h .free rfl, h .supply rfl, h .resetnLow rfl, h .kind rfl, h .pins rfl, h .store rfl, h .sfe rfl, h .dar rfl, h .afc rfl, h .fau rfl, h .crd rfl, h .drc rfl, h .tlg rfl, h .prt rfl, h .sst rfl⟩

theorem endRun_sameBut (s : State) (q : Sequence) (st : SeqStatus) (c : Condition) : (s.endRun q st c).sameBut s [.cdc, .tlg, .prt] := by
  unfold State.endRun
  try dsimp only
  repeat' split
  all_goals (intro b hb; cases b <;> first | simp [State.sameAt]; done | simp at hb; done)

@[simp] theorem endRun_frame (s : State) (q : Sequence) (st : SeqStatus) (c : Condition) :
    (s.endRun q st c).pending = s.pending ∧ (s.endRun q st c).now = s.now ∧ (s.endRun q st c).free = s.free ∧
    (s.endRun q st c).supply = s.supply ∧ (s.endRun q st c).resetnLow = s.resetnLow ∧
    (s.endRun q st c).kind = s.kind ∧ (s.endRun q st c).pins = s.pins ∧ (s.endRun q st c).store = s.store ∧
    (s.endRun q st c).sfe = s.sfe ∧ (s.endRun q st c).dar = s.dar ∧ (s.endRun q st c).afc = s.afc ∧
    (s.endRun q st c).fau = s.fau ∧ (s.endRun q st c).crd = s.crd ∧ (s.endRun q st c).drc = s.drc ∧
    (s.endRun q st c).sst = s.sst := by
  have h := endRun_sameBut s q st c
  exact ⟨h .pending rfl, h .now rfl, h .free rfl, h .supply rfl, h .resetnLow rfl, h .kind rfl, h .pins rfl, h .store rfl, h .sfe rfl, h .dar rfl, h .afc rfl, h .fau rfl, h .crd rfl, h .drc rfl, h .sst rfl⟩

theorem deriveFull_sameBut (s : State) (entry : Bool) : (s.deriveFull entry).sameBut s [.cdc, .tlg, .prt] := by
  unfold State.deriveFull
  try dsimp only
  repeat' split
  all_goals (intro b hb; cases b <;> first | simp [State.sameAt]; done | simp at hb; done)

@[simp] theorem deriveFull_frame (s : State) (entry : Bool) :
    (s.deriveFull entry).pending = s.pending ∧ (s.deriveFull entry).now = s.now ∧
    (s.deriveFull entry).free = s.free ∧ (s.deriveFull entry).supply = s.supply ∧
    (s.deriveFull entry).resetnLow = s.resetnLow ∧ (s.deriveFull entry).kind = s.kind ∧
    (s.deriveFull entry).pins = s.pins ∧ (s.deriveFull entry).store = s.store ∧
    (s.deriveFull entry).sfe = s.sfe ∧ (s.deriveFull entry).dar = s.dar ∧ (s.deriveFull entry).afc = s.afc ∧
    (s.deriveFull entry).fau = s.fau ∧ (s.deriveFull entry).crd = s.crd ∧ (s.deriveFull entry).drc = s.drc ∧
    (s.deriveFull entry).sst = s.sst := by
  have h := deriveFull_sameBut s entry
  exact ⟨h .pending rfl, h .now rfl, h .free rfl, h .supply rfl, h .resetnLow rfl, h .kind rfl, h .pins rfl, h .store rfl, h .sfe rfl, h .dar rfl, h .afc rfl, h .fau rfl, h .crd rfl, h .drc rfl, h .sst rfl⟩

theorem cdcTake_sameBut (s : State) : (s.cdcTake).sameBut s [.cdc, .tlg, .prt] := by
  unfold State.cdcTake
  try dsimp only
  repeat' split
  all_goals (intro b hb; cases b <;> first | simp [State.sameAt]; done | simp at hb; done)

@[simp] theorem cdcTake_frame (s : State) :
    (s.cdcTake).pending = s.pending ∧ (s.cdcTake).now = s.now ∧ (s.cdcTake).free = s.free ∧
    (s.cdcTake).supply = s.supply ∧ (s.cdcTake).resetnLow = s.resetnLow ∧ (s.cdcTake).kind = s.kind ∧
    (s.cdcTake).pins = s.pins ∧ (s.cdcTake).store = s.store ∧ (s.cdcTake).sfe = s.sfe ∧
    (s.cdcTake).dar = s.dar ∧ (s.cdcTake).afc = s.afc ∧ (s.cdcTake).fau = s.fau ∧ (s.cdcTake).crd = s.crd ∧
    (s.cdcTake).drc = s.drc ∧ (s.cdcTake).sst = s.sst := by
  have h := cdcTake_sameBut s 
  exact ⟨h .pending rfl, h .now rfl, h .free rfl, h .supply rfl, h .resetnLow rfl, h .kind rfl, h .pins rfl, h .store rfl, h .sfe rfl, h .dar rfl, h .afc rfl, h .fau rfl, h .crd rfl, h .drc rfl, h .sst rfl⟩

theorem tankClosed_sameBut (s : State) : (s.tankClosed).sameBut s [.cdc] := by
  unfold State.tankClosed
  try dsimp only
  repeat' split
  all_goals (intro b hb; cases b <;> first | simp [State.sameAt]; done | simp at hb; done)

@[simp] theorem tankClosed_frame (s : State) :
    (s.tankClosed).pending = s.pending ∧ (s.tankClosed).now = s.now ∧ (s.tankClosed).free = s.free ∧
    (s.tankClosed).supply = s.supply ∧ (s.tankClosed).resetnLow = s.resetnLow ∧ (s.tankClosed).kind = s.kind ∧
    (s.tankClosed).pins = s.pins ∧ (s.tankClosed).store = s.store ∧ (s.tankClosed).sfe = s.sfe ∧
    (s.tankClosed).dar = s.dar ∧ (s.tankClosed).afc = s.afc ∧ (s.tankClosed).fau = s.fau ∧
    (s.tankClosed).crd = s.crd ∧ (s.tankClosed).drc = s.drc ∧ (s.tankClosed).tlg = s.tlg ∧
    (s.tankClosed).prt = s.prt ∧ (s.tankClosed).sst = s.sst := by
  have h := tankClosed_sameBut s 
  exact ⟨h .pending rfl, h .now rfl, h .free rfl, h .supply rfl, h .resetnLow rfl, h .kind rfl, h .pins rfl, h .store rfl, h .sfe rfl, h .dar rfl, h .afc rfl, h .fau rfl, h .crd rfl, h .drc rfl, h .tlg rfl, h .prt rfl, h .sst rfl⟩

theorem tankRemovedStop_sameBut (s : State) : (s.tankRemovedStop).sameBut s [.cdc, .tlg, .prt] := by
  unfold State.tankRemovedStop
  try dsimp only
  repeat' split
  all_goals (intro b hb; cases b <;> first | simp [State.sameAt]; done | simp at hb; done)

@[simp] theorem tankRemovedStop_frame (s : State) :
    (s.tankRemovedStop).pending = s.pending ∧ (s.tankRemovedStop).now = s.now ∧
    (s.tankRemovedStop).free = s.free ∧ (s.tankRemovedStop).supply = s.supply ∧
    (s.tankRemovedStop).resetnLow = s.resetnLow ∧ (s.tankRemovedStop).kind = s.kind ∧
    (s.tankRemovedStop).pins = s.pins ∧ (s.tankRemovedStop).store = s.store ∧ (s.tankRemovedStop).sfe = s.sfe ∧
    (s.tankRemovedStop).dar = s.dar ∧ (s.tankRemovedStop).afc = s.afc ∧ (s.tankRemovedStop).fau = s.fau ∧
    (s.tankRemovedStop).crd = s.crd ∧ (s.tankRemovedStop).drc = s.drc ∧ (s.tankRemovedStop).sst = s.sst := by
  have h := tankRemovedStop_sameBut s 
  exact ⟨h .pending rfl, h .now rfl, h .free rfl, h .supply rfl, h .resetnLow rfl, h .kind rfl, h .pins rfl, h .store rfl, h .sfe rfl, h .dar rfl, h .afc rfl, h .fau rfl, h .crd rfl, h .drc rfl, h .sst rfl⟩

theorem tankOpened_sameBut (s : State) : (s.tankOpened).sameBut s [.afc, .fau, .drc, .cdc, .tlg, .prt, .sst] := by
  unfold State.tankOpened
  try dsimp only
  repeat' split
  all_goals (intro b hb; cases b <;> first | simp [State.sameAt]; done | simp at hb; done)

@[simp] theorem tankOpened_frame (s : State) :
    (s.tankOpened).pending = s.pending ∧ (s.tankOpened).now = s.now ∧ (s.tankOpened).free = s.free ∧
    (s.tankOpened).supply = s.supply ∧ (s.tankOpened).resetnLow = s.resetnLow ∧ (s.tankOpened).kind = s.kind ∧
    (s.tankOpened).pins = s.pins ∧ (s.tankOpened).store = s.store ∧ (s.tankOpened).sfe = s.sfe ∧
    (s.tankOpened).dar = s.dar ∧ (s.tankOpened).crd = s.crd := by
  have h := tankOpened_sameBut s 
  exact ⟨h .pending rfl, h .now rfl, h .free rfl, h .supply rfl, h .resetnLow rfl, h .kind rfl, h .pins rfl, h .store rfl, h .sfe rfl, h .dar rfl, h .crd rfl⟩

@[simp] theorem floatFullChanged_frame (s : State) (b : Bool) :
    (s.floatFullChanged b).pending = s.pending ∧ (s.floatFullChanged b).now = s.now ∧
    (s.floatFullChanged b).free = s.free ∧ (s.floatFullChanged b).supply = s.supply ∧
    (s.floatFullChanged b).resetnLow = s.resetnLow ∧ (s.floatFullChanged b).kind = s.kind ∧
    (s.floatFullChanged b).pins = s.pins ∧ (s.floatFullChanged b).store = s.store ∧
    (s.floatFullChanged b).sfe = s.sfe ∧ (s.floatFullChanged b).dar = s.dar ∧
    (s.floatFullChanged b).afc = s.afc ∧ (s.floatFullChanged b).fau = s.fau ∧
    (s.floatFullChanged b).crd = s.crd ∧ (s.floatFullChanged b).drc = s.drc ∧
    (s.floatFullChanged b).tlg = s.tlg ∧ (s.floatFullChanged b).prt = s.prt ∧
    (s.floatFullChanged b).sst = s.sst :=
  ⟨rfl, rfl, rfl, rfl, rfl, rfl, rfl, rfl, rfl, rfl, rfl, rfl, rfl, rfl, rfl, rfl, rfl⟩

theorem floatHighChanged_sameBut (s : State) (b : Bool) : (s.floatHighChanged b).sameBut s [.cdc] := by
  unfold State.floatHighChanged
  try dsimp only
  repeat' split
  all_goals (intro b hb; cases b <;> first | simp [State.sameAt]; done | simp at hb; done)

@[simp] theorem floatHighChanged_frame (s : State) (b : Bool) :
    (s.floatHighChanged b).pending = s.pending ∧ (s.floatHighChanged b).now = s.now ∧
    (s.floatHighChanged b).free = s.free ∧ (s.floatHighChanged b).supply = s.supply ∧
    (s.floatHighChanged b).resetnLow = s.resetnLow ∧ (s.floatHighChanged b).kind = s.kind ∧
    (s.floatHighChanged b).pins = s.pins ∧ (s.floatHighChanged b).store = s.store ∧
    (s.floatHighChanged b).sfe = s.sfe ∧ (s.floatHighChanged b).dar = s.dar ∧
    (s.floatHighChanged b).afc = s.afc ∧ (s.floatHighChanged b).fau = s.fau ∧
    (s.floatHighChanged b).crd = s.crd ∧ (s.floatHighChanged b).drc = s.drc ∧
    (s.floatHighChanged b).tlg = s.tlg ∧ (s.floatHighChanged b).prt = s.prt ∧
    (s.floatHighChanged b).sst = s.sst := by
  have h := floatHighChanged_sameBut s b
  exact ⟨h .pending rfl, h .now rfl, h .free rfl, h .supply rfl, h .resetnLow rfl, h .kind rfl, h .pins rfl, h .store rfl, h .sfe rfl, h .dar rfl, h .afc rfl, h .fau rfl, h .crd rfl, h .drc rfl, h .tlg rfl, h .prt rfl, h .sst rfl⟩

theorem flowChanged_sameBut (s : State) (b : Bool) : (s.flowChanged b).sameBut s [.cdc] := by
  unfold State.flowChanged
  try dsimp only
  repeat' split
  all_goals (intro b hb; cases b <;> first | simp [State.sameAt]; done | simp at hb; done)

@[simp] theorem flowChanged_frame (s : State) (b : Bool) :
    (s.flowChanged b).pending = s.pending ∧ (s.flowChanged b).now = s.now ∧ (s.flowChanged b).free = s.free ∧
    (s.flowChanged b).supply = s.supply ∧ (s.flowChanged b).resetnLow = s.resetnLow ∧
    (s.flowChanged b).kind = s.kind ∧ (s.flowChanged b).pins = s.pins ∧ (s.flowChanged b).store = s.store ∧
    (s.flowChanged b).sfe = s.sfe ∧ (s.flowChanged b).dar = s.dar ∧ (s.flowChanged b).afc = s.afc ∧
    (s.flowChanged b).fau = s.fau ∧ (s.flowChanged b).crd = s.crd ∧ (s.flowChanged b).drc = s.drc ∧
    (s.flowChanged b).tlg = s.tlg ∧ (s.flowChanged b).prt = s.prt ∧ (s.flowChanged b).sst = s.sst := by
  have h := flowChanged_sameBut s b
  exact ⟨h .pending rfl, h .now rfl, h .free rfl, h .supply rfl, h .resetnLow rfl, h .kind rfl, h .pins rfl, h .store rfl, h .sfe rfl, h .dar rfl, h .afc rfl, h .fau rfl, h .crd rfl, h .drc rfl, h .tlg rfl, h .prt rfl, h .sst rfl⟩

theorem samplePrime_sameBut (s : State) (q : Sequence) (n : Nat) : (s.samplePrime q n).sameBut s [.cdc] := by
  unfold State.samplePrime
  try dsimp only
  repeat' split
  all_goals (intro b hb; cases b <;> first | simp [State.sameAt]; done | simp at hb; done)

@[simp] theorem samplePrime_frame (s : State) (q : Sequence) (n : Nat) :
    (s.samplePrime q n).pending = s.pending ∧ (s.samplePrime q n).now = s.now ∧
    (s.samplePrime q n).free = s.free ∧ (s.samplePrime q n).supply = s.supply ∧
    (s.samplePrime q n).resetnLow = s.resetnLow ∧ (s.samplePrime q n).kind = s.kind ∧
    (s.samplePrime q n).pins = s.pins ∧ (s.samplePrime q n).store = s.store ∧ (s.samplePrime q n).sfe = s.sfe ∧
    (s.samplePrime q n).dar = s.dar ∧ (s.samplePrime q n).afc = s.afc ∧ (s.samplePrime q n).fau = s.fau ∧
    (s.samplePrime q n).crd = s.crd ∧ (s.samplePrime q n).drc = s.drc ∧ (s.samplePrime q n).tlg = s.tlg ∧
    (s.samplePrime q n).prt = s.prt ∧ (s.samplePrime q n).sst = s.sst := by
  have h := samplePrime_sameBut s q n
  exact ⟨h .pending rfl, h .now rfl, h .free rfl, h .supply rfl, h .resetnLow rfl, h .kind rfl, h .pins rfl, h .store rfl, h .sfe rfl, h .dar rfl, h .afc rfl, h .fau rfl, h .crd rfl, h .drc rfl, h .tlg rfl, h .prt rfl, h .sst rfl⟩

theorem judgeTransfer_sameBut (s : State) (q : Sequence) (n : Nat) : (s.judgeTransfer q n).sameBut s [.cdc, .tlg, .prt] := by
  unfold State.judgeTransfer
  try dsimp only
  repeat' split
  all_goals (intro b hb; cases b <;> first | simp [State.sameAt]; done | simp at hb; done)

@[simp] theorem judgeTransfer_frame (s : State) (q : Sequence) (n : Nat) :
    (s.judgeTransfer q n).pending = s.pending ∧ (s.judgeTransfer q n).now = s.now ∧
    (s.judgeTransfer q n).free = s.free ∧ (s.judgeTransfer q n).supply = s.supply ∧
    (s.judgeTransfer q n).resetnLow = s.resetnLow ∧ (s.judgeTransfer q n).kind = s.kind ∧
    (s.judgeTransfer q n).pins = s.pins ∧ (s.judgeTransfer q n).store = s.store ∧
    (s.judgeTransfer q n).sfe = s.sfe ∧ (s.judgeTransfer q n).dar = s.dar ∧ (s.judgeTransfer q n).afc = s.afc ∧
    (s.judgeTransfer q n).fau = s.fau ∧ (s.judgeTransfer q n).crd = s.crd ∧ (s.judgeTransfer q n).drc = s.drc ∧
    (s.judgeTransfer q n).sst = s.sst := by
  have h := judgeTransfer_sameBut s q n
  exact ⟨h .pending rfl, h .now rfl, h .free rfl, h .supply rfl, h .resetnLow rfl, h .kind rfl, h .pins rfl, h .store rfl, h .sfe rfl, h .dar rfl, h .afc rfl, h .fau rfl, h .crd rfl, h .drc rfl, h .sst rfl⟩

theorem sampleTransfer_sameBut (s : State) (q : Sequence) (n : Nat) : (s.sampleTransfer q n).sameBut s [.free, .cdc, .tlg, .prt] := by
  unfold State.sampleTransfer
  try dsimp only
  repeat' split
  all_goals (intro b hb; cases b <;> first | simp [State.sameAt]; done | simp at hb; done)

@[simp] theorem sampleTransfer_frame (s : State) (q : Sequence) (n : Nat) :
    (s.sampleTransfer q n).pending = s.pending ∧ (s.sampleTransfer q n).now = s.now ∧
    (s.sampleTransfer q n).supply = s.supply ∧ (s.sampleTransfer q n).resetnLow = s.resetnLow ∧
    (s.sampleTransfer q n).kind = s.kind ∧ (s.sampleTransfer q n).pins = s.pins ∧
    (s.sampleTransfer q n).store = s.store ∧ (s.sampleTransfer q n).sfe = s.sfe ∧
    (s.sampleTransfer q n).dar = s.dar ∧ (s.sampleTransfer q n).afc = s.afc ∧
    (s.sampleTransfer q n).fau = s.fau ∧ (s.sampleTransfer q n).crd = s.crd ∧
    (s.sampleTransfer q n).drc = s.drc ∧ (s.sampleTransfer q n).sst = s.sst := by
  have h := sampleTransfer_sameBut s q n
  exact ⟨h .pending rfl, h .now rfl, h .supply rfl, h .resetnLow rfl, h .kind rfl, h .pins rfl, h .store rfl, h .sfe rfl, h .dar rfl, h .afc rfl, h .fau rfl, h .crd rfl, h .drc rfl, h .sst rfl⟩

theorem pumpSampleTaken_sameBut (s : State) : (s.pumpSampleTaken).sameBut s [.free, .cdc, .tlg, .prt] := by
  unfold State.pumpSampleTaken
  try dsimp only
  repeat' split
  all_goals (intro b hb; cases b <;> first | simp [State.sameAt]; done | simp at hb; done)

@[simp] theorem pumpSampleTaken_frame (s : State) :
    (s.pumpSampleTaken).pending = s.pending ∧ (s.pumpSampleTaken).now = s.now ∧
    (s.pumpSampleTaken).supply = s.supply ∧ (s.pumpSampleTaken).resetnLow = s.resetnLow ∧
    (s.pumpSampleTaken).kind = s.kind ∧ (s.pumpSampleTaken).pins = s.pins ∧
    (s.pumpSampleTaken).store = s.store ∧ (s.pumpSampleTaken).sfe = s.sfe ∧ (s.pumpSampleTaken).dar = s.dar ∧
    (s.pumpSampleTaken).afc = s.afc ∧ (s.pumpSampleTaken).fau = s.fau ∧ (s.pumpSampleTaken).crd = s.crd ∧
    (s.pumpSampleTaken).drc = s.drc ∧ (s.pumpSampleTaken).sst = s.sst := by
  have h := pumpSampleTaken_sameBut s 
  exact ⟨h .pending rfl, h .now rfl, h .supply rfl, h .resetnLow rfl, h .kind rfl, h .pins rfl, h .store rfl, h .sfe rfl, h .dar rfl, h .afc rfl, h .fau rfl, h .crd rfl, h .drc rfl, h .sst rfl⟩

/-! ### Demands and airflow -/

theorem resolve_sameBut (s : State) : (s.resolve).sameBut s [.dar, .prt] := by
  unfold State.resolve
  try dsimp only
  repeat' split
  all_goals (intro b hb; cases b <;> first | simp [State.sameAt]; done | simp at hb; done)

@[simp] theorem resolve_frame (s : State) :
    (s.resolve).pending = s.pending ∧ (s.resolve).now = s.now ∧ (s.resolve).free = s.free ∧
    (s.resolve).supply = s.supply ∧ (s.resolve).resetnLow = s.resetnLow ∧ (s.resolve).kind = s.kind ∧
    (s.resolve).pins = s.pins ∧ (s.resolve).store = s.store ∧ (s.resolve).sfe = s.sfe ∧
    (s.resolve).afc = s.afc ∧ (s.resolve).fau = s.fau ∧ (s.resolve).crd = s.crd ∧ (s.resolve).drc = s.drc ∧
    (s.resolve).cdc = s.cdc ∧ (s.resolve).tlg = s.tlg ∧ (s.resolve).sst = s.sst := by
  have h := resolve_sameBut s 
  exact ⟨h .pending rfl, h .now rfl, h .free rfl, h .supply rfl, h .resetnLow rfl, h .kind rfl, h .pins rfl, h .store rfl, h .sfe rfl, h .afc rfl, h .fau rfl, h .crd rfl, h .drc rfl, h .cdc rfl, h .tlg rfl, h .sst rfl⟩

theorem resolveTable_sameBut (s : State) (t : List Demand) : (s.resolveTable t).sameBut s [.dar, .afc, .fau, .drc, .tlg, .prt, .sst] := by
  unfold State.resolveTable
  try dsimp only
  repeat' split
  all_goals (intro b hb; cases b <;> first | simp [State.sameAt]; done | simp at hb; done)

@[simp] theorem resolveTable_frame (s : State) (t : List Demand) :
    (s.resolveTable t).pending = s.pending ∧ (s.resolveTable t).now = s.now ∧ (s.resolveTable t).free = s.free ∧
    (s.resolveTable t).supply = s.supply ∧ (s.resolveTable t).resetnLow = s.resetnLow ∧
    (s.resolveTable t).kind = s.kind ∧ (s.resolveTable t).pins = s.pins ∧ (s.resolveTable t).store = s.store ∧
    (s.resolveTable t).sfe = s.sfe ∧ (s.resolveTable t).crd = s.crd ∧ (s.resolveTable t).cdc = s.cdc := by
  have h := resolveTable_sameBut s t
  exact ⟨h .pending rfl, h .now rfl, h .free rfl, h .supply rfl, h .resetnLow rfl, h .kind rfl, h .pins rfl, h .store rfl, h .sfe rfl, h .crd rfl, h .cdc rfl⟩

@[simp] theorem reportDropped_frame (s : State) (es : List Demand) (ev : DemandRef → Event) :
    (s.reportDropped es ev).pending = s.pending ∧ (s.reportDropped es ev).now = s.now ∧
    (s.reportDropped es ev).free = s.free ∧ (s.reportDropped es ev).supply = s.supply ∧
    (s.reportDropped es ev).resetnLow = s.resetnLow ∧ (s.reportDropped es ev).kind = s.kind ∧
    (s.reportDropped es ev).pins = s.pins ∧ (s.reportDropped es ev).store = s.store ∧
    (s.reportDropped es ev).sfe = s.sfe ∧ (s.reportDropped es ev).dar = s.dar ∧
    (s.reportDropped es ev).afc = s.afc ∧ (s.reportDropped es ev).fau = s.fau ∧
    (s.reportDropped es ev).crd = s.crd ∧ (s.reportDropped es ev).drc = s.drc ∧
    (s.reportDropped es ev).cdc = s.cdc ∧ (s.reportDropped es ev).sst = s.sst := by
  unfold State.reportDropped
  refine ⟨?_, ?_, ?_, ?_, ?_, ?_, ?_, ?_, ?_, ?_, ?_, ?_, ?_, ?_, ?_, ?_⟩ <;> exact foldl_keeps _ _ (fun _ _ => by simp) _ _

theorem darSecond_sameBut (s : State) : (s.darSecond).sameBut s [.dar, .afc, .fau, .drc, .tlg, .prt, .sst] := by
  unfold State.darSecond
  try dsimp only
  repeat' split
  all_goals (intro b hb; cases b <;> first | simp [State.sameAt]; done | simp at hb; done)

@[simp] theorem darSecond_frame (s : State) :
    (s.darSecond).pending = s.pending ∧ (s.darSecond).now = s.now ∧ (s.darSecond).free = s.free ∧
    (s.darSecond).supply = s.supply ∧ (s.darSecond).resetnLow = s.resetnLow ∧ (s.darSecond).kind = s.kind ∧
    (s.darSecond).pins = s.pins ∧ (s.darSecond).store = s.store ∧ (s.darSecond).sfe = s.sfe ∧
    (s.darSecond).crd = s.crd ∧ (s.darSecond).cdc = s.cdc := by
  have h := darSecond_sameBut s 
  exact ⟨h .pending rfl, h .now rfl, h .free rfl, h .supply rfl, h .resetnLow rfl, h .kind rfl, h .pins rfl, h .store rfl, h .sfe rfl, h .crd rfl, h .cdc rfl⟩

theorem takeRanks_sameBut (s : State) : (s.takeRanks).sameBut s [.dar, .afc, .fau, .drc, .tlg, .prt, .sst] := by
  unfold State.takeRanks
  try dsimp only
  repeat' split
  all_goals (intro b hb; cases b <;> first | simp [State.sameAt]; done | simp at hb; done)

@[simp] theorem takeRanks_frame (s : State) :
    (s.takeRanks).pending = s.pending ∧ (s.takeRanks).now = s.now ∧ (s.takeRanks).free = s.free ∧
    (s.takeRanks).supply = s.supply ∧ (s.takeRanks).resetnLow = s.resetnLow ∧ (s.takeRanks).kind = s.kind ∧
    (s.takeRanks).pins = s.pins ∧ (s.takeRanks).store = s.store ∧ (s.takeRanks).sfe = s.sfe ∧
    (s.takeRanks).crd = s.crd ∧ (s.takeRanks).cdc = s.cdc := by
  have h := takeRanks_sameBut s 
  exact ⟨h .pending rfl, h .now rfl, h .free rfl, h .supply rfl, h .resetnLow rfl, h .kind rfl, h .pins rfl, h .store rfl, h .sfe rfl, h .crd rfl, h .cdc rfl⟩

@[simp] theorem postFan_frame (s : State) (v : FanValue) :
    (s.postFan v).pending = s.pending ∧ (s.postFan v).now = s.now ∧ (s.postFan v).free = s.free ∧
    (s.postFan v).supply = s.supply ∧ (s.postFan v).resetnLow = s.resetnLow ∧ (s.postFan v).kind = s.kind ∧
    (s.postFan v).pins = s.pins ∧ (s.postFan v).store = s.store ∧ (s.postFan v).sfe = s.sfe ∧
    (s.postFan v).dar = s.dar ∧ (s.postFan v).afc = s.afc ∧ (s.postFan v).fau = s.fau ∧
    (s.postFan v).crd = s.crd ∧ (s.postFan v).drc = s.drc ∧ (s.postFan v).cdc = s.cdc ∧
    (s.postFan v).sst = s.sst := by
  unfold State.postFan
  simp

theorem stallDetected_sameBut (s : State) : (s.stallDetected).sameBut s [.afc, .tlg, .prt] := by
  unfold State.stallDetected
  try dsimp only
  repeat' split
  all_goals (intro b hb; cases b <;> first | simp [State.sameAt]; done | simp at hb; done)

@[simp] theorem stallDetected_frame (s : State) :
    (s.stallDetected).pending = s.pending ∧ (s.stallDetected).now = s.now ∧ (s.stallDetected).free = s.free ∧
    (s.stallDetected).supply = s.supply ∧ (s.stallDetected).resetnLow = s.resetnLow ∧
    (s.stallDetected).kind = s.kind ∧ (s.stallDetected).pins = s.pins ∧ (s.stallDetected).store = s.store ∧
    (s.stallDetected).sfe = s.sfe ∧ (s.stallDetected).dar = s.dar ∧ (s.stallDetected).fau = s.fau ∧
    (s.stallDetected).crd = s.crd ∧ (s.stallDetected).drc = s.drc ∧ (s.stallDetected).cdc = s.cdc ∧
    (s.stallDetected).sst = s.sst := by
  have h := stallDetected_sameBut s 
  exact ⟨h .pending rfl, h .now rfl, h .free rfl, h .supply rfl, h .resetnLow rfl, h .kind rfl, h .pins rfl, h .store rfl, h .sfe rfl, h .dar rfl, h .fau rfl, h .crd rfl, h .drc rfl, h .cdc rfl, h .sst rfl⟩

theorem judgeStall_sameBut (s : State) : (s.judgeStall).sameBut s [.afc, .tlg, .prt] := by
  unfold State.judgeStall
  try dsimp only
  repeat' split
  all_goals (intro b hb; cases b <;> first | simp [State.sameAt]; done | simp at hb; done)

@[simp] theorem judgeStall_frame (s : State) :
    (s.judgeStall).pending = s.pending ∧ (s.judgeStall).now = s.now ∧ (s.judgeStall).free = s.free ∧
    (s.judgeStall).supply = s.supply ∧ (s.judgeStall).resetnLow = s.resetnLow ∧ (s.judgeStall).kind = s.kind ∧
    (s.judgeStall).pins = s.pins ∧ (s.judgeStall).store = s.store ∧ (s.judgeStall).sfe = s.sfe ∧
    (s.judgeStall).dar = s.dar ∧ (s.judgeStall).fau = s.fau ∧ (s.judgeStall).crd = s.crd ∧
    (s.judgeStall).drc = s.drc ∧ (s.judgeStall).cdc = s.cdc ∧ (s.judgeStall).sst = s.sst := by
  have h := judgeStall_sameBut s 
  exact ⟨h .pending rfl, h .now rfl, h .free rfl, h .supply rfl, h .resetnLow rfl, h .kind rfl, h .pins rfl, h .store rfl, h .sfe rfl, h .dar rfl, h .fau rfl, h .crd rfl, h .drc rfl, h .cdc rfl, h .sst rfl⟩

theorem applySwap_sameBut (s : State) : (s.applySwap).sameBut s [.afc, .fau, .tlg, .prt] := by
  unfold State.applySwap
  try dsimp only
  repeat' split
  all_goals (intro b hb; cases b <;> first | simp [State.sameAt]; done | simp at hb; done)

@[simp] theorem applySwap_frame (s : State) :
    (s.applySwap).pending = s.pending ∧ (s.applySwap).now = s.now ∧ (s.applySwap).free = s.free ∧
    (s.applySwap).supply = s.supply ∧ (s.applySwap).resetnLow = s.resetnLow ∧ (s.applySwap).kind = s.kind ∧
    (s.applySwap).pins = s.pins ∧ (s.applySwap).store = s.store ∧ (s.applySwap).sfe = s.sfe ∧
    (s.applySwap).dar = s.dar ∧ (s.applySwap).crd = s.crd ∧ (s.applySwap).drc = s.drc ∧
    (s.applySwap).cdc = s.cdc ∧ (s.applySwap).sst = s.sst := by
  have h := applySwap_sameBut s 
  exact ⟨h .pending rfl, h .now rfl, h .free rfl, h .supply rfl, h .resetnLow rfl, h .kind rfl, h .pins rfl, h .store rfl, h .sfe rfl, h .dar rfl, h .crd rfl, h .drc rfl, h .cdc rfl, h .sst rfl⟩

@[simp] theorem updateAuto_frame (s : State) :
    (s.updateAuto).pending = s.pending ∧ (s.updateAuto).now = s.now ∧ (s.updateAuto).free = s.free ∧
    (s.updateAuto).supply = s.supply ∧ (s.updateAuto).resetnLow = s.resetnLow ∧ (s.updateAuto).kind = s.kind ∧
    (s.updateAuto).pins = s.pins ∧ (s.updateAuto).store = s.store ∧ (s.updateAuto).sfe = s.sfe ∧
    (s.updateAuto).dar = s.dar ∧ (s.updateAuto).fau = s.fau ∧ (s.updateAuto).crd = s.crd ∧
    (s.updateAuto).drc = s.drc ∧ (s.updateAuto).cdc = s.cdc ∧ (s.updateAuto).tlg = s.tlg ∧
    (s.updateAuto).prt = s.prt ∧ (s.updateAuto).sst = s.sst :=
  ⟨rfl, rfl, rfl, rfl, rfl, rfl, rfl, rfl, rfl, rfl, rfl, rfl, rfl, rfl, rfl, rfl, rfl⟩

@[simp] theorem drive_frame (s : State) :
    (s.drive).pending = s.pending ∧ (s.drive).now = s.now ∧ (s.drive).free = s.free ∧
    (s.drive).supply = s.supply ∧ (s.drive).resetnLow = s.resetnLow ∧ (s.drive).kind = s.kind ∧
    (s.drive).pins = s.pins ∧ (s.drive).store = s.store ∧ (s.drive).sfe = s.sfe ∧ (s.drive).dar = s.dar ∧
    (s.drive).fau = s.fau ∧ (s.drive).crd = s.crd ∧ (s.drive).drc = s.drc ∧ (s.drive).cdc = s.cdc ∧
    (s.drive).tlg = s.tlg ∧ (s.drive).prt = s.prt ∧ (s.drive).sst = s.sst :=
  ⟨rfl, rfl, rfl, rfl, rfl, rfl, rfl, rfl, rfl, rfl, rfl, rfl, rfl, rfl, rfl, rfl, rfl⟩

theorem boundary_sameBut (s : State) : (s.boundary).sameBut s [.afc, .fau, .drc, .tlg, .prt, .sst] := by
  unfold State.boundary
  try dsimp only
  repeat' split
  all_goals (intro b hb; cases b <;> first | simp [State.sameAt]; done | simp at hb; done)

@[simp] theorem boundary_frame (s : State) :
    (s.boundary).pending = s.pending ∧ (s.boundary).now = s.now ∧ (s.boundary).free = s.free ∧
    (s.boundary).supply = s.supply ∧ (s.boundary).resetnLow = s.resetnLow ∧ (s.boundary).kind = s.kind ∧
    (s.boundary).pins = s.pins ∧ (s.boundary).store = s.store ∧ (s.boundary).sfe = s.sfe ∧
    (s.boundary).dar = s.dar ∧ (s.boundary).crd = s.crd ∧ (s.boundary).cdc = s.cdc := by
  have h := boundary_sameBut s 
  exact ⟨h .pending rfl, h .now rfl, h .free rfl, h .supply rfl, h .resetnLow rfl, h .kind rfl, h .pins rfl, h .store rfl, h .sfe rfl, h .dar rfl, h .crd rfl, h .cdc rfl⟩

theorem clearFan_sameBut (s : State) : (s.clearFan).sameBut s [.afc, .tlg, .prt] := by
  unfold State.clearFan
  try dsimp only
  repeat' split
  all_goals (intro b hb; cases b <;> first | simp [State.sameAt]; done | simp at hb; done)

@[simp] theorem clearFan_frame (s : State) :
    (s.clearFan).pending = s.pending ∧ (s.clearFan).now = s.now ∧ (s.clearFan).free = s.free ∧
    (s.clearFan).supply = s.supply ∧ (s.clearFan).resetnLow = s.resetnLow ∧ (s.clearFan).kind = s.kind ∧
    (s.clearFan).pins = s.pins ∧ (s.clearFan).store = s.store ∧ (s.clearFan).sfe = s.sfe ∧
    (s.clearFan).dar = s.dar ∧ (s.clearFan).fau = s.fau ∧ (s.clearFan).crd = s.crd ∧ (s.clearFan).drc = s.drc ∧
    (s.clearFan).cdc = s.cdc ∧ (s.clearFan).sst = s.sst := by
  have h := clearFan_sameBut s 
  exact ⟨h .pending rfl, h .now rfl, h .free rfl, h .supply rfl, h .resetnLow rfl, h .kind rfl, h .pins rfl, h .store rfl, h .sfe rfl, h .dar rfl, h .fau rfl, h .crd rfl, h .drc rfl, h .cdc rfl, h .sst rfl⟩

/-! ### Sensing -/

@[simp] theorem postSensor_frame (s : State) (w : Sensor) (b : Bool) :
    (s.postSensor w b).pending = s.pending ∧ (s.postSensor w b).now = s.now ∧ (s.postSensor w b).free = s.free ∧
    (s.postSensor w b).supply = s.supply ∧ (s.postSensor w b).resetnLow = s.resetnLow ∧
    (s.postSensor w b).kind = s.kind ∧ (s.postSensor w b).pins = s.pins ∧ (s.postSensor w b).store = s.store ∧
    (s.postSensor w b).sfe = s.sfe ∧ (s.postSensor w b).dar = s.dar ∧ (s.postSensor w b).afc = s.afc ∧
    (s.postSensor w b).fau = s.fau ∧ (s.postSensor w b).crd = s.crd ∧ (s.postSensor w b).drc = s.drc ∧
    (s.postSensor w b).cdc = s.cdc ∧ (s.postSensor w b).sst = s.sst := by
  unfold State.postSensor
  simp

theorem particleFrame_sameBut (s : State) (r : Option Nat) : (s.particleFrame r).sameBut s [.sfe, .tlg, .prt] := by
  unfold State.particleFrame
  try dsimp only
  repeat' split
  all_goals (intro b hb; cases b <;> first | simp [State.sameAt]; done | simp at hb; done)

@[simp] theorem particleFrame_frame (s : State) (r : Option Nat) :
    (s.particleFrame r).pending = s.pending ∧ (s.particleFrame r).now = s.now ∧
    (s.particleFrame r).free = s.free ∧ (s.particleFrame r).supply = s.supply ∧
    (s.particleFrame r).resetnLow = s.resetnLow ∧ (s.particleFrame r).kind = s.kind ∧
    (s.particleFrame r).pins = s.pins ∧ (s.particleFrame r).store = s.store ∧ (s.particleFrame r).dar = s.dar ∧
    (s.particleFrame r).afc = s.afc ∧ (s.particleFrame r).fau = s.fau ∧ (s.particleFrame r).crd = s.crd ∧
    (s.particleFrame r).drc = s.drc ∧ (s.particleFrame r).cdc = s.cdc ∧ (s.particleFrame r).sst = s.sst := by
  have h := particleFrame_sameBut s r
  exact ⟨h .pending rfl, h .now rfl, h .free rfl, h .supply rfl, h .resetnLow rfl, h .kind rfl, h .pins rfl, h .store rfl, h .dar rfl, h .afc rfl, h .fau rfl, h .crd rfl, h .drc rfl, h .cdc rfl, h .sst rfl⟩

@[simp] theorem setBus_frame (s : State) (x : PrivateBus) :
    (s.setBus x).pending = s.pending ∧ (s.setBus x).now = s.now ∧ (s.setBus x).free = s.free ∧
    (s.setBus x).supply = s.supply ∧ (s.setBus x).resetnLow = s.resetnLow ∧ (s.setBus x).kind = s.kind ∧
    (s.setBus x).pins = s.pins ∧ (s.setBus x).store = s.store ∧ (s.setBus x).dar = s.dar ∧
    (s.setBus x).afc = s.afc ∧ (s.setBus x).fau = s.fau ∧ (s.setBus x).crd = s.crd ∧ (s.setBus x).drc = s.drc ∧
    (s.setBus x).cdc = s.cdc ∧ (s.setBus x).tlg = s.tlg ∧ (s.setBus x).prt = s.prt ∧ (s.setBus x).sst = s.sst :=
  ⟨rfl, rfl, rfl, rfl, rfl, rfl, rfl, rfl, rfl, rfl, rfl, rfl, rfl, rfl, rfl, rfl, rfl⟩

theorem roomFailed_sameBut (s : State) : (s.roomFailed).sameBut s [.sfe, .afc, .fau, .drc, .tlg, .prt, .sst] := by
  unfold State.roomFailed
  try dsimp only
  repeat' split
  all_goals (intro b hb; cases b <;> first | simp [State.sameAt]; done | simp at hb; done)

@[simp] theorem roomFailed_frame (s : State) :
    (s.roomFailed).pending = s.pending ∧ (s.roomFailed).now = s.now ∧ (s.roomFailed).free = s.free ∧
    (s.roomFailed).supply = s.supply ∧ (s.roomFailed).resetnLow = s.resetnLow ∧ (s.roomFailed).kind = s.kind ∧
    (s.roomFailed).pins = s.pins ∧ (s.roomFailed).store = s.store ∧ (s.roomFailed).dar = s.dar ∧
    (s.roomFailed).crd = s.crd ∧ (s.roomFailed).cdc = s.cdc := by
  have h := roomFailed_sameBut s 
  exact ⟨h .pending rfl, h .now rfl, h .free rfl, h .supply rfl, h .resetnLow rfl, h .kind rfl, h .pins rfl, h .store rfl, h .dar rfl, h .crd rfl, h .cdc rfl⟩

theorem roomGood_sameBut (s : State) (r : RoomRead) : (s.roomGood r).sameBut s [.sfe, .afc, .fau, .drc, .tlg, .prt, .sst] := by
  unfold State.roomGood
  try dsimp only
  repeat' split
  all_goals (intro b hb; cases b <;> first | simp [State.sameAt]; done | simp at hb; done)

@[simp] theorem roomGood_frame (s : State) (r : RoomRead) :
    (s.roomGood r).pending = s.pending ∧ (s.roomGood r).now = s.now ∧ (s.roomGood r).free = s.free ∧
    (s.roomGood r).supply = s.supply ∧ (s.roomGood r).resetnLow = s.resetnLow ∧ (s.roomGood r).kind = s.kind ∧
    (s.roomGood r).pins = s.pins ∧ (s.roomGood r).store = s.store ∧ (s.roomGood r).dar = s.dar ∧
    (s.roomGood r).crd = s.crd ∧ (s.roomGood r).cdc = s.cdc := by
  have h := roomGood_sameBut s r
  exact ⟨h .pending rfl, h .now rfl, h .free rfl, h .supply rfl, h .resetnLow rfl, h .kind rfl, h .pins rfl, h .store rfl, h .dar rfl, h .crd rfl, h .cdc rfl⟩

theorem gasGood_sameBut (s : State) (n : Nat) : (s.gasGood n).sameBut s [.sfe, .tlg, .prt] := by
  unfold State.gasGood
  try dsimp only
  repeat' split
  all_goals (intro b hb; cases b <;> first | simp [State.sameAt]; done | simp at hb; done)

@[simp] theorem gasGood_frame (s : State) (n : Nat) :
    (s.gasGood n).pending = s.pending ∧ (s.gasGood n).now = s.now ∧ (s.gasGood n).free = s.free ∧
    (s.gasGood n).supply = s.supply ∧ (s.gasGood n).resetnLow = s.resetnLow ∧ (s.gasGood n).kind = s.kind ∧
    (s.gasGood n).pins = s.pins ∧ (s.gasGood n).store = s.store ∧ (s.gasGood n).dar = s.dar ∧
    (s.gasGood n).afc = s.afc ∧ (s.gasGood n).fau = s.fau ∧ (s.gasGood n).crd = s.crd ∧
    (s.gasGood n).drc = s.drc ∧ (s.gasGood n).cdc = s.cdc ∧ (s.gasGood n).sst = s.sst := by
  have h := gasGood_sameBut s n
  exact ⟨h .pending rfl, h .now rfl, h .free rfl, h .supply rfl, h .resetnLow rfl, h .kind rfl, h .pins rfl, h .store rfl, h .dar rfl, h .afc rfl, h .fau rfl, h .crd rfl, h .drc rfl, h .cdc rfl, h .sst rfl⟩

@[simp] theorem afterGas_frame (s : State) :
    (s.afterGas).pending = s.pending ∧ (s.afterGas).now = s.now ∧ (s.afterGas).free = s.free ∧
    (s.afterGas).supply = s.supply ∧ (s.afterGas).resetnLow = s.resetnLow ∧ (s.afterGas).kind = s.kind ∧
    (s.afterGas).pins = s.pins ∧ (s.afterGas).store = s.store ∧ (s.afterGas).dar = s.dar ∧
    (s.afterGas).afc = s.afc ∧ (s.afterGas).fau = s.fau ∧ (s.afterGas).crd = s.crd ∧ (s.afterGas).drc = s.drc ∧
    (s.afterGas).cdc = s.cdc ∧ (s.afterGas).tlg = s.tlg ∧ (s.afterGas).prt = s.prt ∧ (s.afterGas).sst = s.sst :=
  ⟨rfl, rfl, rfl, rfl, rfl, rfl, rfl, rfl, rfl, rfl, rfl, rfl, rfl, rfl, rfl, rfl, rfl⟩

@[simp] theorem busFree_frame (s : State) :
    (s.busFree).pending = s.pending ∧ (s.busFree).now = s.now ∧ (s.busFree).free = s.free ∧
    (s.busFree).supply = s.supply ∧ (s.busFree).resetnLow = s.resetnLow ∧ (s.busFree).kind = s.kind ∧
    (s.busFree).pins = s.pins ∧ (s.busFree).store = s.store ∧ (s.busFree).dar = s.dar ∧
    (s.busFree).afc = s.afc ∧ (s.busFree).fau = s.fau ∧ (s.busFree).crd = s.crd ∧ (s.busFree).drc = s.drc ∧
    (s.busFree).cdc = s.cdc ∧ (s.busFree).tlg = s.tlg ∧ (s.busFree).prt = s.prt ∧ (s.busFree).sst = s.sst :=
  ⟨rfl, rfl, rfl, rfl, rfl, rfl, rfl, rfl, rfl, rfl, rfl, rfl, rfl, rfl, rfl, rfl, rfl⟩

theorem busFailed_sameBut (s : State) : (s.busFailed).sameBut s [.sfe, .afc, .fau, .drc, .tlg, .prt, .sst] := by
  unfold State.busFailed
  try dsimp only
  repeat' split
  all_goals (intro b hb; cases b <;> first | simp [State.sameAt]; done | simp at hb; done)

@[simp] theorem busFailed_frame (s : State) :
    (s.busFailed).pending = s.pending ∧ (s.busFailed).now = s.now ∧ (s.busFailed).free = s.free ∧
    (s.busFailed).supply = s.supply ∧ (s.busFailed).resetnLow = s.resetnLow ∧ (s.busFailed).kind = s.kind ∧
    (s.busFailed).pins = s.pins ∧ (s.busFailed).store = s.store ∧ (s.busFailed).dar = s.dar ∧
    (s.busFailed).crd = s.crd ∧ (s.busFailed).cdc = s.cdc := by
  have h := busFailed_sameBut s 
  exact ⟨h .pending rfl, h .now rfl, h .free rfl, h .supply rfl, h .resetnLow rfl, h .kind rfl, h .pins rfl, h .store rfl, h .dar rfl, h .crd rfl, h .cdc rfl⟩

theorem busSecond_sameBut (s : State) : (s.busSecond).sameBut s [.sfe, .afc, .fau, .drc, .tlg, .prt, .sst] := by
  unfold State.busSecond
  try dsimp only
  repeat' split
  all_goals (intro b hb; cases b <;> first | simp [State.sameAt]; done | simp at hb; done)

@[simp] theorem busSecond_frame (s : State) :
    (s.busSecond).pending = s.pending ∧ (s.busSecond).now = s.now ∧ (s.busSecond).free = s.free ∧
    (s.busSecond).supply = s.supply ∧ (s.busSecond).resetnLow = s.resetnLow ∧ (s.busSecond).kind = s.kind ∧
    (s.busSecond).pins = s.pins ∧ (s.busSecond).store = s.store ∧ (s.busSecond).dar = s.dar ∧
    (s.busSecond).crd = s.crd ∧ (s.busSecond).cdc = s.cdc := by
  have h := busSecond_sameBut s 
  exact ⟨h .pending rfl, h .now rfl, h .free rfl, h .supply rfl, h .resetnLow rfl, h .kind rfl, h .pins rfl, h .store rfl, h .dar rfl, h .crd rfl, h .cdc rfl⟩

theorem gasReadEnd_sameBut (s : State) (i : Option Nat) : (s.gasReadEnd i).sameBut s [.sfe, .afc, .fau, .drc, .tlg, .prt, .sst] := by
  unfold State.gasReadEnd
  try dsimp only
  repeat' split
  all_goals (intro b hb; cases b <;> first | simp [State.sameAt]; done | simp at hb; done)

@[simp] theorem gasReadEnd_frame (s : State) (i : Option Nat) :
    (s.gasReadEnd i).pending = s.pending ∧ (s.gasReadEnd i).now = s.now ∧ (s.gasReadEnd i).free = s.free ∧
    (s.gasReadEnd i).supply = s.supply ∧ (s.gasReadEnd i).resetnLow = s.resetnLow ∧
    (s.gasReadEnd i).kind = s.kind ∧ (s.gasReadEnd i).pins = s.pins ∧ (s.gasReadEnd i).store = s.store ∧
    (s.gasReadEnd i).dar = s.dar ∧ (s.gasReadEnd i).crd = s.crd ∧ (s.gasReadEnd i).cdc = s.cdc := by
  have h := gasReadEnd_sameBut s i
  exact ⟨h .pending rfl, h .now rfl, h .free rfl, h .supply rfl, h .resetnLow rfl, h .kind rfl, h .pins rfl, h .store rfl, h .dar rfl, h .crd rfl, h .cdc rfl⟩

theorem roomReadEnd_sameBut (s : State) (r : Option RoomRead) : (s.roomReadEnd r).sameBut s [.sfe, .afc, .fau, .drc, .tlg, .prt, .sst] := by
  unfold State.roomReadEnd
  try dsimp only
  repeat' split
  all_goals (intro b hb; cases b <;> first | simp [State.sameAt]; done | simp at hb; done)

@[simp] theorem roomReadEnd_frame (s : State) (r : Option RoomRead) :
    (s.roomReadEnd r).pending = s.pending ∧ (s.roomReadEnd r).now = s.now ∧ (s.roomReadEnd r).free = s.free ∧
    (s.roomReadEnd r).supply = s.supply ∧ (s.roomReadEnd r).resetnLow = s.resetnLow ∧
    (s.roomReadEnd r).kind = s.kind ∧ (s.roomReadEnd r).pins = s.pins ∧ (s.roomReadEnd r).store = s.store ∧
    (s.roomReadEnd r).dar = s.dar ∧ (s.roomReadEnd r).crd = s.crd ∧ (s.roomReadEnd r).cdc = s.cdc := by
  have h := roomReadEnd_sameBut s r
  exact ⟨h .pending rfl, h .now rfl, h .free rfl, h .supply rfl, h .resetnLow rfl, h .kind rfl, h .pins rfl, h .store rfl, h .dar rfl, h .crd rfl, h .cdc rfl⟩

theorem coilConversion_sameBut (s : State) (t : Int) : (s.coilConversion t).sameBut s [.sfe, .afc, .fau, .drc, .tlg, .prt, .sst] := by
  unfold State.coilConversion
  try dsimp only
  repeat' split
  all_goals (intro b hb; cases b <;> first | simp [State.sameAt]; done | simp at hb; done)

@[simp] theorem coilConversion_frame (s : State) (t : Int) :
    (s.coilConversion t).pending = s.pending ∧ (s.coilConversion t).now = s.now ∧
    (s.coilConversion t).free = s.free ∧ (s.coilConversion t).supply = s.supply ∧
    (s.coilConversion t).resetnLow = s.resetnLow ∧ (s.coilConversion t).kind = s.kind ∧
    (s.coilConversion t).pins = s.pins ∧ (s.coilConversion t).store = s.store ∧
    (s.coilConversion t).dar = s.dar ∧ (s.coilConversion t).crd = s.crd ∧ (s.coilConversion t).cdc = s.cdc := by
  have h := coilConversion_sameBut s t
  exact ⟨h .pending rfl, h .now rfl, h .free rfl, h .supply rfl, h .resetnLow rfl, h .kind rfl, h .pins rfl, h .store rfl, h .dar rfl, h .crd rfl, h .cdc rfl⟩

theorem levelPublished_sameBut (s : State) (b : Option Nat) : (s.levelPublished b).sameBut s [.afc, .fau, .drc, .cdc, .tlg, .prt, .sst] := by
  unfold State.levelPublished
  try dsimp only
  repeat' split
  all_goals (intro b hb; cases b <;> first | simp [State.sameAt]; done | simp at hb; done)

@[simp] theorem levelPublished_frame (s : State) (b : Option Nat) :
    (s.levelPublished b).pending = s.pending ∧ (s.levelPublished b).now = s.now ∧
    (s.levelPublished b).free = s.free ∧ (s.levelPublished b).supply = s.supply ∧
    (s.levelPublished b).resetnLow = s.resetnLow ∧ (s.levelPublished b).kind = s.kind ∧
    (s.levelPublished b).pins = s.pins ∧ (s.levelPublished b).store = s.store ∧
    (s.levelPublished b).sfe = s.sfe ∧ (s.levelPublished b).dar = s.dar ∧ (s.levelPublished b).crd = s.crd := by
  have h := levelPublished_sameBut s b
  exact ⟨h .pending rfl, h .now rfl, h .free rfl, h .supply rfl, h .resetnLow rfl, h .kind rfl, h .pins rfl, h .store rfl, h .sfe rfl, h .dar rfl, h .crd rfl⟩

theorem probeConversion_sameBut (s : State) (n : Int) : (s.probeConversion n).sameBut s [.sfe, .afc, .fau, .drc, .cdc, .tlg, .prt, .sst] := by
  unfold State.probeConversion
  try dsimp only
  repeat' split
  all_goals (intro b hb; cases b <;> first | simp [State.sameAt]; done | simp at hb; done)

@[simp] theorem probeConversion_frame (s : State) (n : Int) :
    (s.probeConversion n).pending = s.pending ∧ (s.probeConversion n).now = s.now ∧
    (s.probeConversion n).free = s.free ∧ (s.probeConversion n).supply = s.supply ∧
    (s.probeConversion n).resetnLow = s.resetnLow ∧ (s.probeConversion n).kind = s.kind ∧
    (s.probeConversion n).pins = s.pins ∧ (s.probeConversion n).store = s.store ∧
    (s.probeConversion n).dar = s.dar ∧ (s.probeConversion n).crd = s.crd := by
  have h := probeConversion_sameBut s n
  exact ⟨h .pending rfl, h .now rfl, h .free rfl, h .supply rfl, h .resetnLow rfl, h .kind rfl, h .pins rfl, h .store rfl, h .dar rfl, h .crd rfl⟩

theorem switchInputEdge_sameBut (s : State) (sw : Switch) (b : Bool) : (s.switchInputEdge sw b).sameBut s [.pins, .sfe] := by
  unfold State.switchInputEdge
  try dsimp only
  repeat' split
  all_goals (intro b hb; cases b <;> first | simp [State.sameAt]; done | simp at hb; done)

@[simp] theorem switchInputEdge_frame (s : State) (sw : Switch) (b : Bool) :
    (s.switchInputEdge sw b).pending = s.pending ∧ (s.switchInputEdge sw b).now = s.now ∧
    (s.switchInputEdge sw b).free = s.free ∧ (s.switchInputEdge sw b).supply = s.supply ∧
    (s.switchInputEdge sw b).resetnLow = s.resetnLow ∧ (s.switchInputEdge sw b).kind = s.kind ∧
    (s.switchInputEdge sw b).store = s.store ∧ (s.switchInputEdge sw b).dar = s.dar ∧
    (s.switchInputEdge sw b).afc = s.afc ∧ (s.switchInputEdge sw b).fau = s.fau ∧
    (s.switchInputEdge sw b).crd = s.crd ∧ (s.switchInputEdge sw b).drc = s.drc ∧
    (s.switchInputEdge sw b).cdc = s.cdc ∧ (s.switchInputEdge sw b).tlg = s.tlg ∧
    (s.switchInputEdge sw b).prt = s.prt ∧ (s.switchInputEdge sw b).sst = s.sst := by
  have h := switchInputEdge_sameBut s sw b
  exact ⟨h .pending rfl, h .now rfl, h .free rfl, h .supply rfl, h .resetnLow rfl, h .kind rfl, h .store rfl, h .dar rfl, h .afc rfl, h .fau rfl, h .crd rfl, h .drc rfl, h .cdc rfl, h .tlg rfl, h .prt rfl, h .sst rfl⟩

theorem floatTaken_sameBut (s : State) (f : MfFunction) (b c : Bool) : (s.floatTaken f b c).sameBut s [.afc, .fau, .drc, .cdc, .tlg, .prt, .sst] := by
  unfold State.floatTaken
  try dsimp only
  repeat' split
  all_goals (intro b hb; cases b <;> first | simp [State.sameAt]; done | simp at hb; done)

@[simp] theorem floatTaken_frame (s : State) (f : MfFunction) (b c : Bool) :
    (s.floatTaken f b c).pending = s.pending ∧ (s.floatTaken f b c).now = s.now ∧
    (s.floatTaken f b c).free = s.free ∧ (s.floatTaken f b c).supply = s.supply ∧
    (s.floatTaken f b c).resetnLow = s.resetnLow ∧ (s.floatTaken f b c).kind = s.kind ∧
    (s.floatTaken f b c).pins = s.pins ∧ (s.floatTaken f b c).store = s.store ∧
    (s.floatTaken f b c).sfe = s.sfe ∧ (s.floatTaken f b c).dar = s.dar ∧ (s.floatTaken f b c).crd = s.crd := by
  have h := floatTaken_sameBut s f b c
  exact ⟨h .pending rfl, h .now rfl, h .free rfl, h .supply rfl, h .resetnLow rfl, h .kind rfl, h .pins rfl, h .store rfl, h .sfe rfl, h .dar rfl, h .crd rfl⟩

theorem functionTaken_sameBut (s : State) (f : MfFunction) (b c : Bool) : (s.functionTaken f b c).sameBut s [.afc, .fau, .drc, .cdc, .tlg, .prt, .sst] := by
  unfold State.functionTaken
  try dsimp only
  repeat' split
  all_goals (intro b hb; cases b <;> first | simp [State.sameAt]; done | simp at hb; done)

@[simp] theorem functionTaken_frame (s : State) (f : MfFunction) (b c : Bool) :
    (s.functionTaken f b c).pending = s.pending ∧ (s.functionTaken f b c).now = s.now ∧
    (s.functionTaken f b c).free = s.free ∧ (s.functionTaken f b c).supply = s.supply ∧
    (s.functionTaken f b c).resetnLow = s.resetnLow ∧ (s.functionTaken f b c).kind = s.kind ∧
    (s.functionTaken f b c).pins = s.pins ∧ (s.functionTaken f b c).store = s.store ∧
    (s.functionTaken f b c).sfe = s.sfe ∧ (s.functionTaken f b c).dar = s.dar ∧
    (s.functionTaken f b c).crd = s.crd := by
  have h := functionTaken_sameBut s f b c
  exact ⟨h .pending rfl, h .now rfl, h .free rfl, h .supply rfl, h .resetnLow rfl, h .kind rfl, h .pins rfl, h .store rfl, h .sfe rfl, h .dar rfl, h .crd rfl⟩

theorem switchTaken_sameBut (s : State) (sw : Switch) (b c : Bool) : (s.switchTaken sw b c).sameBut s [.afc, .fau, .crd, .drc, .cdc, .tlg, .prt, .sst] := by
  unfold State.switchTaken
  try dsimp only
  repeat' split
  all_goals (intro b hb; cases b <;> first | simp [State.sameAt]; done | simp at hb; done)

@[simp] theorem switchTaken_frame (s : State) (sw : Switch) (b c : Bool) :
    (s.switchTaken sw b c).pending = s.pending ∧ (s.switchTaken sw b c).now = s.now ∧
    (s.switchTaken sw b c).free = s.free ∧ (s.switchTaken sw b c).supply = s.supply ∧
    (s.switchTaken sw b c).resetnLow = s.resetnLow ∧ (s.switchTaken sw b c).kind = s.kind ∧
    (s.switchTaken sw b c).pins = s.pins ∧ (s.switchTaken sw b c).store = s.store ∧
    (s.switchTaken sw b c).sfe = s.sfe ∧ (s.switchTaken sw b c).dar = s.dar := by
  have h := switchTaken_sameBut s sw b c
  exact ⟨h .pending rfl, h .now rfl, h .free rfl, h .supply rfl, h .resetnLow rfl, h .kind rfl, h .pins rfl, h .store rfl, h .sfe rfl, h .dar rfl⟩

@[simp] theorem fantachPulse_frame (s : State) :
    (s.fantachPulse).pending = s.pending ∧ (s.fantachPulse).now = s.now ∧ (s.fantachPulse).free = s.free ∧
    (s.fantachPulse).supply = s.supply ∧ (s.fantachPulse).resetnLow = s.resetnLow ∧
    (s.fantachPulse).kind = s.kind ∧ (s.fantachPulse).pins = s.pins ∧ (s.fantachPulse).store = s.store ∧
    (s.fantachPulse).dar = s.dar ∧ (s.fantachPulse).afc = s.afc ∧ (s.fantachPulse).fau = s.fau ∧
    (s.fantachPulse).crd = s.crd ∧ (s.fantachPulse).drc = s.drc ∧ (s.fantachPulse).cdc = s.cdc ∧
    (s.fantachPulse).tlg = s.tlg ∧ (s.fantachPulse).prt = s.prt ∧ (s.fantachPulse).sst = s.sst :=
  ⟨rfl, rfl, rfl, rfl, rfl, rfl, rfl, rfl, rfl, rfl, rfl, rfl, rfl, rfl, rfl, rfl, rfl⟩

/-! ### Log, settings and store -/

@[simp] theorem minute_frame (s : State) :
    (s.minute).pending = s.pending ∧ (s.minute).now = s.now ∧ (s.minute).free = s.free ∧
    (s.minute).supply = s.supply ∧ (s.minute).resetnLow = s.resetnLow ∧ (s.minute).kind = s.kind ∧
    (s.minute).pins = s.pins ∧ (s.minute).store = s.store ∧ (s.minute).sfe = s.sfe ∧ (s.minute).dar = s.dar ∧
    (s.minute).afc = s.afc ∧ (s.minute).fau = s.fau ∧ (s.minute).crd = s.crd ∧ (s.minute).drc = s.drc ∧
    (s.minute).cdc = s.cdc ∧ (s.minute).sst = s.sst := by
  unfold State.minute
  simp

@[simp] theorem placeCursor_frame (s : State) (p : Port) (c : BitVec 32) :
    (s.placeCursor p c).pending = s.pending ∧ (s.placeCursor p c).now = s.now ∧
    (s.placeCursor p c).free = s.free ∧ (s.placeCursor p c).supply = s.supply ∧
    (s.placeCursor p c).resetnLow = s.resetnLow ∧ (s.placeCursor p c).kind = s.kind ∧
    (s.placeCursor p c).pins = s.pins ∧ (s.placeCursor p c).store = s.store ∧ (s.placeCursor p c).sfe = s.sfe ∧
    (s.placeCursor p c).dar = s.dar ∧ (s.placeCursor p c).afc = s.afc ∧ (s.placeCursor p c).fau = s.fau ∧
    (s.placeCursor p c).crd = s.crd ∧ (s.placeCursor p c).drc = s.drc ∧ (s.placeCursor p c).cdc = s.cdc ∧
    (s.placeCursor p c).sst = s.sst := by
  unfold State.placeCursor
  simp

@[simp] theorem setJoin_frame (s : State) (p : Port) (a b : Bool) :
    (s.setJoin p a b).pending = s.pending ∧ (s.setJoin p a b).now = s.now ∧ (s.setJoin p a b).free = s.free ∧
    (s.setJoin p a b).supply = s.supply ∧ (s.setJoin p a b).resetnLow = s.resetnLow ∧
    (s.setJoin p a b).kind = s.kind ∧ (s.setJoin p a b).pins = s.pins ∧ (s.setJoin p a b).store = s.store ∧
    (s.setJoin p a b).sfe = s.sfe ∧ (s.setJoin p a b).dar = s.dar ∧ (s.setJoin p a b).afc = s.afc ∧
    (s.setJoin p a b).fau = s.fau ∧ (s.setJoin p a b).crd = s.crd ∧ (s.setJoin p a b).drc = s.drc ∧
    (s.setJoin p a b).cdc = s.cdc ∧ (s.setJoin p a b).prt = s.prt ∧ (s.setJoin p a b).sst = s.sst :=
  ⟨rfl, rfl, rfl, rfl, rfl, rfl, rfl, rfl, rfl, rfl, rfl, rfl, rfl, rfl, rfl, rfl, rfl⟩

@[simp] theorem startLog_frame (s : State) :
    (s.startLog).pending = s.pending ∧ (s.startLog).now = s.now ∧ (s.startLog).free = s.free ∧
    (s.startLog).supply = s.supply ∧ (s.startLog).resetnLow = s.resetnLow ∧ (s.startLog).kind = s.kind ∧
    (s.startLog).pins = s.pins ∧ (s.startLog).store = s.store ∧ (s.startLog).sfe = s.sfe ∧
    (s.startLog).dar = s.dar ∧ (s.startLog).afc = s.afc ∧ (s.startLog).fau = s.fau ∧ (s.startLog).crd = s.crd ∧
    (s.startLog).drc = s.drc ∧ (s.startLog).cdc = s.cdc ∧ (s.startLog).sst = s.sst :=
  ⟨rfl, rfl, rfl, rfl, rfl, rfl, rfl, rfl, rfl, rfl, rfl, rfl, rfl, rfl, rfl, rfl⟩

theorem takeMethod_sameBut (s : State) : (s.takeMethod).sameBut s [.cdc, .prt] := by
  unfold State.takeMethod
  try dsimp only
  repeat' split
  all_goals (intro b hb; cases b <;> first | simp [State.sameAt]; done | simp at hb; done)

@[simp] theorem takeMethod_frame (s : State) :
    (s.takeMethod).pending = s.pending ∧ (s.takeMethod).now = s.now ∧ (s.takeMethod).free = s.free ∧
    (s.takeMethod).supply = s.supply ∧ (s.takeMethod).resetnLow = s.resetnLow ∧ (s.takeMethod).kind = s.kind ∧
    (s.takeMethod).pins = s.pins ∧ (s.takeMethod).store = s.store ∧ (s.takeMethod).sfe = s.sfe ∧
    (s.takeMethod).dar = s.dar ∧ (s.takeMethod).afc = s.afc ∧ (s.takeMethod).fau = s.fau ∧
    (s.takeMethod).crd = s.crd ∧ (s.takeMethod).drc = s.drc ∧ (s.takeMethod).tlg = s.tlg ∧
    (s.takeMethod).sst = s.sst := by
  have h := takeMethod_sameBut s 
  exact ⟨h .pending rfl, h .now rfl, h .free rfl, h .supply rfl, h .resetnLow rfl, h .kind rfl, h .pins rfl, h .store rfl, h .sfe rfl, h .dar rfl, h .afc rfl, h .fau rfl, h .crd rfl, h .drc rfl, h .tlg rfl, h .sst rfl⟩

theorem takeTerminals_sameBut (s : State) (old : Terminals) : (s.takeTerminals old).sameBut s [.sfe, .cdc, .tlg, .prt] := by
  unfold State.takeTerminals
  try dsimp only
  repeat' split
  all_goals (intro b hb; cases b <;> first | simp [State.sameAt]; done | simp at hb; done)

@[simp] theorem takeTerminals_frame (s : State) (old : Terminals) :
    (s.takeTerminals old).pending = s.pending ∧ (s.takeTerminals old).now = s.now ∧
    (s.takeTerminals old).free = s.free ∧ (s.takeTerminals old).supply = s.supply ∧
    (s.takeTerminals old).resetnLow = s.resetnLow ∧ (s.takeTerminals old).kind = s.kind ∧
    (s.takeTerminals old).pins = s.pins ∧ (s.takeTerminals old).store = s.store ∧
    (s.takeTerminals old).dar = s.dar ∧ (s.takeTerminals old).afc = s.afc ∧ (s.takeTerminals old).fau = s.fau ∧
    (s.takeTerminals old).crd = s.crd ∧ (s.takeTerminals old).drc = s.drc ∧ (s.takeTerminals old).sst = s.sst := by
  have h := takeTerminals_sameBut s old
  exact ⟨h .pending rfl, h .now rfl, h .free rfl, h .supply rfl, h .resetnLow rfl, h .kind rfl, h .pins rfl, h .store rfl, h .dar rfl, h .afc rfl, h .fau rfl, h .crd rfl, h .drc rfl, h .sst rfl⟩

theorem applyConfig_sameBut (s : State) (x : Settings) : (s.applyConfig x).sameBut s [.sfe, .dar, .afc, .fau, .drc, .cdc, .tlg, .prt, .sst] := by
  unfold State.applyConfig
  try dsimp only
  repeat' split
  all_goals (intro b hb; cases b <;> first | simp [State.sameAt]; done | simp at hb; done)

@[simp] theorem applyConfig_frame (s : State) (x : Settings) :
    (s.applyConfig x).pending = s.pending ∧ (s.applyConfig x).now = s.now ∧ (s.applyConfig x).free = s.free ∧
    (s.applyConfig x).supply = s.supply ∧ (s.applyConfig x).resetnLow = s.resetnLow ∧
    (s.applyConfig x).kind = s.kind ∧ (s.applyConfig x).pins = s.pins ∧ (s.applyConfig x).store = s.store ∧
    (s.applyConfig x).crd = s.crd := by
  have h := applyConfig_sameBut s x
  exact ⟨h .pending rfl, h .now rfl, h .free rfl, h .supply rfl, h .resetnLow rfl, h .kind rfl, h .pins rfl, h .store rfl, h .crd rfl⟩

@[simp] theorem postStore_frame (s : State) (r : Region) (v : StoreValue) :
    (s.postStore r v).pending = s.pending ∧ (s.postStore r v).now = s.now ∧ (s.postStore r v).free = s.free ∧
    (s.postStore r v).supply = s.supply ∧ (s.postStore r v).resetnLow = s.resetnLow ∧
    (s.postStore r v).kind = s.kind ∧ (s.postStore r v).pins = s.pins ∧ (s.postStore r v).store = s.store ∧
    (s.postStore r v).sfe = s.sfe ∧ (s.postStore r v).dar = s.dar ∧ (s.postStore r v).afc = s.afc ∧
    (s.postStore r v).fau = s.fau ∧ (s.postStore r v).crd = s.crd ∧ (s.postStore r v).drc = s.drc ∧
    (s.postStore r v).cdc = s.cdc ∧ (s.postStore r v).sst = s.sst := by
  unfold State.postStore
  simp

theorem postStoreAll_sameBut (s : State) (rs : RegionSet) (v : StoreValue) : (s.postStoreAll rs v).sameBut s [.tlg, .prt] := by
  unfold State.postStoreAll
  try dsimp only
  repeat' split
  all_goals (intro b hb; cases b <;> first | simp [State.sameAt]; done | simp at hb; done)

@[simp] theorem postStoreAll_frame (s : State) (rs : RegionSet) (v : StoreValue) :
    (s.postStoreAll rs v).pending = s.pending ∧ (s.postStoreAll rs v).now = s.now ∧
    (s.postStoreAll rs v).free = s.free ∧ (s.postStoreAll rs v).supply = s.supply ∧
    (s.postStoreAll rs v).resetnLow = s.resetnLow ∧ (s.postStoreAll rs v).kind = s.kind ∧
    (s.postStoreAll rs v).pins = s.pins ∧ (s.postStoreAll rs v).store = s.store ∧
    (s.postStoreAll rs v).sfe = s.sfe ∧ (s.postStoreAll rs v).dar = s.dar ∧ (s.postStoreAll rs v).afc = s.afc ∧
    (s.postStoreAll rs v).fau = s.fau ∧ (s.postStoreAll rs v).crd = s.crd ∧ (s.postStoreAll rs v).drc = s.drc ∧
    (s.postStoreAll rs v).cdc = s.cdc ∧ (s.postStoreAll rs v).sst = s.sst := by
  have h := postStoreAll_sameBut s rs v
  exact ⟨h .pending rfl, h .now rfl, h .free rfl, h .supply rfl, h .resetnLow rfl, h .kind rfl, h .pins rfl, h .store rfl, h .sfe rfl, h .dar rfl, h .afc rfl, h .fau rfl, h .crd rfl, h .drc rfl, h .cdc rfl, h .sst rfl⟩

theorem nextWrite_sameBut (s : State) : (s.nextWrite).sameBut s [.fau, .sst] := by
  unfold State.nextWrite
  try dsimp only
  repeat' split
  all_goals (intro b hb; cases b <;> first | simp [State.sameAt]; done | simp at hb; done)

@[simp] theorem nextWrite_frame (s : State) :
    (s.nextWrite).pending = s.pending ∧ (s.nextWrite).now = s.now ∧ (s.nextWrite).free = s.free ∧
    (s.nextWrite).supply = s.supply ∧ (s.nextWrite).resetnLow = s.resetnLow ∧ (s.nextWrite).kind = s.kind ∧
    (s.nextWrite).pins = s.pins ∧ (s.nextWrite).store = s.store ∧ (s.nextWrite).sfe = s.sfe ∧
    (s.nextWrite).dar = s.dar ∧ (s.nextWrite).afc = s.afc ∧ (s.nextWrite).crd = s.crd ∧
    (s.nextWrite).drc = s.drc ∧ (s.nextWrite).cdc = s.cdc ∧ (s.nextWrite).tlg = s.tlg ∧
    (s.nextWrite).prt = s.prt := by
  have h := nextWrite_sameBut s 
  exact ⟨h .pending rfl, h .now rfl, h .free rfl, h .supply rfl, h .resetnLow rfl, h .kind rfl, h .pins rfl, h .store rfl, h .sfe rfl, h .dar rfl, h .afc rfl, h .crd rfl, h .drc rfl, h .cdc rfl, h .tlg rfl, h .prt rfl⟩

theorem storeWriteEnd_sameBut (s : State) (f : RegionSet) : (s.storeWriteEnd f).sameBut s [.store, .fau, .tlg, .prt, .sst] := by
  unfold State.storeWriteEnd
  try dsimp only
  repeat' split
  all_goals (intro b hb; cases b <;> first | simp [State.sameAt]; done | simp at hb; done)

@[simp] theorem storeWriteEnd_frame (s : State) (f : RegionSet) :
    (s.storeWriteEnd f).pending = s.pending ∧ (s.storeWriteEnd f).now = s.now ∧
    (s.storeWriteEnd f).free = s.free ∧ (s.storeWriteEnd f).supply = s.supply ∧
    (s.storeWriteEnd f).resetnLow = s.resetnLow ∧ (s.storeWriteEnd f).kind = s.kind ∧
    (s.storeWriteEnd f).pins = s.pins ∧ (s.storeWriteEnd f).sfe = s.sfe ∧ (s.storeWriteEnd f).dar = s.dar ∧
    (s.storeWriteEnd f).afc = s.afc ∧ (s.storeWriteEnd f).crd = s.crd ∧ (s.storeWriteEnd f).drc = s.drc ∧
    (s.storeWriteEnd f).cdc = s.cdc := by
  have h := storeWriteEnd_sameBut s f
  exact ⟨h .pending rfl, h .now rfl, h .free rfl, h .supply rfl, h .resetnLow rfl, h .kind rfl, h .pins rfl, h .sfe rfl, h .dar rfl, h .afc rfl, h .crd rfl, h .drc rfl, h .cdc rfl⟩

theorem cutOff_sameBut (s : State) (o : CutOff) : (s.cutOff o).sameBut s [.store, .tlg, .prt] := by
  unfold State.cutOff
  try dsimp only
  repeat' split
  all_goals (intro b hb; cases b <;> first | simp [State.sameAt]; done | simp at hb; done)

@[simp] theorem cutOff_frame (s : State) (o : CutOff) :
    (s.cutOff o).pending = s.pending ∧ (s.cutOff o).now = s.now ∧ (s.cutOff o).free = s.free ∧
    (s.cutOff o).supply = s.supply ∧ (s.cutOff o).resetnLow = s.resetnLow ∧ (s.cutOff o).kind = s.kind ∧
    (s.cutOff o).pins = s.pins ∧ (s.cutOff o).sfe = s.sfe ∧ (s.cutOff o).dar = s.dar ∧
    (s.cutOff o).afc = s.afc ∧ (s.cutOff o).fau = s.fau ∧ (s.cutOff o).crd = s.crd ∧ (s.cutOff o).drc = s.drc ∧
    (s.cutOff o).cdc = s.cdc ∧ (s.cutOff o).sst = s.sst := by
  have h := cutOff_sameBut s o
  exact ⟨h .pending rfl, h .now rfl, h .free rfl, h .supply rfl, h .resetnLow rfl, h .kind rfl, h .pins rfl, h .sfe rfl, h .dar rfl, h .afc rfl, h .fau rfl, h .crd rfl, h .drc rfl, h .cdc rfl, h .sst rfl⟩

theorem beginRead_sameBut (s : State) : (s.beginRead).sameBut s [.sst] := by
  unfold State.beginRead
  try dsimp only
  repeat' split
  all_goals (intro b hb; cases b <;> first | simp [State.sameAt]; done | simp at hb; done)

@[simp] theorem beginRead_frame (s : State) :
    (s.beginRead).pending = s.pending ∧ (s.beginRead).now = s.now ∧ (s.beginRead).free = s.free ∧
    (s.beginRead).supply = s.supply ∧ (s.beginRead).resetnLow = s.resetnLow ∧ (s.beginRead).kind = s.kind ∧
    (s.beginRead).pins = s.pins ∧ (s.beginRead).store = s.store ∧ (s.beginRead).sfe = s.sfe ∧
    (s.beginRead).dar = s.dar ∧ (s.beginRead).afc = s.afc ∧ (s.beginRead).fau = s.fau ∧
    (s.beginRead).crd = s.crd ∧ (s.beginRead).drc = s.drc ∧ (s.beginRead).cdc = s.cdc ∧
    (s.beginRead).tlg = s.tlg ∧ (s.beginRead).prt = s.prt := by
  have h := beginRead_sameBut s 
  exact ⟨h .pending rfl, h .now rfl, h .free rfl, h .supply rfl, h .resetnLow rfl, h .kind rfl, h .pins rfl, h .store rfl, h .sfe rfl, h .dar rfl, h .afc rfl, h .fau rfl, h .crd rfl, h .drc rfl, h .cdc rfl, h .tlg rfl, h .prt rfl⟩

@[simp] theorem handOver_frame (s : State) :
    (s.handOver).pending = s.pending ∧ (s.handOver).now = s.now ∧ (s.handOver).free = s.free ∧
    (s.handOver).supply = s.supply ∧ (s.handOver).resetnLow = s.resetnLow ∧ (s.handOver).kind = s.kind ∧
    (s.handOver).pins = s.pins ∧ (s.handOver).store = s.store ∧ (s.handOver).sfe = s.sfe ∧
    (s.handOver).dar = s.dar ∧ (s.handOver).afc = s.afc ∧ (s.handOver).fau = s.fau ∧ (s.handOver).crd = s.crd ∧
    (s.handOver).drc = s.drc ∧ (s.handOver).cdc = s.cdc ∧ (s.handOver).tlg = s.tlg :=
  ⟨rfl, rfl, rfl, rfl, rfl, rfl, rfl, rfl, rfl, rfl, rfl, rfl, rfl, rfl, rfl, rfl⟩

theorem postRestored_sameBut (s : State) (r : Option StoredReason) : (s.postRestored r).sameBut s [.tlg, .prt] := by
  unfold State.postRestored
  try dsimp only
  repeat' split
  all_goals (intro b hb; cases b <;> first | simp [State.sameAt]; done | simp at hb; done)

@[simp] theorem postRestored_frame (s : State) (r : Option StoredReason) :
    (s.postRestored r).pending = s.pending ∧ (s.postRestored r).now = s.now ∧ (s.postRestored r).free = s.free ∧
    (s.postRestored r).supply = s.supply ∧ (s.postRestored r).resetnLow = s.resetnLow ∧
    (s.postRestored r).kind = s.kind ∧ (s.postRestored r).pins = s.pins ∧ (s.postRestored r).store = s.store ∧
    (s.postRestored r).sfe = s.sfe ∧ (s.postRestored r).dar = s.dar ∧ (s.postRestored r).afc = s.afc ∧
    (s.postRestored r).fau = s.fau ∧ (s.postRestored r).crd = s.crd ∧ (s.postRestored r).drc = s.drc ∧
    (s.postRestored r).cdc = s.cdc ∧ (s.postRestored r).sst = s.sst := by
  have h := postRestored_sameBut s r
  exact ⟨h .pending rfl, h .now rfl, h .free rfl, h .supply rfl, h .resetnLow rfl, h .kind rfl, h .pins rfl, h .store rfl, h .sfe rfl, h .dar rfl, h .afc rfl, h .fau rfl, h .crd rfl, h .drc rfl, h .cdc rfl, h .sst rfl⟩

theorem requestSome_sameBut (s : State) (rs : RegionSet) : (s.requestSome rs).sameBut s [.fau, .sst] := by
  unfold State.requestSome
  try dsimp only
  repeat' split
  all_goals (intro b hb; cases b <;> first | simp [State.sameAt]; done | simp at hb; done)

@[simp] theorem requestSome_frame (s : State) (rs : RegionSet) :
    (s.requestSome rs).pending = s.pending ∧ (s.requestSome rs).now = s.now ∧ (s.requestSome rs).free = s.free ∧
    (s.requestSome rs).supply = s.supply ∧ (s.requestSome rs).resetnLow = s.resetnLow ∧
    (s.requestSome rs).kind = s.kind ∧ (s.requestSome rs).pins = s.pins ∧ (s.requestSome rs).store = s.store ∧
    (s.requestSome rs).sfe = s.sfe ∧ (s.requestSome rs).dar = s.dar ∧ (s.requestSome rs).afc = s.afc ∧
    (s.requestSome rs).crd = s.crd ∧ (s.requestSome rs).drc = s.drc ∧ (s.requestSome rs).cdc = s.cdc ∧
    (s.requestSome rs).tlg = s.tlg ∧ (s.requestSome rs).prt = s.prt := by
  have h := requestSome_sameBut s rs
  exact ⟨h .pending rfl, h .now rfl, h .free rfl, h .supply rfl, h .resetnLow rfl, h .kind rfl, h .pins rfl, h .store rfl, h .sfe rfl, h .dar rfl, h .afc rfl, h .crd rfl, h .drc rfl, h .cdc rfl, h .tlg rfl, h .prt rfl⟩

/-! ### Ports -/

@[simp] theorem setPort_frame (s : State) (p : Port) (x : PortIf) :
    (s.setPort p x).pending = s.pending ∧ (s.setPort p x).now = s.now ∧ (s.setPort p x).free = s.free ∧
    (s.setPort p x).supply = s.supply ∧ (s.setPort p x).resetnLow = s.resetnLow ∧
    (s.setPort p x).kind = s.kind ∧ (s.setPort p x).pins = s.pins ∧ (s.setPort p x).store = s.store ∧
    (s.setPort p x).sfe = s.sfe ∧ (s.setPort p x).dar = s.dar ∧ (s.setPort p x).afc = s.afc ∧
    (s.setPort p x).fau = s.fau ∧ (s.setPort p x).crd = s.crd ∧ (s.setPort p x).drc = s.drc ∧
    (s.setPort p x).cdc = s.cdc ∧ (s.setPort p x).tlg = s.tlg ∧ (s.setPort p x).sst = s.sst :=
  ⟨rfl, rfl, rfl, rfl, rfl, rfl, rfl, rfl, rfl, rfl, rfl, rfl, rfl, rfl, rfl, rfl, rfl⟩

@[simp] theorem setOut_frame (s : State) (p : Port) (bytes : List Byte) :
    (s.setOut p bytes).pending = s.pending ∧ (s.setOut p bytes).now = s.now ∧ (s.setOut p bytes).free = s.free ∧
    (s.setOut p bytes).supply = s.supply ∧ (s.setOut p bytes).resetnLow = s.resetnLow ∧
    (s.setOut p bytes).kind = s.kind ∧ (s.setOut p bytes).pins = s.pins ∧ (s.setOut p bytes).store = s.store ∧
    (s.setOut p bytes).sfe = s.sfe ∧ (s.setOut p bytes).dar = s.dar ∧ (s.setOut p bytes).afc = s.afc ∧
    (s.setOut p bytes).fau = s.fau ∧ (s.setOut p bytes).crd = s.crd ∧ (s.setOut p bytes).drc = s.drc ∧
    (s.setOut p bytes).cdc = s.cdc ∧ (s.setOut p bytes).tlg = s.tlg ∧ (s.setOut p bytes).sst = s.sst :=
  ⟨rfl, rfl, rfl, rfl, rfl, rfl, rfl, rfl, rfl, rfl, rfl, rfl, rfl, rfl, rfl, rfl, rfl⟩

theorem readPort_sameBut (s : State) (p : Port) (n : Nat) (e : Bool) : (s.readPort p n e).sameBut s [.prt] := by
  unfold State.readPort
  try dsimp only
  repeat' split
  all_goals (intro b hb; cases b <;> first | simp [State.sameAt]; done | simp at hb; done)

@[simp] theorem readPort_frame (s : State) (p : Port) (n : Nat) (e : Bool) :
    (s.readPort p n e).pending = s.pending ∧ (s.readPort p n e).now = s.now ∧ (s.readPort p n e).free = s.free ∧
    (s.readPort p n e).supply = s.supply ∧ (s.readPort p n e).resetnLow = s.resetnLow ∧
    (s.readPort p n e).kind = s.kind ∧ (s.readPort p n e).pins = s.pins ∧ (s.readPort p n e).store = s.store ∧
    (s.readPort p n e).sfe = s.sfe ∧ (s.readPort p n e).dar = s.dar ∧ (s.readPort p n e).afc = s.afc ∧
    (s.readPort p n e).fau = s.fau ∧ (s.readPort p n e).crd = s.crd ∧ (s.readPort p n e).drc = s.drc ∧
    (s.readPort p n e).cdc = s.cdc ∧ (s.readPort p n e).tlg = s.tlg ∧ (s.readPort p n e).sst = s.sst := by
  have h := readPort_sameBut s p n e
  exact ⟨h .pending rfl, h .now rfl, h .free rfl, h .supply rfl, h .resetnLow rfl, h .kind rfl, h .pins rfl, h .store rfl, h .sfe rfl, h .dar rfl, h .afc rfl, h .fau rfl, h .crd rfl, h .drc rfl, h .cdc rfl, h .tlg rfl, h .sst rfl⟩

end Sys2Proof.Machine
end

