-- ==== Sys2Proof/Laws/HandOver.lean ====
section
/-! SUPPORT. What the hand-overs at the end of a step do (`settle_handsOn`), once for every command. -/

namespace Sys2Proof.Machine

/-! ### Flags -/

/-- A set of flags stays set when the set that holds it does. -/
theorem flags_mono {x y b : BitVec 16} (h : y &&& x = x) (k : x &&& b = b) : y &&& b = b := by
  rw [← k, ← BitVec.and_assoc, h]

theorem flags_or_keeps (x b : BitVec 16) : (x ||| b) &&& x = x := by
  ext i hi
  simp only [BitVec.getElem_and, BitVec.getElem_or]
  cases x[i] <;> simp

theorem flags_or_sets (x b : BitVec 16) : (x ||| b) &&& b = b := by
  rw [BitVec.or_comm]
  exact flags_or_keeps b x

/-- `t` has the port state of `s` but for flags that were set (R175). -/
def State.onlyFlags (t s : State) : Prop :=
  t.prt.sending = s.prt.sending ∧ t.prt.held = s.prt.held ∧ t.prt.closed = s.prt.closed ∧
  t.prt.handover = s.prt.handover ∧ t.prt.gap = s.prt.gap ∧
  ∀ p, (t.port p).rx = (s.port p).rx ∧ (t.port p).response = (s.port p).response ∧
    (t.port p).prior = (s.port p).prior ∧ (t.port p).mask = (s.port p).mask ∧ (t.port p).out = (s.port p).out ∧
    (t.port p).flags &&& (s.port p).flags = (s.port p).flags

@[simp] theorem raise_port (s : State) (bits : Port → BitVec 16) (p : Port) :
    (s.raise bits).port p = (s.port p).raise (bits p) := by
  simp [State.port, State.raise]

theorem raise_onlyFlags (s : State) (bits : Port → BitVec 16) : (s.raise bits).onlyFlags s := by
  refine ⟨rfl, rfl, rfl, rfl, rfl, fun p => ?_⟩
  simp [PortIf.raise, flags_or_keeps]

theorem onlyFlags_trans {t u s : State} (h : t.onlyFlags u) (k : u.onlyFlags s) : t.onlyFlags s := by
  obtain ⟨h1, h2, h3, h4, hg, h5⟩ := h
  obtain ⟨k1, k2, k3, k4, kg, k5⟩ := k
  refine ⟨h1.trans k1, h2.trans k2, h3.trans k3, h4.trans k4, hg.trans kg, fun p => ?_⟩
  obtain ⟨a1, a2, a3, a4, a5, a6⟩ := h5 p
  obtain ⟨b1, b2, b3, b4, b5, b6⟩ := k5 p
  exact ⟨a1.trans b1, a2.trans b2, a3.trans b3, a4.trans b4, a5.trans b5, flags_mono a6 b6⟩

/-- Port state that is equal leaves only flags. -/
theorem onlyFlags_of_prt {t s : State} (h : t.prt = s.prt) : t.onlyFlags s := by
  have hp : ∀ p, t.port p = s.port p := fun p => by simp [State.port, h]
  exact ⟨by rw [h], by rw [h], by rw [h], by rw [h], by rw [h], fun p => by simp [hp p]⟩

theorem postAll_flagOnAll (s : State) (f : Flag) : (s.postAll f).flagOnAll f := by
  intro p
  simp only [State.flagOn, State.postAll, raise_port, PortIf.raise]
  exact flags_or_sets _ _

theorem flagOnAll_mono {t s : State} (h : t.onlyFlags s) (f : Flag) (k : s.flagOnAll f) : t.flagOnAll f :=
  fun p => flags_mono (h.2.2.2.2.2 p).2.2.2.2.2 (k p)

theorem log_onlyFlags (s : State) (e : Event) : (s.log e).onlyFlags s :=
  onlyFlags_trans (raise_onlyFlags (s.setTlg (s.tlg.written (.event e))) _) (onlyFlags_of_prt rfl)

theorem log_lastEvent (s : State) (e : Event) : (s.log e).lastEvent e := by
  simp [State.lastEvent, State.log, State.write, State.raise, State.setTlg, Tlg.written, Tlg.pushed]

theorem log_nextSeq (s : State) (e : Event) : (s.log e).tlg.nextSeq = s.tlg.nextSeq + 1 := rfl

/-! ### One write of the trend log -/

theorem losesAt_eq (x : Tlg) (p : Port) : x.losesAt p = x.passes (x.readers.get p) := rfl

theorem cursorThen_eq (x : Tlg) (p : Port) : x.cursorThen p = x.movedCursor (x.readers.get p) := rfl

theorem backlogThen_eq (x : Tlg) (p : Port) : x.backlogThen p = x.backlogAfterWrite (x.readers.get p) := rfl

theorem writeBits_eq (x : Tlg) (p : Port) : x.writeBits p = x.writeFlags (x.readers.get p) := by
  simp only [Tlg.writeBits, Tlg.writeFlags, Reader.crossed, BitVec.or_assoc]
  rfl

theorem written_wrote (x : Tlg) (body : RecordBody) : (x.written body).wrote x body :=
  ⟨rfl, rfl, rfl, rfl, fun p => by cases p <;> rfl⟩

theorem raise_flagsRaised (s : State) (bits : Port → BitVec 16) : (s.raise bits).flagsRaised s bits := rfl

/-- A flag and then other bits are both at once. -/
theorem raise_raise_prt (s : State) (a b : Port → BitVec 16) :
    ((s.raise a).raise b).prt = (s.raise (fun p => a p ||| b p)).prt := by
  simp only [State.raise, PerPort.map, PortIf.raise, BitVec.or_assoc]

/-- An event with its flag and record is what `posts` says. -/
theorem postAll_log_posts (s : State) (f : Flag) (e : Event) : ((s.postAll f).log e).posts s f e := by
  refine ⟨flagOnAll_mono (log_onlyFlags _ _) f (postAll_flagOnAll s f), log_lastEvent _ _, written_wrote _ _, ?_⟩
  simp only [writeBits_eq]
  exact raise_raise_prt s (fun _ => f.bit) (fun p => s.tlg.writeFlags (s.tlg.readers.get p))

/-! ### The DRC's rule -/

/-- What the DRC's choices read agrees: every part but the DRC's, the log and the ports, the need apart. -/
structure SameInputs (t w : State) : Prop where
  parts : t.sameBut w [.afc, .drc, .tlg, .prt]
  afc : ∃ n, t.afc = { w.afc with need := n }
  call : t.drc.call = w.drc.call
  cold : t.drc.cold = w.drc.cold

theorem SameInputs.requiredAbsent {t w : State} (h : SameInputs t w) : t.requiredAbsent = w.requiredAbsent := by
  have h1 : t.sst = w.sst := h.parts .sst rfl
  have h2 : t.crd = w.crd := h.parts .crd rfl
  simp only [State.requiredAbsent, State.stagePresent, h1, h2]

theorem SameInputs.holds {t w : State} (h : SameInputs t w) : t.holds = w.holds := by
  have hs : t.sst = w.sst := h.parts .sst rfl
  have hc : t.cdc = w.cdc := h.parts .cdc rfl
  have hd : t.dar = w.dar := h.parts .dar rfl
  have hf : t.sfe = w.sfe := h.parts .sfe rfl
  obtain ⟨n, ha⟩ := h.afc
  simp only [State.holds, h.requiredAbsent, h.cold]
  simp only [State.holdTank, State.holdQuiet, State.level, State.probeLevel, State.rh, hs, hc, hd, hf, ha]

theorem SameInputs.choice {t w : State} (h : SameInputs t w) : t.choice = w.choice := by
  have hd : t.dar = w.dar := h.parts .dar rfl
  simp only [State.choice, h.holds, h.call, hd]

theorem SameInputs.safetyStop {t w : State} (h : SameInputs t w) : t.safetyStop = w.safetyStop := by
  have hf : t.sfe = w.sfe := h.parts .sfe rfl
  obtain ⟨n, ha⟩ := h.afc
  simp only [State.safetyStop, State.rh, h.holds, hf, ha]

theorem SameInputs.normalStop {t w : State} (h : SameInputs t w) : t.normalStop = w.normalStop := by
  simp only [State.normalStop, h.holds, h.call]

theorem SameInputs.canStart {t w : State} (h : SameInputs t w) (off : t.drc.off = w.drc.off) :
    t.canStart = w.canStart := by
  obtain ⟨n, ha⟩ := h.afc
  simp only [State.canStart, off, ha]

theorem goto_off (s : State) (st : DryState) : (s.goto st).drc = { s.drc with state := st } := by
  unfold State.goto
  split
  · rename_i h; cases hd : s.drc; simp_all
  · simp

/-! ### What a change of the drying state posts (R121, R124) -/

theorem raise_prt (s : State) (bits : Port → BitVec 16) :
    (s.raise bits).prt = { s.prt with ports := s.prt.ports.map (fun p x => x.raise (bits p)) } := rfl

theorem postAll_prt {s u : State} (h : s.prt = u.prt) (f : Flag) : (s.postAll f).prt = (u.postAll f).prt := by
  simp only [State.postAll, raise_prt, h]

/-- A flag posted twice is posted once (R175). -/
theorem postAll_postAll (s : State) (f : Flag) : (s.postAll f).postAll f = s.postAll f := by
  have h : ∀ x : PortIf, (x.raise f.bit).raise f.bit = x.raise f.bit := by
    intro x
    simp only [PortIf.raise, BitVec.or_assoc, BitVec.or_self]
  simp only [State.postAll, State.raise, PerPort.map, h]

theorem log_prt {s u : State} (h : s.prt = u.prt) (k : s.tlg = u.tlg) (e : Event) : (s.log e).prt = (u.log e).prt := by
  simp only [State.log, State.write, raise_prt, setTlg_prt, h, k]

theorem log_tlg {s u : State} (k : s.tlg = u.tlg) (e : Event) : (s.log e).tlg = (u.log e).tlg := by
  simp only [State.log, State.write, raise_frame, setTlg_tlg, k]

theorem goto_tlg (s : State) (st : DryState) : (s.goto st).tlg = s.tlg := by
  unfold State.goto
  split <;> simp

theorem goto_prt (s : State) (st : DryState) :
    (s.goto st).prt = if s.drc.state = st then s.prt else (s.postAll .dry).prt := by
  unfold State.goto
  split
  · rfl
  · exact postAll_prt rfl _

theorem tellsDrying_onlyFlags (v : State) (new : DryState) (r : LockReason) : (v.tellsDrying new r).onlyFlags v := by
  unfold State.tellsDrying
  repeat' split
  · exact onlyFlags_of_prt rfl
  · exact onlyFlags_trans (log_onlyFlags _ _) (onlyFlags_trans (raise_onlyFlags _ _) (raise_onlyFlags _ _))
  · exact raise_onlyFlags _ _

theorem tellsDrying_congr {v w : State} (h : v.drc.state = w.drc.state) (k : v.prt = w.prt) (l : v.tlg = w.tlg)
    (new : DryState) (r : LockReason) :
    (v.tellsDrying new r).prt = (w.tellsDrying new r).prt ∧ (v.tellsDrying new r).tlg = (w.tellsDrying new r).tlg := by
  unfold State.tellsDrying
  rw [h]
  repeat' split
  · exact ⟨k, l⟩
  · exact ⟨log_prt (postAll_prt (postAll_prt k _) _) l _, log_tlg l _⟩
  · exact ⟨postAll_prt k _, l⟩

/-! ### The DRC's rule, as `handsOn` says it -/

/-- The DRC's rule in one state `w` whose marks are up to date. -/
structure Ruled (r w : State) : Prop where
  parts : r.sameBut w [.drc, .tlg, .prt]
  state : r.drc.state = w.dryingFrom w.drc.minRun w.drc.state
  drc : r.drc = w.drc.movedTo r.drc.state w.sfe.coil.temp w.dryingReason
  prt : r.prt = (w.tellsDrying r.drc.state w.dryingReason).prt
  tlg : r.tlg = (w.tellsDrying r.drc.state w.dryingReason).tlg

theorem choice_resting (s : State) : s.choice ≠ .lockout ∧ s.choice.on = false := by
  unfold State.choice
  repeat' split
  all_goals simp [DryState.on]

/-- The record of a compressor that stops into POST-RUN. -/
theorem movedTo_postRun (x : Drc) (h : x.state = .pulldown ∨ x.state = .running) (coil : Option Int) (r : LockReason) :
    x.movedTo .postRun coil r = { x.stopped with state := .postRun, postRun := some 0 } := by
  have hn : DryState.postRun ≠ x.state := by rcases h with h | h <;> simp [h]
  unfold Drc.movedTo
  dsimp only
  rw [if_neg hn, if_pos h]
  rfl

/-- The record that moves to the re-entry choice. -/
theorem movedTo_choice (x : Drc) (s : State) (h : s.choice ≠ x.state) (coil : Option Int) (r : LockReason) :
    x.movedTo s.choice coil r =
      { (if x.state = .pulldown ∨ x.state = .running then x.stopped else x) with state := s.choice } := by
  have hc : s.choice = .off ∨ s.choice = .satisfied ∨ s.choice = .hold ∨ s.choice = .startWait := by
    unfold State.choice
    repeat' split
    all_goals simp
  unfold Drc.movedTo
  rw [if_neg h]
  rcases hc with hc | hc | hc | hc <;> rw [hc] <;> rfl

theorem Ruled.refl (w : State) (h : w.dryingFrom w.drc.minRun w.drc.state = w.drc.state) : Ruled w w where
  parts := fun b _ => by cases b <;> rfl
  state := h.symm
  drc := by simp [Drc.movedTo]
  prt := by simp [State.tellsDrying]
  tlg := by simp [State.tellsDrying]

/-- A change to a state other than LOCKOUT, with the record it begins with. -/
theorem Ruled.move (w : State) (x : Drc) (st : DryState) (hx : x.state = w.drc.state) (hl : st ≠ .lockout)
    (hm : { x with state := st } = w.drc.movedTo st w.sfe.coil.temp w.dryingReason)
    (hs : w.dryingFrom w.drc.minRun w.drc.state = st) : Ruled ((w.setDrc x).goto st) w := by
  have hst : ((w.setDrc x).goto st).drc.state = st := by rw [goto_off]
  refine ⟨fun b hb => ?_, hst.trans hs.symm, ?_, ?_, ?_⟩
  · cases b <;> first | simp [State.sameAt]; done | simp at hb; done
  · rw [hst, ← hm, goto_off]
    rfl
  · rw [hst, goto_prt]
    simp only [setDrc_drc, hx, State.tellsDrying, hl, if_false, setDrc_prt]
    by_cases h : w.drc.state = st
    · rw [if_pos h, if_pos h.symm]
    · rw [if_neg h, if_neg (Ne.symm h)]
      exact postAll_prt rfl _
  · rw [hst, goto_tlg]
    simp only [State.tellsDrying, hl, if_false]
    split <;> rfl

/-- Entry to LOCKOUT with a reason that is not stored. -/
theorem Ruled.lockout (w : State) (hx : w.drc.state ≠ .lockout)
    (hs : w.dryingFrom w.drc.minRun w.drc.state = .lockout) : Ruled (w.enterLockout w.dryingReason) w := by
  have hn : w.dryingReason.isStored = false := by unfold State.dryingReason; split <;> rfl
  unfold State.enterLockout
  simp only [hn, Bool.false_eq_true, if_false]
  generalize hd : ({ (if w.drc.state.on then w.drc.stopped else w.drc) with
      run := none, minRun := false, frost := none, defrost := none, defrostEnd := none, postRun := none
      pull := (if w.drc.state.on then w.drc.stopped else w.drc).pull.ended, reason := some w.dryingReason } : Drc) = d
  have h1 : d.state = w.drc.state := by subst hd; split <;> rfl
  have hm : { d with state := .lockout } = w.drc.movedTo .lockout w.sfe.coil.temp w.dryingReason := by
    subst hd
    unfold Drc.movedTo
    rw [if_neg hx.symm]
    by_cases hon : w.drc.state = .pulldown ∨ w.drc.state = .running
    · have : w.drc.state.on = true := by rcases hon with h | h <;> simp [h, DryState.on]
      simp only [this, if_true, if_pos hon, Drc.stopped, PullRecord.ended]
      by_cases hc : w.drc.pull.outcome = some .checking <;> simp [hc]
    · have : w.drc.state.on = false := by
        simp only [not_or] at hon
        simp [DryState.on, hon]
      simp only [this, Bool.false_eq_true, if_false, if_neg hon, PullRecord.ended]
  have ht : (w.setDrc d).goto .lockout = (w.setDrc { d with state := .lockout }).postAll .dry := by
    unfold State.goto
    rw [if_neg (by simpa [h1] using hx)]
    rfl
  rw [ht]
  refine ⟨fun b hb => ?_, ?_, ?_, ?_, ?_⟩
  · cases b <;> first | simp [State.sameAt]; done | simp at hb; done
  · simp [hs]
  · simp [hm.symm]
  · simp only [State.tellsDrying, log_frame, postAll_frame, setDrc_drc, if_neg hx.symm, if_true]
    exact log_prt (postAll_prt (postAll_prt rfl _) _) rfl _
  · simp only [State.tellsDrying, log_frame, postAll_frame, setDrc_drc, if_neg hx.symm, if_true]
    exact log_tlg rfl _

/-- The re-entry choice from a resting state, with the start of the compressor (R107, R108, R110). -/
theorem Ruled.reenter (w : State) (hx : ¬(w.drc.state = .pulldown ∨ w.drc.state = .running))
    (hs : w.dryingFrom w.drc.minRun w.drc.state =
      if w.choice = .startWait ∧ w.canStart = true then .pulldown else w.choice) : Ruled w.reenter w := by
  have hcl := choice_resting w
  have cs : (w.goto w.choice).canStart = w.canStart := by
    simp only [State.canStart, goto_off, goto_frame]
  have hw : w = w.setDrc w.drc := rfl
  unfold State.reenter
  dsimp only
  split
  · rename_i hc
    have hc' : w.choice = .startWait ∧ w.canStart = true := by simpa [goto_off, cs] using hc
    rw [if_pos hc'] at hs
    rw [hc'.1]
    have htd : (w.goto .startWait).drc = { w.drc with state := .startWait } := goto_off w _
    have hp : ((w.goto .startWait).postAll .dry).prt = (w.postAll .dry).prt := by
      unfold State.goto
      split
      · rfl
      · rw [postAll_postAll]
        exact postAll_prt rfl _
    unfold State.startCompressor
    have ht : ∀ x : Drc, x.state = .startWait → ((w.goto .startWait).setDrc x).goto .pulldown =
        ((w.goto .startWait).setDrc { x with state := .pulldown }).postAll .dry := by
      intro x hxs
      rw [State.goto, if_neg (by simp [hxs])]
      rfl
    rw [ht _ (by rw [htd])]
    have hnp : DryState.pulldown ≠ w.drc.state := fun h => hx (Or.inl h.symm)
    refine ⟨fun b hb => ?_, ?_, ?_, ?_, ?_⟩
    · cases b <;> first | simp [State.sameAt]; done | simp at hb; done
    · simp [hs]
    · simp [Drc.movedTo, htd, if_neg hnp, if_neg hx]
    · simp only [State.tellsDrying, postAll_frame, setDrc_drc, if_neg hnp]
      rw [if_neg (by simp)]
      exact (postAll_prt rfl _).trans hp
    · simp only [State.tellsDrying, postAll_frame, setDrc_drc, if_neg hnp]
      rw [if_neg (by simp)]
      simp
  · rename_i hc
    have hc' : ¬(w.choice = .startWait ∧ w.canStart = true) := by simpa [goto_off, cs] using hc
    rw [if_neg hc'] at hs
    refine Ruled.move w w.drc w.choice rfl hcl.1 ?_ hs
    by_cases h : w.choice = w.drc.state
    · unfold Drc.movedTo
      rw [if_pos h, h]
    · rw [movedTo_choice _ _ h, if_neg hx]

/-- The DRC's rule does what `Ruled` says. -/
theorem drcRule_ruled (w : State) : Ruled w.drcRule w := by
  have lock : w.drc.state ≠ .lockout → w.dryingFrom w.drc.minRun w.drc.state = .lockout →
      ∀ r, r = w.dryingReason → Ruled (w.enterLockout r) w := by
    intro h k r hr
    subst hr
    exact Ruled.lockout w h k
  have fan : w.afc.fault = true → LockReason.fan = w.dryingReason := fun h => by simp [State.dryingReason, h]
  have coil : ¬w.afc.fault = true → LockReason.coilSensor = w.dryingReason := fun h => by
    simp [State.dryingReason, h]
  unfold State.drcRule
  have rest : w.drc.state = .off ∨ w.drc.state = .satisfied ∨ w.drc.state = .hold ∨ w.drc.state = .startWait →
      Ruled (if w.afc.fault then w.enterLockout .fan else w.reenter) w := by
    intro h
    split
    · rename_i hf
      exact lock (by rcases h with h | h | h | h <;> simp [h])
        (by rcases h with h | h | h | h <;> simp [h, State.dryingFrom, hf]) _ (fan hf)
    · rename_i hf
      exact Ruled.reenter w (by rcases h with h | h | h | h <;> simp [h])
        (by rcases h with h | h | h | h <;> simp [h, State.dryingFrom, hf])
  have running : w.drc.state = .pulldown ∨ w.drc.state = .running →
      Ruled (if w.afc.fault then w.enterLockout .fan
        else if w.sfe.coil.temp.isNone then w.enterLockout .coilSensor
        else if w.safetyStop then w.safetyStopNow
        else if w.drc.minRun && w.normalStop then w.normalStopNow
        else w) w := by
    intro h
    have hnl : w.drc.state ≠ .lockout := by rcases h with h | h <;> simp [h]
    have hdf : w.dryingFrom w.drc.minRun w.drc.state =
        if w.afc.fault || w.sfe.coil.temp.isNone then .lockout
        else if w.safetyStop then (if w.afc.stalled || w.requiredAbsent then w.choice else .postRun)
        else if w.drc.minRun && w.normalStop then .postRun else w.drc.state := by
      rcases h with h | h <;> simp [h, State.dryingFrom]
    have post : w.dryingFrom w.drc.minRun w.drc.state = .postRun → Ruled (w.setDrc w.drc.stopped).enterPostRun w := by
      intro hd
      unfold State.enterPostRun
      refine Ruled.move w _ .postRun rfl (by simp) ?_ hd
      rw [movedTo_postRun _ h]
      rfl
    split
    · rename_i hf
      exact lock hnl (by rw [hdf]; simp [hf]) _ (fan hf)
    · rename_i hf
      split
      · rename_i hc
        exact lock hnl (by rw [hdf]; simp [hc]) _ (coil hf)
      · rename_i hc
        have hdf' : w.dryingFrom w.drc.minRun w.drc.state =
            if w.safetyStop then (if w.afc.stalled || w.requiredAbsent then w.choice else .postRun)
            else if w.drc.minRun && w.normalStop then .postRun else w.drc.state := by
          rw [hdf]; simp [hf, hc]
        split
        · rename_i hss
          rw [if_pos hss] at hdf'
          unfold State.safetyStopNow
          dsimp only
          split
          · rename_i hav
            have : (w.afc.stalled || w.requiredAbsent) = false := by
              simp at hav; simp [hav]
            rw [this] at hdf'
            exact post hdf'
          · rename_i hav
            have hav' : (w.afc.stalled || w.requiredAbsent) = true := by
              simp at hav
              cases h1 : w.afc.stalled <;> simp_all
            rw [hav'] at hdf'
            simp only [if_true] at hdf'
            have hch : (w.setDrc w.drc.stopped).choice = w.choice := by
              simp [State.choice, State.holds, State.holdTank, State.holdQuiet, State.level, State.probeLevel,
                State.rh, State.requiredAbsent, State.stagePresent, Drc.stopped]
            unfold State.reenter
            dsimp only
            rw [hch]
            have hcs : ∀ x, ((w.setDrc w.drc.stopped).goto x).canStart = false := by
              intro x
              simp [State.canStart, goto_off, Drc.stopped]
            rw [hcs]
            simp only [Bool.and_false, Bool.false_eq_true, if_false]
            have hcl := choice_resting w
            have hne : w.choice ≠ w.drc.state := by
              intro e
              have := hcl.2
              rw [e] at this
              rcases h with h | h <;> simp [h, DryState.on] at this
            refine Ruled.move w _ w.choice rfl hcl.1 ?_ hdf'
            rw [movedTo_choice _ _ hne, if_pos h]
        · rename_i hss
          rw [if_neg hss] at hdf'
          split
          · rename_i hns
            rw [if_pos hns] at hdf'
            exact post hdf'
          · rename_i hns
            rw [if_neg hns] at hdf'
            exact Ruled.refl w hdf'
  split
  · exact rest (Or.inl ‹_›)
  · exact rest (Or.inr (Or.inl ‹_›))
  · exact rest (Or.inr (Or.inr (Or.inl ‹_›)))
  · exact rest (Or.inr (Or.inr (Or.inr ‹_›)))
  · exact running (Or.inl ‹_›)
  · exact running (Or.inr ‹_›)
  · rename_i h
    split
    · rename_i hf
      exact lock (by simp [h]) (by simp [h, State.dryingFrom, hf]) _ (fan hf)
    · rename_i hf
      split
      · rename_i hc
        exact lock (by simp [h]) (by simp [h, State.dryingFrom, hc]) _ (coil hf)
      · rename_i hc
        exact Ruled.refl w (by simp [h, State.dryingFrom, hf, hc])
  · rename_i h
    split
    · rename_i hf
      exact lock (by simp [h]) (by simp [h, State.dryingFrom, hf]) _ (fan hf)
    · rename_i hf
      exact Ruled.refl w (by simp [h, State.dryingFrom, hf])
  · rename_i h
    exact Ruled.refl w (by simp [h, State.dryingFrom])

/-- A record that moves keeps its marks, and its off-timer unless the compressor stops. -/
theorem movedTo_marks (x : Drc) (new : DryState) (coil : Option Int) (r : LockReason) :
    (x.movedTo new coil r).call = x.call ∧ (x.movedTo new coil r).cold = x.cold ∧
    (x.state.on = false → (x.movedTo new coil r).off = x.off) := by
  unfold Drc.movedTo
  split
  · exact ⟨rfl, rfl, fun _ => rfl⟩
  · dsimp only
    by_cases h : x.state = .pulldown ∨ x.state = .running
    · have hon : x.state.on = true := by rcases h with h | h <;> simp [h, DryState.on]
      rw [if_pos h, hon]
      cases new <;> exact ⟨rfl, rfl, fun h => by cases h⟩
    · rw [if_neg h]
      cases new <;> exact ⟨rfl, rfl, fun _ => rfl⟩

/-- A record that moves keeps what it holds of the readings. -/
theorem movedTo_readings (x : Drc) (new : DryState) (coil : Option Int) (r : LockReason) :
    (x.movedTo new coil r).readings = x.readings := by
  unfold Drc.movedTo
  split
  · rfl
  · dsimp only
    by_cases h : x.state = .pulldown ∨ x.state = .running
    · rw [if_pos h]
      cases new <;> rfl
    · rw [if_neg h]
      cases new <;> rfl

/-! ### The hand-over -/

/-- What the DRC keeps of the readings is what R103 says. -/
theorem take_after (x : HeldReadings) (rh temp coil : Option Int) : x.take rh temp coil = x.after rh temp coil := by
  cases rh <;> cases temp <;> cases coil <;> rfl

/-- Everything the end of a step does (`State.handsOn`). -/
theorem settle_handsOn (v : State) : v.settle.handsOn v := by
  have hr := drcRule_ruled v.publish.marks
  have hdrc : v.publish.marks.drc = { v.drc with
      readings := v.drc.readings.after v.rh v.roomTemp v.sfe.coil.temp
      call := nextCall v.dar.plan.dry v.rh v.drc.call, cold := nextCold v.roomTemp v.drc.cold } := by
    rw [← take_after]
    rfl
  generalize hw : v.publish.marks = w at hr hdrc
  have wsame : w.sameBut v [.afc, .fau, .drc] := by
    subst hw
    intro b hb
    cases b <;> first | rfl | simp at hb
  have wfau : w.fau = { v.fau with d := v.derating, running := v.afc.isRunning } := by subst hw; rfl
  have wafc : w.afc = { v.afc with
      q := v.afc.airflow v.derating, floor := v.afc.dryFloor v.sst.settings.airflow v.derating } := by
    subst hw; rfl
  have hs : v.settle = w.drcRule.handNeed := by subst hw; rfl
  have ht : v.settle.drc = w.drcRule.drc := by rw [hs]; rfl
  have wsfe : w.sfe = v.sfe := wsame .sfe rfl
  have wreason : w.dryingReason = v.dryingReason := by simp only [State.dryingReason, wafc]
  have rafc : w.drcRule.afc = w.afc := hr.parts .afc rfl
  have tafc : v.settle.afc = { v.afc with
      q := v.afc.airflow v.derating
      floor := v.afc.dryFloor v.sst.settings.airflow v.derating
      need := v.settle.drc.needOf } := by
    rw [ht, hs]
    simp only [State.handNeed, setAfc_afc, rafc, wafc]
  have marks := movedTo_marks w.drc w.drcRule.drc.state w.sfe.coil.temp w.dryingReason
  rw [← hr.drc] at marks
  have si : SameInputs v.settle w := {
    parts := fun b hb => by
      have hb' : [Part.drc, .tlg, .prt].contains b = false ∨ b = .afc := by
        cases b <;> first | exact Or.inl rfl | exact Or.inr rfl | simp at hb
      rcases hb' with hb' | rfl
      · have := hr.parts b hb'
        rw [hs]
        cases b <;> first | simp at hb; done | exact this
      · simp at hb
    afc := ⟨v.settle.drc.needOf, by rw [tafc, wafc]⟩
    call := by rw [ht, marks.1]
    cold := by rw [ht, marks.2.1] }
  have hstate : v.settle.drc.state = v.settle.dryingFrom v.drc.minRun v.drc.state := by
    rw [ht, hr.state]
    have hf : v.settle.sfe = w.sfe := si.parts .sfe rfl
    obtain ⟨n, ha⟩ := si.afc
    rw [hdrc]
    dsimp only
    have hoff : v.drc.state.on = false → v.settle.canStart = w.canStart := by
      intro hn
      refine si.canStart ?_
      rw [ht]
      exact marks.2.2 (by rw [hdrc]; exact hn)
    cases hx : v.drc.state <;>
      simp only [State.dryingFrom, si.choice, si.safetyStop, si.normalStop, si.requiredAbsent, hf, ha] <;>
      rw [hoff (by simp [hx, DryState.on])]
  have told := tellsDrying_congr (v := w) (w := v) (by rw [hdrc]) (wsame .prt rfl) (wsame .tlg rfl)
    v.settle.drc.state v.dryingReason
  refine ⟨?_, ?_, tafc, hstate, ?_, ?_, ?_⟩
  · intro b hb
    have h1 := si.parts b (by cases b <;> first | rfl | simp at hb)
    have h2 := wsame b (by cases b <;> first | rfl | simp at hb)
    cases b <;> first | exact Eq.trans h1 h2 | simp at hb
  · exact (si.parts .fau rfl).trans wfau
  · have h := hr.drc
    rw [← ht, wreason, wsfe, hdrc] at h
    exact h
  · have h := hr.prt
    rw [← ht, wreason] at h
    rw [← told.1, ← h, hs]
    rfl
  · have h := hr.tlg
    rw [← ht, wreason] at h
    rw [← told.2, ← h, hs]
    rfl

/-- After the hand-overs the DRC holds the readings as R103 says. -/
theorem handsOn_readings {t v : State} (h : t.handsOn v) :
    t.drc.readings = v.drc.readings.after v.rh v.roomTemp v.sfe.coil.temp := by
  rw [h.2.2.2.2.1, movedTo_readings]

/-- `t` differs from two states in the same parts when these agree everywhere else. -/
theorem sameBut_congr {t v w : State} {ps : List Part} (h : ∀ b, ps.contains b = false → v.sameAt w b) :
    t.sameBut v ps ↔ t.sameBut w ps := by
  constructor <;> intro k b hb <;> have h1 := h b hb <;> have h2 := k b hb <;> cases b <;>
    first | exact h2.trans h1 | exact h2.trans h1.symm

/-- What a hand-over publishes anew does not matter before it. -/
theorem handsOn_stale (t v : State) (d : Nat) (r : Bool) (q : Nat) (f : Option Nat) (n : Need) :
    t.handsOn ((v.setFau { v.fau with d := d, running := r }).setAfc { v.afc with q := q, floor := f, need := n }) ↔
      t.handsOn v := by
  have h := fun new x => tellsDrying_congr (v := (v.setFau { v.fau with d := d, running := r }).setAfc
    { v.afc with q := q, floor := f, need := n }) (w := v) rfl rfl rfl new x
  unfold State.handsOn
  rw [sameBut_congr (w := v) (fun b hb => by cases b <;> first | rfl | simp at hb), (h _ _).1, (h _ _).2]
  exact Iff.rfl

/-- What the fan gives the compressor after a start or a run on: neither stalled nor in fault. -/
theorem canStart_fan {t : State} (h : t.canStart = true) : t.afc.stalled = false ∧ t.afc.fault = false := by
  simp only [State.canStart, Bool.and_eq_true, Bool.not_eq_true'] at h
  exact ⟨h.1.1.2, h.1.2⟩

theorem choice_startWait {t : State} (h : t.choice = .startWait) : t.holds.isEmpty = true := by
  unfold State.choice at h
  repeat' split at h
  all_goals simp_all

theorem holds_tank_false {t : State} (h : t.holds.tank = false) :
    t.cdc.presence = .present ∧ t.cdc.full = false ∧ t.level.known = true := by
  simp only [State.holds, State.holdTank, Bool.or_eq_false_iff, bne_eq_false_iff_eq, Bool.not_eq_false'] at h
  exact ⟨h.1.1, h.1.2, h.2⟩

/-- After the hand-overs the compressor is on under the conditions of R102 alone. -/
theorem handsOn_compressorLaw {t v : State} (h : t.handsOn v) : t.compressorLaw := by
  intro hon
  have hs := h.2.2.2.1
  rw [hs] at hon
  have start : ∀ x : DryState, x = .off ∨ x = .satisfied ∨ x = .hold ∨ x = .startWait →
      (t.dryingFrom v.drc.minRun x).on = true →
      t.cdc.presence = .present ∧ t.cdc.full = false ∧ t.level.known = true ∧ t.requiredAbsent = false ∧
      t.afc.stalled = false ∧ t.afc.fault = false := by
    intro x hx hx2
    have e : t.dryingFrom v.drc.minRun x = if t.afc.fault then .lockout
        else if t.choice = .startWait ∧ t.canStart = true then .pulldown else t.choice := by
      rcases hx with rfl | rfl | rfl | rfl <;> rfl
    rw [e] at hx2
    split at hx2
    · simp [DryState.on] at hx2
    · split at hx2
      · rename_i hc
        have hh := choice_startWait hc.1
        simp only [HoldSet.isEmpty, Bool.not_eq_true', Bool.or_eq_false_iff] at hh
        obtain ⟨a, b, c⟩ := holds_tank_false hh.1.1.1.1.1
        exact ⟨a, b, c, hh.2, canStart_fan hc.2⟩
      · rw [(choice_resting t).2] at hx2
        cases hx2
  have run : ∀ x : DryState, x = .pulldown ∨ x = .running → (t.dryingFrom v.drc.minRun x).on = true →
      t.cdc.presence = .present ∧ t.cdc.full = false ∧ t.level.known = true ∧ t.requiredAbsent = false ∧
      t.afc.stalled = false ∧ t.afc.fault = false := by
    intro x hx hx2
    have e : t.dryingFrom v.drc.minRun x = if t.afc.fault || t.sfe.coil.temp.isNone then .lockout
        else if t.safetyStop then (if t.afc.stalled || t.requiredAbsent then t.choice else .postRun)
        else if v.drc.minRun && t.normalStop then .postRun else x := by
      rcases hx with rfl | rfl <;> rfl
    rw [e] at hx2
    split at hx2
    · simp [DryState.on] at hx2
    · rename_i hf
      split at hx2
      · split at hx2
        · rw [(choice_resting t).2] at hx2; cases hx2
        · simp [DryState.on] at hx2
      · rename_i hss
        simp only [State.safetyStop, Bool.not_eq_true, Bool.or_eq_false_iff] at hss hf
        obtain ⟨a, b, c⟩ := holds_tank_false hss.1.1.1
        exact ⟨a, b, c, hss.1.1.2, hss.2, hf.1⟩
  cases hx : v.drc.state <;> rw [hx] at hon
  · exact start _ (by simp) hon
  · exact start _ (by simp) hon
  · exact start _ (by simp) hon
  · exact start _ (by simp) hon
  · exact run _ (by simp) hon
  · exact run _ (by simp) hon
  · simp only [State.dryingFrom] at hon; split at hon <;> simp [DryState.on] at hon
  · simp only [State.dryingFrom] at hon; split at hon <;> simp [DryState.on] at hon
  · simp [State.dryingFrom, DryState.on] at hon

theorem settle_compressorLaw (v : State) : v.settle.compressorLaw := handsOn_compressorLaw (settle_handsOn v)

end Sys2Proof.Machine
end

