-- ==== Sys2Proof/Laws/Answers.lean ====
section
/-! SUPPORT. What a frame's port does: how a taken frame's row runs, and what an answer leaves unchanged. -/

namespace Sys2Proof.Machine

/-- `r` agrees with `s` but for the reception of port `p`. -/
theorem heard_onlyAnswers (s : State) (p : Port) : (s.heard p).onlyAnswers s p := by
  refine ⟨fun b hb => ?_, rfl, rfl, rfl, fun h => ⟨rfl, if_neg h⟩, fun q => ?_⟩
  · cases b <;> first | rfl | simp at hb
  · cases p <;> cases q <;> exact ⟨rfl, rfl, fun h => by first | rfl | exact absurd rfl h⟩

theorem respond_onlyAnswers (w : State) (p : Port) (tag : Byte) (r : Reply) : (w.respond p tag r).onlyAnswers w p := by
  refine ⟨fun b hb => ?_, ?_⟩
  · cases b <;> first | (simp at hb; done) | (cases p <;> rfl)
  · cases p <;> refine ⟨rfl, rfl, rfl, fun h => by first | exact ⟨rfl, rfl⟩ | exact absurd rfl h, fun q => ?_⟩ <;>
      cases q <;> exact ⟨rfl, rfl, fun h => by first | rfl | exact absurd rfl h⟩

theorem sameBut_trans {t u s : State} {ps : List Part} (h : t.sameBut u ps) (k : u.sameBut s ps) : t.sameBut s ps := by
  intro b hb
  have h1 := h b hb
  have h2 := k b hb
  cases b <;> exact h1.trans h2

theorem onlyAnswers_trans {t u s : State} {p : Port} (h : t.onlyAnswers u p) (k : u.onlyAnswers s p) :
    t.onlyAnswers s p := by
  obtain ⟨h1, h2, h3, h4, h5, h6⟩ := h
  obtain ⟨k1, k2, k3, k4, k5, k6⟩ := k
  refine ⟨sameBut_trans h1 k1, h2.trans k2, h3.trans k3, h4.trans k4, fun hp => ⟨(h5 hp).1.trans (k5 hp).1, (h5 hp).2.trans (k5 hp).2⟩, fun q => ?_⟩
  exact ⟨(h6 q).1.trans (k6 q).1, (h6 q).2.1.trans (k6 q).2.1, fun hq => ((h6 q).2.2 hq).trans ((k6 q).2.2 hq)⟩

/-- An answer that changes no more than the answer itself. -/
theorem respond_heard_onlyAnswers (s : State) (p : Port) (tag : Byte) (r : Reply) :
    ((s.heard p).respond p tag r).onlyAnswers s p :=
  onlyAnswers_trans (respond_onlyAnswers _ p tag r) (heard_onlyAnswers s p)

theorem respond_answered (w : State) (p : Port) (tag : Byte) (r : Reply) :
    (w.respond p tag r).answered p tag r.status r.payload := by
  cases p
  · rfl
  · exact ⟨rfl, rfl⟩
  · rfl

/-- The bytes MISO carried in a frame's window are noted on PANEL; LINK and SERVICE have no such window. -/
def State.noted (t s : State) (p : Port) (f : Frame) : State :=
  match p with
  | .panel => t.setOut .panel ((s.port .panel).windowMiso (frameBytes f))
  | .link | .service => t

theorem setOut_onlyAnswers (w : State) (p : Port) (bytes : List Byte) : (w.setOut p bytes).onlyAnswers w p := by
  refine ⟨fun b hb => ?_, rfl, rfl, rfl, fun _ => ⟨rfl, rfl⟩, fun q => ?_⟩
  · cases b <;> first | rfl | simp at hb
  · cases p <;> cases q <;> exact ⟨rfl, rfl, fun h => by first | rfl | exact absurd rfl h⟩

theorem noted_onlyAnswers {t w : State} {p : Port} (h : t.onlyAnswers w p) (s : State) (f : Frame) :
    (t.noted s p f).onlyAnswers w p := by
  cases p
  · exact onlyAnswers_trans (setOut_onlyAnswers _ _ _) h
  · exact h
  · exact h

theorem noted_answered {t : State} {p : Port} {tag : Byte} {st : Status} {pl : List Byte}
    (h : t.answered p tag st pl) (s : State) (f : Frame) : (t.noted s p f).answered p tag st pl := by
  cases p <;> exact h

/-- A live part with SERVICE open and TXD free takes the frame in full. -/
theorem receive_of_live {s : State} {p : Port} (hl : s.live = true) (hc : p = .service → s.prt.closed = false)
    (hs : p = .link → s.prt.sending = false) (f : Frame) :
    s.receive p f = ((s.heard p).takeFrame p f).noted s p f := by
  cases p
  · simp [State.receive, hl, State.heard, State.noted]
  · have h : (s.setRx .link none).prt.sending = false := hs rfl
    simp [State.receive, hl, State.heard, State.linkFrame, h, State.noted]
  · have h : (s.setRx .service none).prt.closed = false := hc rfl
    simp [State.receive, hl, State.heard, h, State.noted]

theorem takes_live {s : State} {p : Port} (h : s.takes p = true) : s.live = true := by
  simp only [State.takes, State.up, Bool.and_eq_true] at h
  exact h.1.1.1

theorem takes_done {s : State} {p : Port} (h : s.takes p = true) : s.sst.startUp = .done := by
  simp only [State.takes, State.up, Bool.and_eq_true, beq_iff_eq] at h
  exact h.1.1.2

/-- A frame that a port takes is judged on the state it has heard, and answered. -/
theorem receive_of_takes {s : State} {p : Port} (h : s.takes p = true) (f : Frame) :
    s.receive p f = ((judge (s.heard p) p f).1.respond p f.tag (judge (s.heard p) p f).2).noted s p f := by
  have hl := takes_live h
  simp only [State.takes, Bool.and_eq_true, Bool.not_eq_true', Bool.and_eq_false_iff, beq_eq_false_iff_ne] at h
  rw [receive_of_live hl]
  · rfl
  · intro hp
    rcases h.1.2 with h | h
    · exact absurd hp h
    · exact h
  · intro hp
    rcases h.2 with h | h
    · exact absurd hp h
    · exact h

/-- A known command that a port takes, whose Length fits and which the port may send, reaches its handler. -/
theorem receive_known {s : State} {p : Port} {c : Command} {tag : Byte} {pl : List Byte} (h : s.takes p = true)
    (hf : fits c pl = true) (hp : permitted c p (s.rank p) = true) :
    s.receive p ⟨.known c, tag, pl⟩ =
      ((handle c (s.heard p) p pl).1.respond p tag (handle c (s.heard p) p pl).2).noted s p ⟨.known c, tag, pl⟩ := by
  have hr : (s.heard p).rank p = s.rank p := rfl
  have hd : (s.heard p).sst.startUp = .done := takes_done h
  rw [receive_of_takes h]
  simp [judge, hd, judgeKnown, hf, hr, hp]

/-- The same, with the handler's result given. -/
theorem receive_handled {s : State} {p : Port} {c : Command} {tag : Byte} {pl : List Byte} {y : State × Reply}
    (h : s.takes p = true) (hf : fits c pl = true) (hp : permitted c p (s.rank p) = true)
    (hy : handle c (s.heard p) p pl = y) :
    ∃ t, s.receive p ⟨.known c, tag, pl⟩ = t ∧ t.answered p tag y.2.status y.2.payload ∧ t.onlyAnswers y.1 p := by
  refine ⟨_, receive_known h hf hp, ?_, ?_⟩
  · rw [hy]
    exact noted_answered (respond_answered _ _ _ _) _ _
  · rw [hy]
    exact noted_onlyAnswers (respond_onlyAnswers _ _ _ _) _ _

/-- A handler that changes nothing. -/
theorem receive_unchanged {s : State} {p : Port} {c : Command} {tag : Byte} {pl : List Byte} {r : Reply}
    (h : s.takes p = true) (hf : fits c pl = true) (hp : permitted c p (s.rank p) = true)
    (hy : handle c (s.heard p) p pl = (s.heard p, r)) :
    ∃ t, s.receive p ⟨.known c, tag, pl⟩ = t ∧ t.answered p tag r.status r.payload ∧ t.onlyAnswers s p := by
  obtain ⟨t, h1, h2, h3⟩ := receive_handled (tag := tag) h hf hp hy
  exact ⟨t, h1, h2, onlyAnswers_trans h3 (heard_onlyAnswers s p)⟩

end Sys2Proof.Machine
end

