-- ==== Sys2Proof/Laws/Blocks.lean ====
section
/-! SUPPORT. What the shared operations of the blocks do: expiries, checkpoint requests, log writes, slots and
bindings, and the pump-out's phases. -/

namespace Sys2Proof.Machine

/-! ### Expiries -/

theorem whenUp_of_up {s : State} (h : s.up = true) (f : State → State) : s.whenUp f = f s := by
  simp only [State.whenUp, h, if_true]

theorem expire_running {s : State} {t : Timer} {e : Nat} (h : t = some e) (limit : Nat) (act : State → State) :
    s.expire t limit act = act (s.advance (limit - e)) := by rw [h]; rfl

theorem expire_stopped {s : State} {t : Timer} (h : t = none) (limit : Nat) (act : State → State) :
    s.expire t limit act = s := by rw [h]; rfl

/-! ### Checkpoint requests (R188) -/

@[simp] theorem request_accounts (s : State) (rs : RegionSet) : (s.request rs).fau.accounts = s.fau.accounts := by
  simp only [State.request]
  repeat' split
  all_goals rfl

@[simp] theorem request_settings (s : State) (rs : RegionSet) : (s.request rs).sst.settings = s.sst.settings := by
  simp only [State.request]
  repeat' split
  all_goals rfl

theorem joinPending_asked (s : State) (rs : RegionSet) : (s.joinPending rs).asked rs := by
  intro r hr
  right
  simp only [State.joinPending, State.setSst, RegionSet.union]
  cases r <;> simp only [RegionSet.has] at hr ⊢ <;> simp [hr]

theorem beginWrite_asked (s : State) (rs : RegionSet) : (s.beginWrite rs).asked rs := by
  intro r hr
  left
  simp only [State.beginWrite, State.setSst, State.setFau, Sst.writingRegions, State.copies, Copies.regions]
  rcases rs with ⟨a, b, c, d⟩
  simp only [RegionSet.union]
  cases r <;> simp only [RegionSet.has] at hr ⊢ <;> subst hr <;> simp

/-- A request is being written or pending, in every state. -/
theorem request_asked (s : State) (rs : RegionSet) : (s.request rs).asked rs := by
  unfold State.request
  repeat' split
  all_goals first | exact joinPending_asked s rs | exact beginWrite_asked s rs

theorem copies_regions (s : State) (rs : RegionSet) : (s.copies rs).regions = rs := by
  obtain ⟨a, b, c, d⟩ := rs
  cases a <;> cases b <;> cases c <;> cases d <;> rfl

theorem has_union (x y : RegionSet) (r : Region) : (x.union y).has r = true ↔ x.has r = true ∨ y.has r = true := by
  cases r <;> simp [RegionSet.union, RegionSet.has]

theorem has_empty (r : Region) : RegionSet.empty.has r = false := by cases r <;> rfl

/-- With no region unsaved and nothing pending but for a write in progress, a request adds exactly its regions to
those being written or pending. -/
theorem request_regions (s : State) (rs : RegionSet) (hu : s.sst.unsaved = .empty)
    (hp : s.sst.writing = none → s.sst.pendingWrite = .empty) (r : Region) :
    ((s.request rs).sst.writingRegions.has r = true ∨ (s.request rs).sst.pendingWrite.has r = true) ↔
      (rs.has r = true ∨ s.sst.writingRegions.has r = true ∨ s.sst.pendingWrite.has r = true) := by
  unfold State.request
  cases hw : s.sst.writing with
  | some c =>
    simp only [State.joinPending, State.setSst, Sst.writingRegions, hw, has_union]
    constructor <;> rintro (h | h | h) <;> simp [h]
  | none =>
    have h := hp hw
    dsimp only
    split
    · simp [State.joinPending, Sst.writingRegions, hw, has_union, has_empty, h]
    · simp [State.beginWrite, Sst.writingRegions, copies_regions, has_union, hu, hw, has_empty, h]

theorem asked_of_sst {t s : State} (h : t.sst = s.sst) {rs : RegionSet} (k : s.asked rs) : t.asked rs := by
  intro r hr
  rw [h]
  exact k r hr

/-! ### Hand-overs -/

@[simp] theorem settle_accounts (s : State) : s.settle.fau.accounts = s.fau.accounts := by
  rw [(settle_handsOn s).2.1]

theorem settle_sst (s : State) : s.settle.sst = s.sst := (settle_handsOn s).1 .sst rfl

theorem settle_onlyFlags (s : State) : s.settle.onlyFlags s :=
  onlyFlags_trans (onlyFlags_of_prt (settle_handsOn s).2.2.2.2.2.1) (tellsDrying_onlyFlags s _ _)

theorem settle_flagOnAll {s : State} {f : Flag} (h : s.flagOnAll f) : s.settle.flagOnAll f :=
  flagOnAll_mono (settle_onlyFlags s) f h

/-! ### The trend log (R154, R159) -/

theorem toNat_sub_ofNat (x : BitVec 32) (n : Nat) (h : n < 2 ^ 32) : (x - (x - BitVec.ofNat 32 n)).toNat = n := by
  have e : x - (x - BitVec.ofNat 32 n) = BitVec.ofNat 32 n := by
    apply BitVec.eq_of_toNat_eq
    simp only [BitVec.toNat_sub, BitVec.toNat_ofNat]
    have := x.isLt
    omega
  rw [e, BitVec.toNat_ofNat, Nat.mod_eq_of_lt h]

/-- A write keeps the ring's order and every cursor within it. -/
theorem written_lawful {t : Tlg} (h : t.lawful) (body : RecordBody) : (t.written body).lawful := by
  obtain ⟨h1, h2, h3⟩ := h
  have hlen : (t.pushed body).length = if 256 ≤ t.ring.length then 256 else t.ring.length + 1 := by
    simp only [Tlg.pushed, Config.ringCapacity]
    split
    · rename_i hf
      simp only [hf, if_true, List.length_append, List.length_tail, List.length_cons, List.length_nil]
      omega
    · rename_i hf
      simp only [hf, if_false, List.length_append, List.length_cons, List.length_nil]
  refine ⟨?_, ?_, ?_⟩
  · show (t.pushed body).length ≤ 256
    rw [hlen]
    split <;> omega
  · intro i r hr
    change (t.pushed body)[i]? = some r at hr
    show r.seq = t.nextSeq + 1 - BitVec.ofNat 32 ((t.pushed body).length - i)
    have hi : i < (t.pushed body).length := by
      rcases List.getElem?_eq_some_iff.1 hr with ⟨hi, -⟩
      exact hi
    rw [hlen] at hi ⊢
    have step : ∀ n m : Nat, n + 1 = m → t.nextSeq - BitVec.ofNat 32 n = t.nextSeq + 1 - BitVec.ofNat 32 m := by
      intro n m hm
      subst hm
      rw [BitVec.ofNat_add]
      generalize BitVec.ofNat 32 n = y
      bv_omega
    simp only [Tlg.pushed, Config.ringCapacity] at hr
    by_cases hf : 256 ≤ t.ring.length
    · have hl : t.ring.length = 256 := by omega
      simp only [hf, if_true] at hr hi ⊢
      by_cases hlast : i = 255
      · subst hlast
        rw [List.getElem?_append_right (by simp [hl])] at hr
        simp [hl] at hr
        rw [← hr]
        simp only [Nat.reduceSub]
        bv_omega
      · rw [List.getElem?_append_left (by simp [hl]; omega)] at hr
        rw [List.getElem?_tail] at hr
        rw [h2 _ _ hr, hl]
        exact step _ _ (by omega)
    · simp only [hf, if_false] at hr hi ⊢
      by_cases hlast : i = t.ring.length
      · subst hlast
        rw [List.getElem?_append_right (by simp)] at hr
        simp at hr
        rw [← hr]
        simp only [Nat.add_sub_cancel_left]
        bv_omega
      · rw [List.getElem?_append_left (by omega)] at hr
        rw [h2 _ _ hr]
        exact step _ _ (by omega)
  · intro p
    have hp := h3 p
    show ((t.written body).nextSeq - _).toNat ≤ (t.pushed body).length
    have hc : ((t.written body).readers.get p).cursor = t.movedCursor (t.readers.get p) := by
      cases p <;> rfl
    rw [hc, hlen]
    show (t.nextSeq + 1 - t.movedCursor (t.readers.get p)).toNat ≤ _
    generalize t.readers.get p = r at hp ⊢
    simp only [Tlg.backlog] at hp
    simp only [Tlg.movedCursor, Tlg.passes, Config.ringCapacity]
    by_cases hf : 256 ≤ t.ring.length
    · have hl : t.ring.length = 256 := by omega
      have hhead : ∃ x, t.ring.head? = some x ∧ x.seq = t.nextSeq - BitVec.ofNat 32 256 := by
        cases hr : t.ring with
        | nil => rw [hr] at hl; simp at hl
        | cons x xs =>
          refine ⟨x, rfl, ?_⟩
          have := h2 0 x (by rw [hr]; rfl)
          rw [hl] at this
          exact this
      obtain ⟨x, hx, hs⟩ := hhead
      simp only [hf, hx, Option.map_some, decide_true, Bool.true_and, if_true]
      split
      · rename_i heq
        have heq : x.seq = r.cursor := by simpa using heq
        rw [← heq, hs]
        bv_omega
      · rename_i hne
        have hne : x.seq ≠ r.cursor := by simpa using hne
        have : (t.nextSeq - r.cursor).toNat ≠ 256 := by
          intro hh
          apply hne
          rw [hs]
          bv_omega
        rw [hl] at hp
        bv_omega
    · simp only [hf, decide_false, Bool.false_and, Bool.false_eq_true, if_false]
      bv_omega

/-! ### Slots and bindings (R88, R94) -/

@[simp] theorem setSlot_slot (s : State) (st : Stage) (x : Slot) : (s.setSlot st x).slot st = x := by
  cases st <;> rfl

@[simp] theorem setSlot_setSlot (s : State) (st : Stage) (x y : Slot) :
    (s.setSlot st x).setSlot st y = s.setSlot st y := by cases st <;> rfl

/-- An entry that joins the recent list. -/
theorem addRecent_recent (s : State) (e : RecentEntry) : (s.addRecent e).crd =
    { s.crd with recent := e :: (if 4 ≤ s.crd.recent.length then s.crd.recent.dropLast else s.crd.recent) } := by
  simp only [State.addRecent, Config.recentCapacity]
  by_cases h : 4 ≤ s.crd.recent.length
  · simp only [h, if_true]
    cases s.crd.recent.getLast? <;> rfl
  · simp only [h, if_false]
    rfl

@[simp] theorem bind_accounts (s : State) (st : Stage) (a : Account) (v : CartridgeValue) :
    (s.bind st a v).fau.accounts = s.fau.accounts.set st a := by
  simp only [State.bind, request_accounts]
  rfl

theorem bind_flagOnAll (s : State) (st : Stage) (a : Account) (v : CartridgeValue) :
    (s.bind st a v).flagOnAll .cartridge := by
  have h : (s.bind st a v).prt = ((s.setFau { s.fau with
      accounts := s.fau.accounts.set st a, dirty := true }).postCartridge st v).prt := by
    simp only [State.bind, request_frame]
  exact flagOnAll_mono (onlyFlags_of_prt h) _ (flagOnAll_mono (log_onlyFlags _ _) _ (postAll_flagOnAll _ _))

/-! ### Runs of the pump-out (R137, R149) -/

theorem enterPhase_entersPhase (s : State) (q : Sequence) (ph : Phase) : (s.enterPhase q ph).entersPhase s q ph := by
  have hf : s.floatHigh.isNone = decide (s.method = .probe) := by
    unfold State.floatHigh
    cases s.method <;> rfl
  simp only [State.entersPhase, State.enterPhase, Sequence.enter, State.phaseLevel]
  cases s.level <;> cases ph <;> simp [hf]

/-- A run ends; one that is COMPLETE may be followed by an automatic start. -/
theorem endRun_endsRun (s : State) (q : Sequence) (st : SeqStatus) (c : Condition) :
    ∃ w : State, w.endsRun s q st c ∧ s.endRun q st c = if st = .complete then w.autoStart else w := by
  have hp := postAll_log_posts (s.setCdc { s.cdc with seq := some (q.ended st c), pump := false }) .pump
    (.pumpResult q.phase c)
  obtain ⟨h1, h2, h3, h4⟩ := hp
  refine ⟨((s.setCdc { s.cdc with seq := some (q.ended st c), pump := false }).postAll .pump).log
    (.pumpResult q.phase c), ⟨?_, ?_, h1, h2, h3, h4⟩, ?_⟩
  · intro b hb
    cases b <;> simp at hb <;> simp [State.sameAt, State.setCdc]
  · simp only [log_frame, postAll_frame]
    rfl
  · simp only [State.endRun]

end Sys2Proof.Machine
end

