-- ==== Sys2Proof/Laws/Layouts.lean ====
section
/-! SUPPORT. Each encoding of `Operands` as the bytes of one field of a layout. -/

namespace Sys2Proof.Machine

theorem spell_nil : spell [] = [] := rfl

theorem spell_cons (w n : Nat) (fs : List (Nat × Nat)) : spell ((w, n) :: fs) = le w n ++ spell fs := rfl

theorem spell_append (x y : List (Nat × Nat)) : spell (x ++ y) = spell x ++ spell y := by
  simp only [spell, List.flatMap_append]

theorem spell_flatMap {α : Type} (l : List α) (f : α → List (Nat × Nat)) :
    spell (l.flatMap f) = l.flatMap (fun x => spell (f x)) := by
  simp only [spell, List.flatMap_assoc]

theorem enc1_le (n : Nat) : enc1 n = le 1 n := rfl

theorem encOpt1_le (x : Option Nat) : encOpt1 x = le 1 (byteOr x) := by
  cases x <;> rfl

theorem encOpt2_le (x : Option Nat) : encOpt2 x = le 2 (wordOr x) := by
  cases x <;> rfl

theorem encBool_le (b : Bool) : encBool b = le 1 (yesNo b) := by
  cases b <;> rfl

theorem encFirst_le (b : Bool) : encFirst b = le 1 (firstOr b) := by
  cases b <;> rfl

theorem encOptBool_le (x : Option Bool) : encOptBool x = le 1 (byteOr (x.map yesNo)) := by
  rcases x with _ | b
  · rfl
  · cases b <;> rfl

theorem encSet_le (bits : List Bool) : encSet bits = le 1 (members bits) := rfl

theorem encMs_le (ms : Nat) : encMs ms = le 2 (tenthsOf ms) := rfl

theorem encTimer_le (t : Timer) : encTimer t = le 2 (timerOr t) := by
  cases t <;> rfl

theorem encTenths_le (x : Option Int) : encTenths x = le 2 (tenthsOr x) := by
  rcases x with _ | t
  · rfl
  · simp only [encTenths, tenthsOr, BitVec.toNat_ofInt]
    rfl

theorem encSerial_le (x : Option (BitVec 32)) : encSerial x = le 4 (serialOr x) := by
  cases x <;> rfl

end Sys2Proof.Machine
end

