-- ==== Sys2Proof/Tests/Slice0.lean ====
section
/-! SUPPORT. Tests: ill-formed commands, bytes written out from the spec, the spec's worked examples, and a state for
each hypothesis of the obligations. -/

namespace Sys2Proof.Tests

open Sys2Proof.Machine

/-! ### Well-formed commands -/

theorem test_wf_rejects_long_payload : (Instr.readLog .link 0 (List.replicate 49 0)).wellFormed = false := by decide
theorem test_wf_accepts_full_payload : (Instr.readLog .link 0 (List.replicate 48 0)).wellFormed = true := by decide
theorem test_wf_rejects_long_new : (Instr.pumpOutNew .link 0 (List.replicate 49 0)).wellFormed = false := by decide
theorem test_wf_rejects_new_as_resume : (Instr.pumpOutNew .link 0 [1]).wellFormed = false := by decide
theorem test_wf_rejects_long_resume : (Instr.pumpOutResume .link 0 (1 :: List.replicate 48 0)).wellFormed = false := by decide
theorem test_wf_rejects_resume_as_new : (Instr.pumpOutResume .link 0 [0]).wellFormed = false := by decide
theorem test_wf_rejects_known_as_unknown : (Instr.unknownCommand .link 0x02 0 []).wellFormed = false := by decide
theorem test_wf_rejects_long_unknown : (Instr.unknownCommand .link 0x0B 0 (List.replicate 49 0)).wellFormed = false := by decide
theorem test_wf_rejects_fetch_as_command : (Instr.unknownCommand .panel 0 0 []).wellFormed = false := by decide
theorem test_wf_accepts_zero_on_link : (Instr.unknownCommand .link 0 0 []).wellFormed = true := by decide
theorem test_wf_rejects_empty_fetch : (Instr.panelFetchWindow 0 false).wellFormed = false := by decide
theorem test_wf_rejects_empty_read : (Instr.serviceReadTransaction 0 false).wellFormed = false := by decide
theorem test_wf_rejects_five_regions : (Instr.powerLoss ⟨5, .empty, .fails⟩).wellFormed = false := by decide
theorem test_wf_rejects_five_at_reset : (Instr.resetnAssert ⟨5, .empty, .fails⟩).wellFormed = false := by decide
theorem test_wf_rejects_reception_of_nothing : (Instr.commandReceptionStart ⟨.link, []⟩).wellFormed = false ∧
    (Instr.commandReceptionStart ⟨.panel, []⟩).wellFormed = false := by decide
theorem test_wf_accepts_address_alone : (Instr.commandReceptionStart ⟨.service, []⟩).wellFormed = true := by decide

/-! ### Bytes -/

/-- The worked check of file 09: 0x02, 0x10, 0x00 gives 0x81. -/
theorem test_check_of_read_plan : crc8 [0x02, 0x10, 0x00] = 0x81 := by decide +kernel
theorem test_decode_read_plan : decodeFrame .link [0x02, 0x10, 0x00, 0x81] = .readPlan .link 0x10 [] := by decide +kernel
theorem test_decode_bad_check : decodeFrame .link [0x02, 0x10, 0x00, 0x80] = .badFrame .link 0x10 := by decide +kernel
theorem test_decode_cut_short : decodeFrame .panel [0x02, 0x10, 0x00] = .frameDiscard .panel := by decide
theorem test_decode_long_on_link : decodeFrame .link [0x02, 0x10, 0x31] = .frameDiscard .link := by decide
theorem test_decode_long_on_panel : decodeFrame .panel [0x02, 0x10, 0x31] = .badFrame .panel 0x10 := by decide
theorem test_decode_unknown : decodeFrame .service [0x0B, 0x00, 0x00, crc8 [0x0B, 0x00, 0x00]] =
    .unknownCommand .service 0x0B 0x00 [] := by decide +kernel
theorem test_decode_fetch_window : decodeFrame .panel [0x00, 0x10, 0x00, 0x00] = .panelFetchWindow 4 false := by decide
theorem test_decode_zero_on_link : decodeFrame .link [0x00, 0x10, 0x00, crc8 [0x00, 0x10, 0x00]] =
    .unknownCommand .link 0x00 0x10 [] := by decide +kernel
theorem test_table_words_spell_nothing : decodeTableWord 0 0 = none := by decide

/-- The plan record of Table 9-10: AUTO, ceiling 3, dry target 50, halted at rank 1 by LINK slot 2. -/
theorem test_plan_record_bytes : planPart { State.reset with dar := { Dar.idle with
    version := 0x0107#16
    plan := ⟨some .auto, some 3, false, some (.percent 50), some .r1, some ⟨.link, 2⟩, some ⟨.service, 0⟩,
      some ⟨.panel, 1⟩, some ⟨.panel, 3⟩⟩ } } =
    [0x07, 0x01, 0x3B, 0x0B, 0x03, 0x32, 0x01, 0x06, 0x08, 0x01, 0x03] := by decide
theorem test_demand_entry_bytes :
    encDemand ⟨.link, 1, .air (.step 9), some 86400, .r1, .suppressed⟩ = [0x59, 0x89, 0xA0] := by decide
theorem test_absent_tenths : encTenths none = [0x00, 0x80] := by decide
theorem test_negative_tenths : encTenths (some (-15)) = [0xF1, 0xFF] := by decide

/-! ### Worked examples -/

/-- File 02, 2.10, after event 4. -/
def fourDemands : List Demand :=
  [⟨.link, 0, .air (.step 9), some 1800, .r1, .outranked⟩, ⟨.panel, 0, .dry (.percent 50), none, .r2, .outranked⟩,
   ⟨.panel, 1, .quiet 3 true, none, .r2, .outranked⟩, ⟨.link, 1, .dry .continuous, none, .r1, .outranked⟩]

/-- After event 7. -/
def sevenDemands : List Demand := fourDemands ++
  [⟨.link, 2, .halt, none, .r1, .outranked⟩, ⟨.panel, 2, .halt, some 600, .r2, .outranked⟩,
   ⟨.service, 0, .air (.step 6), none, .r3, .outranked⟩]

theorem test_four_standings : fourDemands.map (standingIn fourDemands) =
    [.governing, .governing, .governing, .outranked] := by decide
theorem test_four_plan : planOf fourDemands = ⟨some (.step 9), some 3, true, some (.percent 50), none, none,
    some ⟨.link, 0⟩, some ⟨.panel, 0⟩, some ⟨.panel, 1⟩⟩ := by decide
theorem test_seven_standings : sevenDemands.map (standingIn sevenDemands) =
    [.suppressed, .suppressed, .suppressed, .suppressed, .suppressed, .governing, .governing] := by decide
theorem test_seven_plan : planOf sevenDemands = ⟨some (.step 6), none, true, none, some .r2, some ⟨.panel, 2⟩,
    some ⟨.service, 0⟩, none, none⟩ := by decide

/-- The floors of R61's table. -/
theorem test_floors : let x := Afc.idle factoryCurve
    x.dryFloor ⟨3, 4, 120⟩ 0 = some 3 ∧ x.dryFloor ⟨3, 4, 120⟩ 299 = some 3 ∧ x.dryFloor ⟨3, 4, 120⟩ 600 = some 4 ∧
    x.dryFloor ⟨3, 4, 120⟩ 700 = some 5 ∧ x.dryFloor ⟨3, 4, 300⟩ 700 = none := by decide
theorem test_airflow : { Afc.idle factoryCurve with actual := 5 }.airflow 299 = 311 := by decide

/-- A part whose blocks have started. -/
def base : State := { State.reset with sst := { Sst.idle with startUp := .done } }

/-- File 04, 4.12. -/
def tickState : State :=
  let slot : Slot := { Slot.idle with state := .tagged }
  let a : Account := { serial := some 1, c := 8000, e := 350, k := 60, washable := true, load := 3361000, rem := 0
                       wash := 0, unverified := false, historyLost := false }
  { base with
    sfe := { Sfe.idle with particle := { Sfe.idle.particle with window := [85] }, gas := ⟨[140], some 0⟩ }
    crd := ⟨⟨slot, slot, slot⟩, []⟩
    afc := { Afc.idle factoryCurve with actual := 5, q := 312 }
    fau := { Fau.idle (freshAccounts .factory false) with
      accounts :=
        { pre := a
          carb := { a with serial := some 2, c := 4800, e := 80, k := 40, load := 2927996 }
          fine := { a with serial := some 3, c := 12000, e := 997, k := 250, load := 11999950 } }
      rIn := 100, rG := 2000, d := 298, running := true, period := 15000 } }

theorem test_tick_derating : tickState.derating = 298 := by decide
theorem test_tick_record : let r := tickState.tickResult
    r.record.mIn = 110 ∧ r.rIn = 220 ∧ r.record.captured = ⟨some 38, some 5, some 66⟩ ∧ r.record.escaped = 1 ∧
    r.record.gas = some 7 ∧ r.rG = 3680 ∧ r.record.discarded = ⟨some 0, some 0, some 0⟩ ∧
    r.accounts.pre.load = 3361038 ∧ r.accounts.carb.load = 2928003 ∧ r.accounts.fine.load = 12000016 := by decide
theorem test_tick_step : let t := tickState.accountingTick
    t.fau.d = 299 ∧ t.afc.q = 311 ∧ t.afc.floor = some 3 ∧ t.stageState .fine = .exhausted ∧
    (t.port .link).flags = Flag.filter.bit ∧ t.sst.writingRegions.filters = true := by decide

/-- File 07, 7.11, the sample at 61 s. -/
def pumpState (level : Nat) (q : Sequence) : State :=
  { base with
    sfe := { Sfe.idle with probe := ⟨[level], 0⟩ }
    cdc := { Cdc.idle with presence := .present, pump := pumpWanted (some q), seq := some q } }

def transferRecord : Sequence :=
  { status := .running, phase := some .transfer, origin := .auto, startLevel := .ml 1502, target := some 1352
    remaining := some 10, moved := some 1342, condition := .none, phaseStart := some 1482, lowest := some 160
    elapsed := some 56600, flow := none, blockMark := some 160, blockElapsed := some 0, highRelease := none
    verifyStart := none, floatClosed := none, abort := false, sample := some 1000 }

def verifyRecord : Sequence :=
  { transferRecord with
    phase := some .verify, remaining := some 0, moved := some 1355, phaseStart := some 147, lowest := none
    elapsed := some 10000, blockMark := none, blockElapsed := none, verifyStart := some 147 }

theorem test_pump_sample_ends_transfer : let t := (pumpState 147 transferRecord).pumpSample
    t.cdc.pump = false ∧ t.cdc.seq.map (·.phase) = some (some .verify) ∧
    t.cdc.seq.map (·.moved) = some (some 1355) ∧ t.cdc.seq.map (·.remaining) = some (some 0) ∧
    t.cdc.seq.map (·.verifyStart) = some (some 147) := by decide
theorem test_pump_verify_passes : let t := (pumpState 158 verifyRecord).verifyEnd
    t.cdc.seq.map (·.status) = some .complete ∧ (t.port .panel).flags = Flag.pump.bit ∧
    t.tlg.ring.getLast?.map (·.body) = some (.event (.pumpResult (some .verify) .none)) := by decide
theorem test_pump_verify_fails : let t := (pumpState 230 verifyRecord).verifyEnd
    t.cdc.seq.map (·.condition) = some .checkFailed := by decide

/-- File 03, the third stall within 600 s. -/
theorem test_third_stall_latches : let t := ({ base with
    now := 1082000
    afc := { Afc.idle factoryCurve with
      actual := 3, duty := 380, lowCount := 2, history := [1006000, 1044000], regulation := some 2000 } }).regulationBoundary
    t.afc.fault = true ∧ t.afc.duty = 0 ∧ t.afc.actual = 2 ∧ t.drc.state = .lockout ∧ t.drc.reason = some .fan := by
  decide

/-! ### States for the hypotheses of the obligations -/

def ports (pan link serv : PortIf) : Prt := { Prt.idle with ports := ⟨pan, link, serv⟩ }

def oneWrite : Copies := ⟨some .factory, none, some [], none⟩

def writing : State := { base with sst := { base.sst with writing := some oneWrite, pendingWrite := .single .filters } }

theorem test_meets_EmptyQueue : base.pending = [] ∧ base.nextDue = none ∧
    { base with dar := { Dar.idle with second := some 1000 } }.nextDue = some .darSecondTimer := by decide

theorem test_meets_ResetsClear : { State.reset with supply := false }.supply = false ∧
    base.supply = true ∧ base.resetnLow = false ∧ base.sst.writing = none ∧
    { base with sst := { base.sst with restart := .drained } }.live = true ∧ base.sst.restart ≠ .drained ∧
    { base with resetnLow := true }.resetnLow = true ∧
    { base with supply := false }.resetnLow = false := by decide

theorem test_meets_CutOffWrite : writing.supply = true ∧ writing.resetnLow = false ∧
    writing.sst.writing = some oneWrite := by decide
/-- The first region of a write that was cut off in its second stands saved, and one not reached as it was. -/
theorem test_cut_off_write_saves_what_was_done :
    (Stored.mk 1 false).cut (some 2) 0 false ⟨1, .empty, .fails⟩ = ⟨2, true⟩ ∧
    (Stored.mk 1 true).cut (some 2) 1 false ⟨1, .empty, .fails⟩ = ⟨1, false⟩ ∧
    (Stored.mk 1 true).cut (some 2) 2 false ⟨1, .empty, .fails⟩ = ⟨1, true⟩ := by decide

theorem test_meets_StoreRead : State.reset.live = true ∧ State.reset.sst.startUp = .reading ∧
    (State.reset.store.failing .empty .empty) = ⟨true, true, true, true⟩ := by decide

theorem test_meets_Checkpoints : base.sst.restart = .none ∧ base.sst.writing = none ∧ writing.sst.restart = .none ∧
    writing.sst.writing = some oneWrite ∧ writing.sst.pendingWrite.isEmpty = false ∧
    { writing with sst := { writing.sst with pendingWrite := .empty } }.sst.pendingWrite.isEmpty = true ∧
    oneWrite.regions.has .recent = true ∧ oneWrite.regions.has .filters = false := by decide

theorem test_meets_Restart : base.takes .service = true ∧
    { base with prt := { Prt.idle with closed := true, handover := some 100 } }.live = true ∧
    (Instr.readPlan .service 0 []).frame? = some (.service, 0x02, 0, []) := by decide

theorem test_meets_CommandFrames : (Instr.readLog .link 0xFF (List.replicate 48 0xA5)).wellFormed = true ∧
    (Instr.readLog .link 0xFF (List.replicate 48 0xA5)).frame? =
      some (.link, 0x38, 0xFF, List.replicate 48 0xA5) := by decide

theorem test_meets_FrameJudgement : 48 < (0x31 : Byte).toNat ∧ (0x30 : Byte).toNat ≤ 48 ∧
    (List.replicate 48 (0 : Byte)).length ≤ (0x30 : Byte).toNat ∧ (0x00 : Byte).toNat < [(0x80 : Byte)].length ∧
    [(0x80 : Byte)].getD 0 0 ≠ crc8 [0x02, 0x10, 0x00] ∧ Command.ofCode 0x0B = none := by decide +kernel

theorem test_meets_StoredConfig : Settings.factory.valid = true ∧ groupLength 7 = some 45 := by decide

/-- The fresh accounts are bound to no serial. -/
theorem fresh_untagged (a : Stage) (n : BitVec 32) (h : ((freshAccounts .factory false).get a).serial = some n) : False := by
  cases a <;> exact absurd (show (none : Option (BitVec 32)) = some n from h) (by simp)

theorem fresh_apart : serialsApart (freshAccounts .factory false) := fun a _ n h _ => (fresh_untagged a n h).elim

theorem meets_laws : base.configLaw ∧ base.bankLaw ∧ base.demandLaw ∧ base.recentLaw :=
  ⟨test_meets_StoredConfig.1, ⟨by decide, by decide⟩,
   ⟨List.nodup_nil, fun _ he => absurd he List.not_mem_nil, by decide⟩,
   Nat.zero_le 4, List.nodup_nil, fun _ he => absurd he List.not_mem_nil, fresh_apart, fresh_apart,
   fun _ _ h _ => absurd h (by simp [base, Sst.idle])⟩

theorem test_meets_AnswersFit : base.configLaw ∧ base.bankLaw ∧ base.demandLaw ∧ base.recentLaw := meets_laws

/-- `base` with a sensor front end of its own. -/
def sensing (x : Sfe) : State := { base with sfe := x }

theorem test_meets_Particle : base.up = true ∧ base.sfe.particle.warmup = none ∧
    (sensing { Sfe.idle with particle := { Sfe.idle.particle with
      warmup := some 30000, window := List.replicate 30 2000, wait := some 10000 } }).up = true := by decide

theorem test_meets_Bus : let s := sensing { Sfe.idle with
      bus := ⟨some 1000, true, true, some .gas, some 25⟩, gas := ⟨List.replicate 60 500, some 10000⟩ }
    s.up = true ∧ s.sfe.bus.current ≠ some .room ∧ s.sfe.bus.busy = some 25 ∧ s.sfe.gas.wait = some 10000 ∧
    (sensing { Sfe.idle with bus := ⟨some 1000, true, true, some .room, some 25⟩ }).sfe.bus.current = some .room := by
  decide

theorem test_meets_Room : let s (n : Nat) := sensing { Sfe.idle with
      bus := ⟨some 25, true, false, some .room, some 25⟩, room := ⟨[1000], [600], n⟩ }
    (s 1).up = true ∧ (s 1).sfe.bus.current = some .room ∧ (s 1).sfe.room.fails < 2 ∧ 2 ≤ (s 2).sfe.room.fails := by
  decide

/-- `base` with a drying controller of its own. -/
def drying (x : Drc) : State := { base with drc := x }

theorem test_meets_Coil : base.up = true ∧ base.sfe.coil.outCount = 0 ∧ base.drc.state = .off ∧
    (drying { Drc.idle with state := .pulldown, pull := ⟨some 130, some 0, some .checking⟩ }).up = true ∧
    (-300 : Int) ≤ 130 - 30 ∧ (-301 : Int) < -300 ∧ (600 : Int) < 601 ∧
    (sensing { Sfe.idle with coil := ⟨some 100, 1⟩ }).sfe.coil.outCount = 1 := by decide

theorem test_meets_Probe : base.up = true ∧ base.sst.settings.terminals.mf0 = .probe ∧
    (sensing { Sfe.idle with probe := ⟨[0, 4000, 1, 2, 3], 2⟩ }).sfe.probe.outCount = 2 ∧
    { base with sst := { base.sst with settings := { Settings.factory with
      terminals := ⟨.floatHigh, .floatFull, .none, .floats⟩ } } }.sst.settings.terminals.mf0 ≠ .probe := by decide

theorem test_meets_SwitchEdges : base.pins.get .tanksw ≠ true ∧ base.sst.settings.terminals.samples .tanksw = true ∧
    base.sst.settings.terminals.samples .mf0 = false ∧
    (sensing { Sfe.idle with tach := ⟨700, some 2000, 0⟩ }).up = true := by decide

/-- A part whose five kinds of switch inputs are all about to be accepted closed. -/
def closing (t : Terminals) (q : Option Sequence) : State :=
  let i : SwitchInput := ⟨false, true, some 20⟩
  { base with
    pins := ⟨true, ⟨true, true, true⟩, true, true, true⟩
    sfe := { Sfe.idle with tanksw := i, slots := ⟨i, i, i⟩, mf0 := i, mf1 := i, mf2 := i }
    cdc := { Cdc.idle with seq := q }
    sst := { base.sst with settings := { Settings.factory with terminals := t } } }

theorem test_meets_AcceptedSwitch : let s := closing Settings.factory.terminals (some { transferRecord with phase := some .prime })
    s.up = true ∧ (s.sfe.switch .mf1).steady = some 20 ∧ (s.sfe.switch .tanksw).accepted = false ∧
    s.pins.get .tanksw = true ∧ s.cdc.presence = .absent ∧ (s.slot .fine).state = .empty ∧
    s.sst.settings.terminals.mf1 = .pumpFlow ∧ s.sst.settings.terminals.mf2 = .powerFailWarn ∧
    s.sst.restart = .none ∧ ((s.advance 0).cdc.seq.map (·.phase)) = some (some .prime) := by decide

theorem test_meets_AcceptedFloats : let s := closing ⟨.floatHigh, .floatFull, .none, .floats⟩ (some transferRecord)
    s.up = true ∧ (s.sfe.switch .mf0).steady = some 20 ∧ (s.sfe.switch .mf0).accepted ≠ s.pins.get .mf0 ∧
    (s.sfe.switch .mf1).accepted ≠ s.pins.get .mf1 ∧ s.sst.settings.terminals.mf0 = .floatHigh ∧
    s.sst.settings.terminals.mf1 = .floatFull := by decide

/-- The terminals' other functions, phases and levels: each form of an accepted level has a state. -/
theorem test_meets_AcceptedForms :
    let floats : Terminals := ⟨.floatHigh, .floatFull, .none, .floats⟩
    let flow := closing ⟨.floatHigh, .floatFull, .pumpFlow, .floats⟩ (some { transferRecord with phase := some .prime })
    let verify := closing floats (some verifyRecord)
    let idle := closing floats none
    let first := { idle with pins := ⟨false, ⟨false, false, false⟩, false, false, false⟩ }
    let off := { closing Settings.factory.terminals none with
      pins := first.pins, sfe := { idle.sfe with mf2 := ⟨true, true, some 20⟩ } }
    flow.sst.settings.terminals.mf2 = .pumpFlow ∧ (flow.sfe.switch .mf2).accepted ≠ flow.pins.get .mf2 ∧
    verify.cdc.seq.map (fun q => (q.status, q.phase)) = some (.running, some .verify) ∧ idle.cdc.seq = none ∧
    first.up = true ∧ (first.sfe.switch .mf0).accepted = first.pins.get .mf0 ∧
    (first.sfe.switch .mf1).accepted = first.pins.get .mf1 ∧
    (first.sfe.switch .tanksw).accepted = first.pins.get .tanksw ∧ (first.sfe.switch .tanksw).steady = some 20 ∧
    off.sst.settings.terminals.mf2 = .powerFailWarn ∧ (off.sfe.switch .mf2).accepted = true ∧
    off.pins.get .mf2 = false := by decide

/-- A part whose tank switch and slot switches are about to be accepted open. -/
def opening (presence : Presence) (x : SlotState) : State :=
  let i : SwitchInput := ⟨true, true, some 20⟩
  { pumpState 1000 transferRecord with
    sfe := { Sfe.idle with tanksw := i, slots := ⟨i, i, i⟩, probe := ⟨[1000], 0⟩ }
    cdc := { (pumpState 1000 transferRecord).cdc with presence := presence }
    crd := ⟨⟨{ Slot.idle with state := x }, { Slot.idle with state := x }, { Slot.idle with state := x }⟩, []⟩ }

theorem test_meets_RemovingTheTank : (opening .present .tagged).up = true ∧
    (opening .present .tagged).sfe.tanksw.steady = some 20 ∧ (opening .present .tagged).pins.tanksw = false ∧
    (opening .present .tagged).sfe.tanksw.accepted = true ∧ (opening .present .tagged).pumpLaw ∧
    (opening .settling .tagged).cdc.presence = .settling := by
  refine ⟨by decide, by decide, by decide, by decide, ⟨by decide, ?_⟩, by decide⟩
  intro q h _
  have hq : q = transferRecord := by
    have h' : some transferRecord = some q := h
    exact (Option.some.inj h').symm
  subst hq
  decide

theorem test_meets_RemovingACartridge : (opening .present .untagged).up = true ∧
    ((opening .present .untagged).sfe.slots.get .carb).steady = some 20 ∧
    (opening .present .untagged).pins.slots.get .carb = false ∧
    ((opening .present .untagged).slot .carb).state = .untagged ∧
    ((opening .present .mismatch).slot .carb).state = .mismatch ∧
    ((opening .present .identifying).slot .carb).state = .identifying := by decide

/-- `base` with a demand table. -/
def demanding (t : List Demand) : State := { base with dar := { Dar.idle with table := t, second := some 1000 } }

theorem test_meets_PutDemand : base.takes .link = true ∧ base.rank .link ≠ .off ∧
    fits .putDemand [3, 0, 0, 11, 0xA0, 0x05] = true ∧ askOf [3, 0, 0, 11, 0xA0, 0x05] = .taken (.air (.step 10)) true ∧
    durationOf [3, 0, 0, 11, 0xA0, 0x05] = .taken (some 86400) false ∧
    fits .putDemand [0, 3, 0xFF, 0xFF] = true ∧ durationOf [0, 3, 0xFF, 0xFF] = .taken none false ∧
    fits .putDemand [0, 4, 1, 0] = true ∧ fits .putDemand [4, 0, 1, 0, 1, 0] = true ∧
    askOf [0, 0, 0, 0, 1, 0] = .bad ∧ durationOf [0, 0, 0, 1, 0, 0] = .bad := by decide

theorem test_meets_ClearCommands : (demanding sevenDemands).takes .service = true ∧
    (demanding sevenDemands).rank .service ≠ .off ∧
    sevenDemands.any (fun e => e.origin == .link && e.slot == 2) = true ∧
    sevenDemands.any (fun e => e.origin == .link && e.slot == 3) = false ∧ (3 : Nat) < (4 : Byte).toNat ∧
    scopeOf .service [] = some (.one .service) ∧ scopeOf .service [3] = some .every ∧
    scopeOf .link [0] = some (.one .panel) ∧ scopeOf .link [4] = none ∧
    sevenDemands.filter (ClearScope.covers .every) ≠ [] := by decide

theorem test_meets_SecondTimer : (demanding fourDemands).up = true ∧
    (demanding fourDemands).dar.second = some 1000 ∧
    (fourDemands.map Demand.tick).filter (fun d => decide (d.remaining = some 0)) = [] ∧
    ([⟨.link, 0, .halt, some 1, .r1, .governing⟩].map Demand.tick).filter
      (fun d => decide (d.remaining = some 0)) ≠ [] := by decide

theorem test_meets_Resolution : planOf base.dar.table = base.dar.plan ∧
    planOf (demanding fourDemands).dar.table ≠ (demanding fourDemands).dar.plan := by decide

theorem test_meets_Strength : fourDemands ≠ [] ∧ (0 : Nat) ≠ 1 ∧ Rank.num .r1 < Rank.num .r2 := by decide

theorem test_meets_Standings : (sevenDemands.map Demand.ref).Nodup ∧ (haltingEntry sevenDemands).isSome = true ∧
    (fourDemands.map Demand.ref).Nodup ∧ haltingEntry fourDemands = none := by decide

/-- `base` with an airflow controller of its own. -/
def blowing (x : Afc) : State := { base with afc := x }

def spinning : Afc := { Afc.idle factoryCurve with actual := 5, duty := 550, regulation := some 2000 }

theorem test_meets_Boundary : (blowing spinning).up = true ∧ (blowing spinning).afc.regulation = some 2000 ∧
    (blowing { spinning with lowCount := 1 }).afc.lowCount < 2 ∧ (blowing { spinning with duty := 149 }).afc.duty < 150 ∧
    200 ≤ (sensing { Sfe.idle with tach := ⟨0, none, 200⟩ }).sfe.tach.rpm ∧
    (blowing { spinning with stalled := true, pendingBank := some .b }).afc.stalled = true := by decide

theorem test_meets_Stalls : let s := blowing { spinning with duty := 150, lowCount := 2, stallOff := some 30000 }
    s.up = true ∧ s.afc.regulation = some 2000 ∧ s.afc.stalled = false ∧ s.afc.fault = false ∧ 150 ≤ s.afc.duty ∧
    s.sfe.tach.rpm < 200 ∧ 2 ≤ s.afc.lowCount ∧ s.afc.stallOff = some 30000 := by decide
/-- The boundary that detects a stall posts it and then applies the pending swap. -/
theorem test_stall_then_swap :
    let t := (blowing { spinning with lowCount := 2, pendingBank := some .b }).regulationBoundary
    t.tlg.ring.map (·.body) = [.event (.fan .stall), .event (.curve .b)] ∧ t.afc.active = .b ∧
    t.afc.pendingBank = none ∧ t.afc.stalled = true ∧ t.afc.actual = 4 := by decide

theorem test_meets_Auto : bandOf 12 = 1 ∧ bandOf 13 = 2 ∧ bandOf 35 = 2 ∧ bandOf 36 = 3 ∧ bandOf 251 = 6 ∧
    (1 : Nat) < bandOf 36 ∧ bandOf 10 ≤ 2 ∧ (13 : Nat) ≤ 10 + 3 ∧ (9 : Nat) + 3 < 13 := by decide

theorem test_meets_DryFloor : 1 ≤ spinning.actual ∧ spinning.stalled = false ∧ spinning.fault = false ∧
    (Afc.idle factoryCurve).actual = 0 := by decide

/-- A LOAD-CURVE payload: a bank code and the factory curve. -/
def curvePayload (bank : Byte) : List Byte := bank :: encCurve factoryCurve

theorem test_meets_Curves : base.takes .panel = true ∧ base.rank .panel ≠ .off ∧ (curvePayload 1).length = 45 ∧
    bankOf (arg1 (curvePayload 1) 0) = some .b ∧ bankOf (arg1 (curvePayload 2) 0) = none ∧
    (.b : BankName) ≠ base.afc.active ∧ base.afc.pendingBank = none ∧ (curveOf (curvePayload 1) 1).acceptable = true ∧
    (curveOf (List.replicate 45 0) 1).acceptable = false ∧
    (blowing { spinning with pendingBank := some .b }).afc.pendingBank.isSome = true := by decide

theorem test_meets_AccountingTick : tickState.up = true ∧ tickState.fau.running = true ∧ tickState.accountLaw := by
  refine ⟨by decide, by decide, fun st => ?_, by decide, by decide, by decide⟩
  cases st <;> refine ⟨?_, ?_, ?_, ?_, ?_⟩ <;> decide

theorem test_meets_FilterCommands : tickState.takes .link = true ∧ tickState.rank .link ≠ .off ∧
    tickState.takes .service = true ∧ stageOf (2 : Byte).toNat = some .fine ∧ stageOf (3 : Byte).toNat = none ∧
    tickState.stagePresent .fine = true ∧ (tickState.fau.accounts.get .fine).washable = true ∧
    base.stagePresent .fine = false ∧ ((opening .present .untagged).slot .fine).state = .untagged ∧
    (tickState.slot .fine).state = .tagged := by decide

theorem test_meets_Forget : let s := { base with crd := ⟨Crd.idle.slots, [⟨0x01020304, .pre, 5, 0⟩]⟩ }
    s.takes .service = true ∧ ((0x01#8 ++ 0x02#8 ++ 0x03#8 ++ 0x04#8 : BitVec 32) = 0x01020304#32) ∧
    (s.crd.recent.find? (fun x => x.serial == 0x01020304)).isSome = true := by decide

/-- One slot state in all three slots, with a read in progress, on the accounts of `tickState`. -/
def reading (x : SlotState) (fails : Nat) : State :=
  let i : Slot := { Slot.idle with state := x, fails := fails, reading := some 80, poll := some 2000, settle := some 2000 }
  { tickState with crd := ⟨⟨i, i, i⟩, [⟨9, .fine, 100, 1⟩]⟩ }

theorem test_meets_Slots : (reading .settling 0).up = true ∧ ((reading .settling 0).slot .pre).settle = some 2000 ∧
    ((reading .tagged 3).slot .pre).poll = some 2000 ∧ ((reading .identifying 1).slot .pre).reading = some 80 ∧
    ((reading .identifying 1).slot .pre).fails < 2 := by decide

theorem reading_recentLaw (x : SlotState) (n : Nat) : (reading x n).recentLaw := by
  refine ⟨Nat.le_of_ble_eq_true rfl, by simp [reading], ?_, ?_, fresh_apart, fun _ _ h _ => absurd h ?_⟩
  · intro e he st
    have h : e = ⟨9, .fine, 100, 1⟩ := by simpa [reading] using he
    subst h
    show (tickState.fau.accounts.get st).serial ≠ some 9
    cases st <;> decide
  · show serialsApart tickState.fau.accounts
    have hs : ∀ st, (tickState.fau.accounts.get st).serial = some (BitVec.ofNat 32 (st.code + 1)) := by
      intro st
      cases st <;> decide
    intro a b m h k
    rw [hs] at h k
    rw [← h] at k
    revert k
    cases a <;> cases b <;> decide
  · simp [reading, tickState, base, Sst.idle]

/-- A tag whose check passed. -/
def rawTag (serial : BitVec 32) (st : Option Stage) : RawTag := ⟨serial, st, 12000, 997, 250, false⟩

theorem test_meets_TagVerdicts : (reading .identifying 2).recentLaw ∧ (reading .identifying 2).up = true ∧
    ((reading .identifying 2).slot .fine).reading = some 80 ∧
    (RawTag.good (rawTag 9 (some .fine))).isSome = true ∧ (RawTag.good (rawTag 9 (some .pre))).isSome = true ∧
    (tickState.fau.accounts.get .fine).serial = some 3 ∧ (tickState.fau.accounts.get .pre).serial = some 1 ∧
    ((reading .tagged 0).slot .fine).state = .tagged := by
  refine ⟨reading_recentLaw _ _, ?_⟩
  decide

theorem test_meets_DryingTimers : (drying { Drc.idle with off := .counting 180000 }).up = true ∧
    (drying { Drc.idle with state := .running, run := some 120000, frost := some 60000 }).drc.minRun = false ∧
    (drying { Drc.idle with state := .postRun, postRun := some 60000 }).drc.postRun = some 60000 := by decide

theorem test_meets_PulldownAndDefrost :
    let s (n : Nat) := drying { Drc.idle with
      state := .pulldown, pull := ⟨some 100, some 240000, some .checking⟩, pullFails := n }
    let r (n : Nat) := drying { Drc.idle with
      state := .defrost, defrost := some 900000, defrostEnd := some 30000, defrostFails := n }
    (s 0).up = true ∧ (s 0).drc.pull.elapsed = some 240000 ∧ (s 0).sst.settings.drying.policy = .retry ∧
    (s 0).drc.pullFails = 0 ∧ (s 1).drc.pullFails ≠ 0 ∧ (r 1).drc.defrostFails + 1 < 3 ∧
    3 ≤ (r 2).drc.defrostFails + 1 ∧ (r 2).drc.defrostEnd = some 30000 := by decide

theorem test_meets_ForceAndClear : (drying { Drc.idle with state := .running, minRun := true }).takes .service = true ∧
    (drying { Drc.idle with state := .running }).drc.minRun = false ∧
    (drying { Drc.idle with state := .lockout, reason := some .defrost }).takes .panel = true ∧
    base.rank .panel ≠ .off ∧ (drying { Drc.idle with state := .lockout, reason := some .coilSensor }).sfe.coil.temp = none ∧
    base.drc.state ≠ .lockout := by decide

theorem test_meets_CompressorRests : step base = .next (base.advance 1) := by
  have h : base.nextDue = none := by decide
  show stepIdle base = _
  unfold stepIdle
  rw [h]
  rfl

theorem test_meets_TankSettles : let s := { pumpState 1500 verifyRecord with
      cdc := { Cdc.idle with presence := .settling, settle := some 2000, release := some 5000 } }
    s.up = true ∧ s.cdc.settle = some 2000 ∧ s.cdc.released = false ∧ s.cdc.release = some 5000 ∧
    s.tankCfg.drain = .pump ∧ s.levelStarts = true ∧ s.startFree = true := by decide

theorem test_meets_FloatRelease : let s := { closing ⟨.floatHigh, .floatFull, .none, .floats⟩ none with
      sfe := { Sfe.idle with mf0 := ⟨true, true, none⟩, mf1 := ⟨false, true, none⟩ }
      cdc := { Cdc.idle with presence := .present, release := some 5000, full := true } }
    s.method = .floats ∧ s.level = .high ∧ s.cdc.full = true ∧ s.cdc.presence = .present := by decide

theorem test_meets_PumpSamples : let s := pumpState 147 transferRecord
    s.up = true ∧ s.cdc.seq = some transferRecord ∧ s.method = .probe ∧ s.level = .ml 147 ∧ s.tankCfg.empty = 150 ∧
    (pumpState 260 transferRecord).level = .ml 260 ∧ (sensing Sfe.idle).level = .unknown ∧
    { transferRecord with blockElapsed := some 15000 }.blocked = true ∧
    { transferRecord with lowest := some 180, blockMark := some 200 }.progress.blockMark = some 180 := by decide

theorem test_meets_PumpTimers : let p := { transferRecord with phase := some .prime, flow := some 2000, elapsed := some 20000 }
    (pumpState 147 p).cdc.seq = some p ∧ (pumpState 147 p).flowInput = some false ∧
    (closing ⟨.floatHigh, .floatFull, .none, .floats⟩ (some p)).primeByTime = true ∧
    (pumpState 147 { transferRecord with highRelease := some 40000, elapsed := some 300000 }).up = true ∧
    (pumpState 158 verifyRecord).verifyPasses verifyRecord = true ∧
    (pumpState 230 verifyRecord).verifyPasses verifyRecord = false := by decide

theorem test_meets_PumpCommands : let s := { pumpState 1500 verifyRecord with
      cdc := { Cdc.idle with presence := .present, seq := some { transferRecord with status := .stopped } } }
    s.takes .link = true ∧ s.rank .link ≠ .off ∧ s.pumpUnready = false ∧ s.pumping = false ∧
    s.volumeAboveEmpty = 1350 ∧ (pumpState 150 verifyRecord).volumeAboveEmpty = 0 ∧
    (pumpState 150 verifyRecord).pumping = true ∧ base.pumpUnready = true := by decide

/-- A log of 256 records, all unread. -/
def fullLog : State :=
  { base with tlg := { Tlg.idle with
    ring := (List.range 256).map (fun i => ⟨BitVec.ofNat 32 i, 0, .event (.restart .powerOn)⟩), nextSeq := 256
    minute := some 60000 } }

theorem test_meets_Minute : fullLog.up = true ∧ fullLog.tlg.minute = some 60000 ∧ fullLog.tlg.ring.length = 256 ∧
    fullLog.tlg.ring.head?.map (·.seq) = some (fullLog.tlg.readers.get .link).cursor ∧
    base.tlg.ring.length < 256 := by decide +kernel

theorem test_meets_LogReaders : fullLog.takes .link = true ∧ (1 : Nat) < (2 : Byte).toNat := by decide

theorem test_meets_LogJoin : base.takes .panel = true ∧ 1 ≤ (1 : Byte).toNat ∧ (3 : Byte).toNat ≤ 3 ∧
    (0 : Byte).toNat = 0 ∧ 3 < (4 : Byte).toNat := by decide

theorem test_meets_Reads : base.takes .panel = true ∧ base.takes .link = true ∧ base.takes .service = true ∧
    3 ≤ (3 : Byte).toNat ∧ 5 ≤ (5 : Byte).toNat ∧ (7 : Byte).toNat ≤ 7 ∧ 9 ≤ (9 : Byte).toNat := by decide

theorem test_meets_ReadEvents : (base.post .link .plan).takes .link = true := by decide

/-- `base` with LINK's STORE flag set and unmasked. -/
def flagged : State :=
  { base with prt := ports PortIf.idle { PortIf.idle with flags := 0x8000, mask := 0x8000 } PortIf.idle }

theorem test_meets_Attention : base.live = true ∧ flagged.attention .link = true := by decide

theorem test_meets_WriteConfig : base.takes .service = true ∧ fits .writeConfig [0, 0, 1, 3] = true ∧
    configOf base.sst.settings [0, 0, 1, 3] = .taken { Settings.factory with ports := ⟨.off, .r1, .r3⟩ } false ∧
    fits .writeConfig [0, 4, 1, 3] = true ∧ configOf base.sst.settings [0, 4, 1, 3] = .bad ∧
    fits .writeConfig [8] = true ∧ base.configBusy = false ∧
    configOf base.sst.settings [1, 2, 3, 0, 1] =
      .taken { Settings.factory with terminals := ⟨.floatHigh, .floatFull, .none, .floats⟩ } false ∧
    fits .writeConfig [2, 1, 150, 0, 0x20, 3, 0x28, 0x0A, 0xB8, 0x0B] = true ∧
    configOf base.sst.settings [2, 1, 150, 0, 0x20, 3, 0x28, 0x0A, 0xB8, 0x0B] =
      .taken { Settings.factory with tank := ⟨.pump, 150, 800, 2600, 3000⟩ } false ∧
    fits .writeConfig [5, 0xF4, 1, 10, 10, 0] = true ∧
    configOf base.sst.settings [5, 0xF4, 1, 10, 10, 0] =
      .taken { Settings.factory with filters := ⟨500, 10, 10⟩ } false := by decide

theorem test_meets_Refused : base.takes .link = true ∧ fits .readPlan [0] = false ∧ fits .restart [] = true ∧
    permitted .restart .link (base.rank .link) = false ∧ State.reset.live = true ∧
    State.reset.sst.startUp = .reading := by decide

/-- A part with answers pending on PANEL and SERVICE, and TXD sending with a frame held. -/
def answering : State :=
  let pan : PortIf := { PortIf.idle with response := some ⟨.ok, 1, []⟩ }
  let serv : PortIf := { PortIf.idle with response := some ⟨.ok, 2, []⟩, prior := some ⟨.busy, 1, []⟩ }
  { base with prt := { ports pan PortIf.idle serv with
    sending := true, held := some ⟨.known .readPlan, 7, []⟩, handover := some 0 } }

theorem test_meets_Links : answering.live = true ∧ answering.prt.sending = true ∧ answering.prt.held.isSome = true ∧
    (answering.port .panel).response.isSome = true ∧ (answering.port .link).rx = none ∧ answering.prt.gap = none ∧
    answering.prt.handover.isSome = true ∧ (base.port .panel).response = none ∧ base.prt.handover = none ∧
    (FrameKind.known .readPlan) ≠ .unknown 0 ∧
    { base with prt := ports { PortIf.idle with rx := some [2], out := [0x5A] } PortIf.idle PortIf.idle }.live = true := by
  decide

/-! ### Reception, the store read, and the boundaries of the rules -/

/-- The state that a command gives. -/
def after (i : Instr) (s : State) : State :=
  match exec i s with
  | .next t => t
  | _ => s

/-- The worked frame of file 09 on LINK, by its bytes: READ-PLAN with Tag 0x10. -/
theorem test_link_takes_bytes : let t := after (.commandReceptionStart ⟨.link, [0x00, 0xA5, 0x02, 0x10, 0x00, 0x81]⟩) base
    (t.port .link).rx = none ∧ t.prt.gap = none ∧ t.prt.sending = true ∧
    (t.port .link).out.take 4 = [0xA5, 0x00, 0x10, 0x0B] := by decide +kernel
theorem test_link_collects : let t := after (.commandReceptionStart ⟨.link, [0xA5, 0x02, 0x10]⟩) base
    (t.port .link).rx = some [0x02, 0x10] ∧ t.prt.gap = some 0 ∧ framingOf (t.port .link).rx = .header := by
  decide +kernel
theorem test_link_gap_is_due : let s := after (.commandReceptionStart ⟨.link, [0xA5, 0x02]⟩) base
    s.nextDue = none ∧ (s.advance 21).nextDue = some .linkGapTimeout := by decide +kernel

theorem test_factory_image : Settings.ofImage Settings.factory.image = some .factory ∧
    Settings.ofImage [] = none := by decide +kernel

/-- A part that reads a region of its store. -/
def reads (r : Region) (ms : Nat) : State :=
  { State.reset with sst := { State.reset.sst with reading := some r, readTimer := some ms } }

theorem test_timeout_ends_the_store_read : let t := after (.regionReadTimeout .lockout) (reads .lockout 50)
    t.up = true ∧ t.sst.replaced = ⟨true, true, true, true⟩ ∧ t.drc.state = .off ∧
    t.sst.writingRegions = ⟨true, true, true, true⟩ := by decide +kernel
theorem test_region_timeout_is_due : (reads .filters 50).nextDue = some (.regionReadTimeout .filters) := by decide

theorem test_meets_RegionTimeouts : (reads .recent 7).live = true ∧ (reads .recent 7).sst.startUp = .reading ∧
    (reads .recent 7).sst.reading = some .recent ∧ (reads .recent 7).sst.readTimer = some 7 ∧
    Region.config.index < Region.recent.index ∧ Region.recent.index ≤ Region.lockout.index ∧
    (reads .recent 7).ringLaw := by
  refine ⟨by decide, by decide, by decide, by decide, by decide, by decide, Nat.zero_le _, ?_, ?_⟩
  · intro i r h
    exact absurd h (by simp [reads, State.reset, Tlg.idle])
  · intro p
    cases p <;> exact Nat.le_of_ble_eq_true rfl

/-- A store whose four regions all read back, with a lockout stored and a list that the cleaning shortens. -/
def keptStore : Store :=
  { config := ⟨Settings.factory.image, true⟩
    filters := ⟨tickState.fau.accounts, true⟩
    recent := ⟨[⟨9, some .fine, 100, 1⟩, ⟨3, some .fine, 100, 1⟩, ⟨9, some .pre, 5, 0⟩], true⟩
    lockout := ⟨.defrost, true⟩ }

theorem test_meets_RestoredStore : keptStore.failing .empty .empty = .empty ∧
    (keptStore.load .empty).reason = some .defrost ∧
    cleanRecent tickState.fau.accounts [] (keptStore.load .empty).recent = [⟨9, .fine, 100, 1⟩] := by decide +kernel
theorem test_store_rules : { keptStore with lockout := ⟨.other, true⟩ }.failing .empty .empty = .single .lockout ∧
    { keptStore with recent := ⟨[⟨9, none, 0, 0⟩], true⟩ }.failing .empty .empty = .single .recent ∧
    { keptStore with config := ⟨[[0, 4, 1, 3]], true⟩ }.failing .empty .empty = .single .config := by decide +kernel

theorem test_restored_start : let t := after (.storeReadEnd .empty) { State.reset with store := keptStore }
    t.drc.state = .lockout ∧ t.drc.reason = some .defrost ∧ t.crd.recent = [⟨9, .fine, 100, 1⟩] ∧
    t.tlg.ring.map (·.body) = [.event (.restart .powerOn), .event (.lockout .defrost)] ∧
    t.sst.writingRegions = .single .recent := by decide +kernel

theorem test_meets_FailedRegions :
    RegionSet.inter (regionsDone oneWrite.regions ⟨1, .single .config, .fails⟩) (.single .config) =
      RegionSet.single .config ∧
    regionsBefore oneWrite.regions .recent = 1 ∧
    (writing.cutOff ⟨1, .single .config, .fails⟩).store.config = writing.store.config ∧
    (writing.cutOff ⟨1, .single .config, .fails⟩).store.recent.intact = false ∧
    (writing.cutOff ⟨2, .empty, .fails⟩).store.config = ⟨Settings.factory.image, true⟩ := by decide +kernel

theorem test_meets_RestartWrites : { writing with sst := { writing.sst with restart := .finishing } }.sst.writing ≠ none ∧
    { base with sst := { base.sst with restart := .finishing } }.sst.writing = none ∧
    { writing with sst := { writing.sst with restart := .lastWrite } }.sst.restart = .lastWrite ∧
    ({ base with sst := { base.sst with restart := .drained } }.request (.single .recent)).sst.pendingWrite =
      .single .recent := by decide +kernel

/-- A part with its compressor on. -/
def cooling : State :=
  { pumpState 1000 verifyRecord with
    sfe := { Sfe.idle with
      probe := ⟨[1000], 0⟩, coil := ⟨some 100, 0⟩, room := ⟨[600], [250], 0⟩ }
    cdc := { Cdc.idle with presence := .present }
    crd := tickState.crd
    afc := { Afc.idle factoryCurve with actual := 5, q := 300, floor := some 3, need := .floor }
    dar := { Dar.idle with plan := { Dar.idle.plan with dry := some (.percent 50) } }
    drc := { Drc.idle with state := .running, call := true, run := some 5000 } }

theorem test_meets_compressorLaw : cooling.drc.state.on = true ∧ cooling.compressorLaw ∧ cooling.configLaw := by
  refine ⟨rfl, fun _ => ?_, test_meets_StoredConfig.1⟩
  decide +kernel

/-- A log of two records, one of them read by every port. -/
def shortLog : Tlg :=
  { Tlg.idle with
    ring := [⟨7, 1, .event (.restart .powerOn)⟩, ⟨8, 2, .event (.fan .stall)⟩], nextSeq := 9
    readers := ⟨⟨8, true, true, false, false, false⟩, ⟨8, true, true, false, false, false⟩,
      ⟨8, true, true, false, false, false⟩⟩ }

theorem test_meets_ringLaw : { base with tlg := shortLog }.ringLaw := by
  refine ⟨by decide, ?_, fun p => by cases p <;> decide⟩
  intro i r h
  match i with
  | 0 => cases h; decide
  | 1 => cases h; decide
  | n + 2 => exact absurd h (by simp [shortLog])

/-- The boundaries of R142 and R143: 60 mL in PRIME, 20 and 100 mL in TRANSFER. -/
def primeRecord : Sequence :=
  { transferRecord with
    phase := some .prime, phaseStart := some 1000, lowest := some 1000, moved := some 0, remaining := some 500
    sample := some 1000, blockMark := none, blockElapsed := none }

def transferAt (low mark : Option Nat) (block : Nat) : Sequence :=
  { transferRecord with lowest := low, blockMark := mark, blockElapsed := some block, remaining := some 500 }

theorem test_prime_boundary :
    ((after .pumpSample (pumpState 940 primeRecord)).cdc.seq.map (·.phase)) = some (some .transfer) ∧
    ((after .pumpSample (pumpState 941 primeRecord)).cdc.seq.map (·.phase)) = some (some .prime) := by decide +kernel
theorem test_transfer_boundaries :
    ((after .pumpSample (pumpState 900 (transferAt (some 800) (some 810) 0))).cdc.seq.map (·.condition)) =
      some .backflow ∧
    ((after .pumpSample (pumpState 899 (transferAt (some 800) (some 810) 0))).cdc.seq.map (·.condition)) =
      some .none ∧
    ((after .pumpSample (pumpState 780 (transferAt (some 800) (some 800) 15000))).cdc.seq.map
      (fun q => (q.condition, q.blockMark, q.blockElapsed))) = some (.none, some 780, some 0) ∧
    ((after .pumpSample (pumpState 781 (transferAt (some 800) (some 800) 15000))).cdc.seq.map (·.condition)) =
      some .blocked ∧
    ((after .pumpSample (pumpState 781 (transferAt (some 800) (some 800) 14999))).cdc.seq.map (·.condition)) =
      some .none ∧
    ((after .pumpSample (pumpState 150 (transferAt (some 800) (some 800) 0))).cdc.seq.map (·.phase)) =
      some (some .verify) := by decide +kernel
theorem test_meets_FreeLevel : let s := pumpState 700 (transferAt none none 0)
    s.cdc.seq.map (·.lowest) = some none ∧ s.level = .ml 700 ∧ s.method = .probe ∧
    { s with sfe := Sfe.idle }.level = .unknown := by decide

/-- A tank at 1500 mL with no run. -/
def fullTank : State :=
  { base with sfe := { Sfe.idle with probe := ⟨[1500], 0⟩ }, cdc := { Cdc.idle with presence := .present } }

theorem test_pump_out_variants :
    ((after (.pumpOutNew .link 9 [0, 0xA0, 0x0F]) fullTank).port .link).out.take 3 = [0xA5, 0x00, 9] ∧
    ((after (.pumpOutNew .link 9 [0, 0xA1, 0x0F]) fullTank).port .link).out.take 3 = [0xA5, 0x01, 9] ∧
    ((after (.pumpOutNew .panel 9 [2]) fullTank).port .panel).response = some ⟨.badArg, 9, []⟩ ∧
    ((after (.pumpOutResume .panel 9 [1, 0, 0]) fullTank).port .panel).response = some ⟨.badArg, 9, []⟩ := by
  decide +kernel
theorem test_meets_PumpOutVariants : fullTank.takes .link = true ∧ fullTank.pumpUnready = false ∧
    fullTank.volumeAboveEmpty = 1350 ∧ 2 ≤ (2 : Byte).toNat := by decide +kernel

theorem test_meets_CoilChecks :
    (drying { Drc.idle with state := .pulldown, pull := ⟨some 130, some 0, some .passed⟩ }).drc.pull.outcome ≠
      some .checking ∧
    ((after (.coilConversion 100) { cooling with drc := { cooling.drc with
      state := .pulldown, pull := ⟨some 130, some 9000, some .checking⟩ } }).drc.state,
     (after (.coilConversion 101) { cooling with drc := { cooling.drc with
      state := .pulldown, pull := ⟨some 130, some 9000, some .checking⟩ } }).drc.state) = (.running, .pulldown) ∧
    (after (.coilConversion (-10)) cooling).drc.frost = some 0 ∧ (after (.coilConversion (-9)) cooling).drc.frost = none ∧
    (after (.coilConversion 40) { cooling with drc := { cooling.drc with state := .defrost } }).drc.defrostEnd =
      some 0 := by decide +kernel

/-- A tank at `level` by one reading, in drain mode PUMP. -/
def filling (level : Nat) : State := { pumpState level verifyRecord with cdc := { Cdc.idle with presence := .present } }

theorem test_probe_level_starts_a_run : base.tankCfg.drain = .pump ∧ base.tankCfg.pumpStart = 1500 ∧
    let t := after (.probeConversion 2000) (filling 100)
    t.probeLevel = some 2000 ∧ t.cdc.pump = true ∧
    t.cdc.seq.map (fun q => (q.origin, q.phase, q.startLevel)) = some (.auto, some .prime, .ml 2000) := by decide +kernel
theorem test_probe_level_sets_full : let t := after (.probeConversion 4000) (filling 100)
    t.cdc.full = true ∧ (t.port .panel).flags &&& Flag.tank.bit = Flag.tank.bit := by decide +kernel
theorem test_lost_level_sets_full :
    let t := after (.probeConversion 4001) (sensing { Sfe.idle with probe := ⟨[100], 2⟩ })
    t.probeLevel = none ∧ t.cdc.full = false ∧
    (after (.probeConversion 4001) { filling 100 with sfe := { Sfe.idle with probe := ⟨[100], 2⟩ } }).cdc.full = true := by
  decide +kernel

theorem test_meets_TickStates : base.up = true ∧ base.fau.running = false ∧
    { tickState with fau := { tickState.fau with periodic := 39 } }.fau.running = true ∧
    (after .accountingTick { tickState with fau := { tickState.fau with periodic := 39 } }).fau.periodic = 0 ∧
    (after .accountingTick { tickState with fau := { tickState.fau with periodic := 38 } }).fau.periodic = 39 := by
  decide +kernel

theorem test_third_abandon_makes_untagged : let t := after (.tagReadAbandon .pre) (reading .identifying 2)
    (t.slot .pre).state = .untagged ∧ t.fau.accounts.pre.unverified = true ∧ t.crd.recent.length = 2 ∧
    t.now = 0 := by decide +kernel

/-- An idle port with a response pending. -/
def owing (x : PortIf) (r : Response) : PortIf := { x with response := some r }

/-- LINK with bytes received after the sync byte, and the time since the last one. -/
def linking (bytes : Option (List Byte)) (gap : Timer) : State :=
  { base with prt := { (ports PortIf.idle { PortIf.idle with rx := bytes } PortIf.idle) with gap := gap } }

theorem test_meets_Framing : (linking (some [2, 7]) (some 3)).live = true ∧
    framingOf (some []) = .header ∧ framingOf (some [2, 7]) = .header ∧ framingOf (some [2, 7, 1]) = .payload ∧
    framingOf (some [2, 7, 0]) = .check ∧ framingOf none = .hunt ∧
    ((linking (some [2, 7]) (some 3)).port .link).rx = some [2, 7] ∧ (48 : Nat) < (49 : Byte).toNat ∧
    (linking (some [2, 7]) (some 3)).prt.gap = some 3 ∧ (linking none none).prt.gap = none ∧
    (after (.commandReceptionStart ⟨.link, [49]⟩) (linking (some [2, 7]) (some 3))).prt = base.prt ∧
    (after .linkGapTimeout (linking (some [2, 7]) (some 3))).prt = base.prt ∧
    (after .linkGapTimeout (linking (some [2, 7]) (some 3))).now = 18 := by decide +kernel
theorem test_panel_reception : ((after (.commandReceptionStart ⟨.panel, [2, 7]⟩) base).port .panel).rx = some [2, 7] ∧
    ((after (.commandReceptionStart ⟨.panel, [2, 7]⟩) base).port .panel).out = [0x00, 0x00] ∧
    (after (.commandReceptionStart ⟨.panel, [0, 7]⟩) base) = base ∧
    ((after (.commandReceptionStart ⟨.panel, [2, 7]⟩) { base with
      prt := ports (owing PortIf.idle ⟨.ok, 1, []⟩) PortIf.idle PortIf.idle }).port .panel).out = [0x5A, 0x00] ∧
    ((after (.commandReceptionStart ⟨.service, []⟩) base).port .service).rx = some [] := by decide +kernel

theorem test_config_bytes : configOf .factory [0, 1, 2, 0] = .taken { Settings.factory with ports := ⟨.r1, .r2, .r1⟩ } true ∧
    configOf .factory [3, 0, 7, 0xFF, 0xFF] = .taken { Settings.factory with airflow := ⟨1, 6, 300⟩ } true ∧
    configOf .factory [4, 2, 0] = .bad ∧ configOf .factory [4, 1, 7] =
      .taken { Settings.factory with drying := ⟨.lockout, ⟨true, true, true⟩⟩ } false ∧
    configOf .factory [2, 0, 0xF4, 1, 0xF4, 1, 0, 4, 0, 8] = .bad ∧
    (configOf .factory (7 :: encCurve factoryCurve) = .taken .factory false) := by decide +kernel

theorem test_panel_zero_forms_no_frame : exec (.unknownCommand .panel 0 3 []) base = .next base ∧
    ¬((.link : Port) = .panel ∧ (0 : Byte) = 0) ∧ base.live = true := by
  refine ⟨rfl, by decide, by decide⟩

/-- A second response formed while an earlier one was still unread. -/
def twoAnswers : State :=
  { base with prt := ports PortIf.idle PortIf.idle { owing PortIf.idle ⟨.ok, 2, []⟩ with prior := some ⟨.busy, 1, []⟩ } }

theorem test_early_read : let t := after (.serviceReadTransaction 2 true) twoAnswers
    (t.port .service).prior = some ⟨.busy, 1, []⟩ ∧ (t.port .service).out.length = 2 ∧
    (t.port .service).response = some ⟨.ok, 2, []⟩ ∧
    ((after (.serviceReadTransaction 5 true) twoAnswers).port .service).prior = none ∧
    ((after (.serviceReadTransaction 5 false) twoAnswers).port .service).response = none := by decide +kernel

/-- The MISO bytes of a PANEL frame's window, taken whole and after some of its bytes (R166). -/
theorem test_panel_frame_miso : let pending := { base with prt := ports (owing PortIf.idle ⟨.ok, 1, []⟩) PortIf.idle PortIf.idle }
    ((after (.readConfig .panel 7 [8]) pending).port .panel).out = [0x5A, 0, 0, 0, 0] ∧
    ((after (.badFrame .panel 7) base).port .panel).out = [0, 0, 0] ∧
    ((after (.readPlan .panel 7 []) (after (.commandReceptionStart ⟨.panel, [2, 7]⟩) pending)).port .panel).out =
      [0x5A, 0, 0, 0] ∧
    ((after (.frameDiscard .panel) pending).port .panel).out = [0x5A] := by decide +kernel

/-- New marks start a run; a new worn threshold posts FILTER; a port at OFF loses its demands. -/
theorem test_config_is_handed_on :
    let t := (filling 1000).applyConfig { Settings.factory with tank := ⟨.pump, 150, 800, 2600, 3000⟩ }
    let u := tickState.applyConfig { Settings.factory with filters := ⟨500, 10, 10⟩ }
    let v := { base with dar := { base.dar with table := fourDemands } }.applyConfig
      { Settings.factory with ports := ⟨.off, .r1, .r3⟩ }
    t.cdc.pump = true ∧ t.cdc.seq.map (·.target) = some (some 850) ∧
    u.stageState .carb = .worn ∧ u.tlg.ring.map (·.body) = [.event (.filterState .carb .worn)] ∧
    v.dar.table.map (·.origin) = [.link, .link] ∧
    v.tlg.ring.map (·.body) = [.event (.demandDropped ⟨.panel, 0⟩ .rankOff), .event (.demandDropped ⟨.panel, 1⟩ .rankOff)] ∧
    v.sst.writingRegions.config = true := by decide +kernel

/-- The DRC keeps what it last held of a reading that becomes INVALID (R103). -/
theorem test_readings_are_kept :
    let bus : PrivateBus := ⟨some 25, true, false, some .room, some 25⟩
    let s := sensing { Sfe.idle with bus := bus }
    let a := after (.coilConversion 75) (after (.roomReadEnd (some ⟨620, 215⟩)) s)
    let lost := after (.roomReadEnd none) (a.setSfe { a.sfe with bus := bus, room := { a.sfe.room with fails := 2 } })
    let b := after (.coilConversion 700) (after (.coilConversion 700) lost)
    a.drc.readings = ⟨620, 215, true, 75, true⟩ ∧ b.rh = none ∧ b.sfe.coil.temp = none ∧
    b.drc.readings = ⟨620, 215, false, 75, false⟩ := by decide +kernel

theorem test_meets_ExactRegions : State.reset.sst.unsaved = .empty ∧ State.reset.sst.writing = none ∧
    State.reset.sst.pendingWrite = .empty ∧
    (let t := after (.storeReadEnd .empty) State.reset
     t.sst.writingRegions = ⟨true, true, true, true⟩ ∧ t.sst.pendingWrite = .empty) := by decide +kernel

/-- The governing and the halting entries that the plan's fields come from, and a table without them. -/
theorem test_meets_PlanFields :
    (governingEntry fourDemands .air).map (·.ask) = some (.air (.step 9)) ∧
    (governingEntry fourDemands .dry).map (·.ask) = some (.dry (.percent 50)) ∧
    (governingEntry fourDemands .quiet).map (·.ask) = some (.quiet 3 true) ∧
    (haltingEntry sevenDemands).map Demand.ref = some ⟨.panel, 2⟩ ∧ governingEntry [] .air = none ∧
    governingEntry [] .dry = none ∧ governingEntry [] .quiet = none := by decide

/-- One expiry due, and none without supply; the run timer past its minimum run has no limit. -/
theorem test_expiries : base.nextDue = none ∧ (drying { Drc.idle with off := .counting 180000 }).nextDue =
      some .offTimerPassed ∧
    { drying { Drc.idle with off := .counting 180000 } with supply := false }.nextDue = none ∧
    (drying { Drc.idle with run := some 119999, off := .counting 179999 }).later 2 =
      { drying { Drc.idle with run := some 120000, off := .counting 180000 } with now := 2 } ∧
    ((drying { Drc.idle with run := some 120000, minRun := true }).later 5).drc.run = some 120005 := by decide +kernel

/-- The boundaries of the call, the cold mark and QUIET (R104 to R106). -/
theorem test_drying_boundaries :
    nextCall (some (.percent 50)) (some 530) false = true ∧ nextCall (some (.percent 50)) (some 529) false = false ∧
    nextCall (some (.percent 50)) (some 480) true = false ∧ nextCall (some (.percent 50)) (some 481) true = true ∧
    nextCold (some 49) false = true ∧ nextCold (some 50) true = true ∧ nextCold (some 60) true = false ∧
    (let s (c : Nat) : State := { base with
       dar := { Dar.idle with plan := { Plan.idle with ceiling := some c } }, afc := { spinning with floor := some 3 } }
     (s 3).holds.quiet = false ∧ (s 2).holds.quiet = true) := by decide

theorem test_meets_LevelAndFrame : average [4, 5] = some 4 ∧ averageInt [-4, -5] = some (-5) ∧
    crc8 [0x31, 0x32, 0x33, 0x34, 0x35, 0x36, 0x37, 0x38, 0x39] = 0xF4 ∧
    fits .putDemand [0, 3, 0, 0] = true ∧ fits .putDemand [0, 2, 0, 0] = false ∧
    fits .writeConfig [9] = true ∧ fits .writeConfig [0] = false ∧ permitted .clearLockout .link .r3 = false ∧
    RawTag.good ⟨7, some .pre, 0, 1001, 1000, true⟩ = some ⟨7, .pre, 1, 1000, 1000, true⟩ := by decide +kernel

/-- READ-LOG passes a record not joined that stands before a joined one that no longer fits (log 60). -/
theorem test_skips_before_one_left_out :
    let x (n : BitVec 32) (e : Event) : TrendRecord := ⟨n, 5, .event e⟩
    let r : Reader := { Reader.idle with joinSample := false }
    let sample : TrendRecord := ⟨1, 5, .sample (base.sample)⟩
    (examine r 12 [x 0 (.tank .full), sample, x 2 (.tank .notFull)]).2 = 1 ∧
    (examine r 12 [x 0 (.tank .full), sample, x 2 (.tank .notFull)]).1.length = 1 := by decide +kernel

/-- The invariants have a state that meets them and that a step leads from. -/
theorem test_meets_Invariants : (base.configLaw ∧ base.bankLaw ∧ base.demandLaw ∧ base.recentLaw) ∧
    step base = .next (base.advance 1) := ⟨meets_laws, test_meets_CompressorRests⟩

end Sys2Proof.Tests
end

-- The rules about windows, sensor events and hand-overs that the sensing statements share.
section
namespace Sys2Proof.Machine

/-! ### Averages (R1) -/

/-- An average is the sum divided by the count, rounded down. -/
theorem average_eq_some_iff (w : List Nat) (m : Nat) :
    average w = some m ↔ w ≠ [] ∧ m * w.length ≤ w.sum ∧ w.sum < (m + 1) * w.length := by
  cases w with
  | nil => simp [average]
  | cons x xs =>
    have hpos : 0 < (x :: xs).length := Nat.succ_pos _
    simp only [average, List.isEmpty_cons, Bool.false_eq_true, if_false, Option.some.injEq, ne_eq,
      reduceCtorEq, not_false_eq_true, true_and]
    rw [← Nat.le_div_iff_mul_le hpos, ← Nat.div_lt_iff_lt_mul hpos]
    omega

/-- A signed average is the sum divided by the count, rounded toward the lower value. -/
theorem averageInt_eq_some_iff (w : List Int) (m : Int) :
    averageInt w = some m ↔ w ≠ [] ∧ m * w.length ≤ w.sum ∧ w.sum < (m + 1) * w.length := by
  cases w with
  | nil => simp [averageInt]
  | cons x xs =>
    have hpos : (0 : Int) < ((x :: xs).length : Int) := Int.natCast_pos.2 (Nat.succ_pos _)
    simp only [averageInt, List.isEmpty_cons, Bool.false_eq_true, if_false, Option.some.injEq, ne_eq,
      reduceCtorEq, not_false_eq_true, true_and]
    rw [← Int.le_ediv_iff_mul_le hpos, ← Int.ediv_lt_iff_lt_mul hpos]
    omega

/-! ### Sensor events (R16) -/

/-- A sensor event on a state with the ports and the log of `s` is the one event posted since `s`. -/
theorem postSensor_posts {v s : State} (hp : v.prt = s.prt) (hl : v.tlg = s.tlg) (x : Sensor) (valid : Bool) :
    (v.postSensor x valid).posts s .sensor (.sensor x valid) := by
  have h := postAll_log_posts v .sensor (.sensor x valid)
  simp only [State.posts, State.flagsRaised, hp, hl] at h
  exact h

/-- The front end takes a new value and posts a sensor event when `c` holds. -/
theorem setSfe_postSensor_iff (s : State) (y : Sfe) (x : Sensor) (valid : Bool) (c : Prop) [Decidable c] :
    let t := if c then (s.setSfe y).postSensor x valid else s.setSfe y
    t.sfe = y ∧ (c → t.posts s .sensor (.sensor x valid)) ∧ (¬c → t.postsNothing s) ∧
      t.sameBut s [.sfe, .tlg, .prt] := by
  by_cases h : c
  · simp only [h, if_true]
    refine ⟨rfl, fun _ => postSensor_posts rfl rfl x valid, fun k => absurd trivial k, fun b hb => ?_⟩
    cases b <;> first | rfl | simp at hb
  · simp only [h, if_false]
    refine ⟨rfl, fun k => absurd k id, fun _ => ⟨rfl, rfl⟩, fun b hb => ?_⟩
    cases b <;> first | rfl | simp at hb

/-- A row that acts once the part is up answers with its operation's result. -/
theorem exec_of_up {i : Instr} {s v : State} {f : State → State} (hi : exec i s = .next (s.whenUp f))
    (hup : s.up = true) (hv : f s = v) : exec i s = .next v := by
  rw [hi, whenUp_of_up hup, hv]

/-- A row that acts once the part is up changes nothing where its operation changes nothing. -/
theorem exec_unchanged {i : Instr} {s : State} {f : State → State} (hi : exec i s = .next (s.whenUp f))
    (hf : f s = s) : exec i s = .next s := by
  rw [hi, State.whenUp, hf, ite_self]

@[simp] theorem advance_up (s : State) (ms : Nat) : (s.advance ms).up = s.up := rfl

/-! ### Particle frames (R2, R3) -/

/-- A good frame after the warm-up is accepted. -/
theorem particleFrame_accepted {s : State} (hw : s.sfe.particle.warmup = none) (n : Nat) :
    s.particleFrame (some n) =
      if s.sfe.particle.window = [] then
        (s.setSfe { s.sfe with particle := s.sfe.particle.accept n }).postSensor .particle true
      else s.setSfe { s.sfe with particle := s.sfe.particle.accept n } := by
  simp only [State.particleFrame, hw, Option.isSome_none, Bool.false_eq_true, if_false, List.isEmpty_iff]

/-- Within the warm-up every frame is discarded. -/
theorem particleFrame_warming {s : State} (hw : s.sfe.particle.warmup.isSome = true) (r : Option Nat) :
    s.particleFrame r = s := by
  cases r with
  | none => rfl
  | some n => simp only [State.particleFrame, hw, if_true]

/-- 10 s without an accepted reading. -/
theorem particleTimeout_running {s : State} {e : Nat} (hw : s.sfe.particle.wait = some e) :
    s.particleTimeout =
      let u := s.advance (10000 - e)
      let v := u.setSfe { u.sfe with particle :=
        { u.sfe.particle with window := [], saturated := false, wait := none } }
      if s.sfe.particle.window ≠ [] then v.postSensor .particle false else v := by
  rw [State.particleTimeout, expire_running hw]
  simp only [ne_eq, ite_not, ← List.isEmpty_iff]
  rfl

/-- Settles O14, frame by frame and expiry by expiry. -/
theorem particleReadingsAndTimers : Obligations.ParticleReadingsAndTimers := by
  refine ⟨⟨⟨fun s n hup hw => ?_, fun s r hw => ?_, fun s => ?_⟩, fun s e hup hw => ?_, fun s e hup hw => ?_⟩,
    fun s => average_eq_some_iff _⟩
  · obtain ⟨hsfe, hpost, hquiet, hframe⟩ := setSfe_postSensor_iff s
      { s.sfe with particle := s.sfe.particle.accept n } .particle true (s.sfe.particle.window = [])
    rw [← particleFrame_accepted hw] at hsfe hpost hquiet hframe
    refine ⟨s.particleFrame (some n), exec_of_up rfl hup rfl, ?_, hpost, hquiet, hframe⟩
    rw [hsfe, ← hw]
    rfl
  · exact exec_unchanged rfl (particleFrame_warming hw r)
  · exact exec_unchanged rfl rfl
  · exact exec_of_up rfl hup (expire_running hw _ _)
  · obtain ⟨hsfe, hpost, hquiet, hframe⟩ := setSfe_postSensor_iff (s.advance (10000 - e)) _
      .particle false (s.sfe.particle.window ≠ [])
    refine ⟨_, exec_of_up rfl hup (particleTimeout_running hw), hsfe, ?_, hpost,
      fun k => hquiet (not_not_intro k), hframe⟩
    exact congrArg (fun x : Sfe => average x.particle.window) hsfe

end Sys2Proof.Machine
end

section
namespace Sys2Proof.Machine

/-! ### The bus of the gas and room sensors (R4 to R6) -/

/-- The bus after a gas transaction: the room read follows where it is due, else the bus is free. -/
theorem afterGas_eq (s : State) :
    s.afterGas = s.setSfe { s.sfe with bus := { s.sfe.bus with
      roomDue := false
      current := if s.sfe.bus.roomDue then some .room else none
      busy := if s.sfe.bus.roomDue then some 0 else none } } := by
  unfold State.afterGas
  dsimp only
  split
  · rfl
  · rename_i h
    rw [← Bool.eq_false_iff.2 h]
    rfl

/-- A whole second without a room read in progress begins the gas read. -/
theorem busSecond_free {s : State} (h : s.sfe.bus.current ≠ some .room) :
    s.busSecond = s.setSfe { s.sfe with bus :=
      { second := some 0, nextEven := !s.sfe.bus.nextEven, roomDue := s.sfe.bus.nextEven
        current := some .gas, busy := some 0 } } := by
  unfold State.busSecond
  split
  · rename_i hr
    exact absurd hr h
  · rfl

/-- A failed room read leaves the bus as it is. -/
theorem roomFailed_bus (s : State) : s.roomFailed.sfe.bus = s.sfe.bus := by
  unfold State.roomFailed
  dsimp only
  split
  · simp only [settle_frame]
    split <;> rfl
  · rfl

/-- A whole second with a room read in progress: the read has failed, and the gas read begins. -/
theorem busSecond_room {s : State} (h : s.sfe.bus.current = some .room) :
    s.busSecond = s.busFree.roomFailed.setSfe { s.busFree.roomFailed.sfe with bus :=
      { second := some 0, nextEven := !s.sfe.bus.nextEven, roomDue := s.sfe.bus.nextEven
        current := some .gas, busy := some 0 } } := by
  have hbus : s.busFree.roomFailed.sfe.bus.nextEven = s.sfe.bus.nextEven := by rw [roomFailed_bus]; rfl
  simp only [State.busSecond, h, State.setBus, hbus]

/-- The gas read in progress has failed. -/
theorem busFailed_gas {s : State} (h : s.sfe.bus.current = some .gas) : s.busFailed = s.afterGas := by
  simp only [State.busFailed, h]

/-- The room read in progress has failed. -/
theorem roomReadEnd_failed {s : State} (h : s.sfe.bus.current = some .room) :
    s.roomReadEnd none = s.busFree.roomFailed := by
  simp only [State.roomReadEnd, State.busFailed, h, if_true]

theorem busFailed_room {s : State} (h : s.sfe.bus.current = some .room) : s.busFailed = s.roomReadEnd none := by
  simp only [State.roomReadEnd, h, if_true]

/-- A successful gas read joins the window, and the bus goes on as after every gas transaction. -/
theorem gasReadEnd_good {s : State} (h : s.sfe.bus.current = some .gas) (n : Nat) :
    s.gasReadEnd (some n) =
      let v := s.setSfe { s.sfe with
        gas := ⟨joinWindow Config.gasCapacity s.sfe.gas.window (min 500 n), some 0⟩
        bus := { s.sfe.bus with
          roomDue := false
          current := if s.sfe.bus.roomDue then some .room else none
          busy := if s.sfe.bus.roomDue then some 0 else none } }
      if s.sfe.gas.window = [] then v.postSensor .gas true else v := by
  simp only [State.gasReadEnd, h, if_true, afterGas_eq, State.gasGood, List.isEmpty_iff]
  split <;> rfl

/-- 10 s without a successful gas read. -/
theorem gasTimeout_running {s : State} {e : Nat} (hw : s.sfe.gas.wait = some e) :
    s.gasTimeout =
      let u := s.advance (10000 - e)
      let v := u.setSfe { u.sfe with gas := ⟨[], none⟩ }
      if s.sfe.gas.window ≠ [] then v.postSensor .gas false else v := by
  rw [State.gasTimeout, expire_running hw]
  simp only [ne_eq, ite_not, ← List.isEmpty_iff]
  rfl

/-- Settles O15: the schedule's second, the 25 ms limit, and the gas read with its timeout. -/
theorem privateBusAndGasReads : Obligations.PrivateBusAndGasReads := by
  refine ⟨⟨⟨fun s e hup ht hc => ?_, fun s e hup ht hc => ?_, fun s e hup ht hc => ?_, fun s e hup ht hc => ?_⟩,
    fun s n hup hc => ⟨?_, ?_⟩, fun s e hup ht => ?_⟩, fun s => average_eq_some_iff _⟩
  · exact exec_of_up rfl hup ((expire_running ht _ _).trans (busSecond_free hc))
  · have hgas : (s.advance (25 - e)).sfe.bus.current = some .gas := hc
    exact exec_of_up rfl hup ((expire_running ht _ _).trans ((busFailed_gas hgas).trans (afterGas_eq _)))
  · have hroom : (s.advance (25 - e)).sfe.bus.current = some .room := hc
    exact (exec_of_up rfl hup ((expire_running ht _ _).trans (busFailed_room hroom))).trans
      (exec_of_up (s := s.advance (25 - e)) rfl hup rfl).symm
  · have hroom : (s.advance (1000 - e)).sfe.bus.current = some .room := hc
    exact ⟨_, exec_of_up rfl hup (roomReadEnd_failed hroom),
      exec_of_up rfl hup ((expire_running ht _ _).trans (busSecond_room hroom))⟩
  · obtain ⟨hsfe, hpost, hquiet, hframe⟩ := setSfe_postSensor_iff s _ .gas true (s.sfe.gas.window = [])
    exact ⟨_, exec_of_up rfl hup (gasReadEnd_good hc n), hsfe, hpost, hquiet, hframe⟩
  · refine exec_of_up rfl hup ?_
    simp only [State.gasReadEnd, hc, if_true, busFailed_gas hc, afterGas_eq]
  · obtain ⟨hsfe, hpost, hquiet, hframe⟩ := setSfe_postSensor_iff (s.advance (10000 - e)) _
      .gas false (s.sfe.gas.window ≠ [])
    exact ⟨_, exec_of_up rfl hup (gasTimeout_running ht), hsfe,
      congrArg (fun x : Sfe => average x.gas.window) hsfe, hpost, fun k => hquiet (not_not_intro k), hframe⟩

/-! ### Room reads (R6) -/

/-- A good room read joins both windows and is handed on. -/
theorem roomReadEnd_good {s : State} (h : s.sfe.bus.current = some .room) (r : RoomRead) :
    s.roomReadEnd (some r) =
      let v := s.setSfe { s.sfe with
        bus := { s.sfe.bus with current := none, busy := none }
        room :=
          { rh := joinWindow Config.roomCapacity s.sfe.room.rh (clampInt 0 1000 r.rh)
            temp := joinWindow Config.roomCapacity s.sfe.room.temp (clampInt (-200) 600 r.temp)
            fails := 0 } }
      (if s.sfe.room.rh = [] then v.postSensor .room true else v).settle := by
  simp only [State.roomReadEnd, h, if_true, State.roomGood, List.isEmpty_iff]
  rfl

/-- A first or second failed room read in a row is counted. -/
theorem roomReadEnd_counted {s : State} (h : s.sfe.bus.current = some .room) (hf : s.sfe.room.fails < 2) :
    s.roomReadEnd none = s.setSfe { s.sfe with
      bus := { s.sfe.bus with current := none, busy := none }
      room := { s.sfe.room with fails := s.sfe.room.fails + 1 } } := by
  have hn : ¬3 ≤ s.busFree.sfe.room.fails + 1 := by show ¬3 ≤ s.sfe.room.fails + 1; omega
  rw [roomReadEnd_failed h, State.roomFailed, if_neg hn]
  rfl

/-- The third failed room read in a row empties both windows and is handed on. -/
theorem roomReadEnd_lost {s : State} (h : s.sfe.bus.current = some .room) (hf : 2 ≤ s.sfe.room.fails) :
    s.roomReadEnd none =
      let v := s.setSfe { s.sfe with
        bus := { s.sfe.bus with current := none, busy := none }, room := ⟨[], [], 0⟩ }
      (if s.sfe.room.rh = [] then v else v.postSensor .room false).settle := by
  have hn : 3 ≤ s.busFree.sfe.room.fails + 1 := by show 3 ≤ s.sfe.room.fails + 1; omega
  rw [roomReadEnd_failed h, State.roomFailed, if_pos hn]
  simp only [← List.isEmpty_iff]
  rfl

/-- A window that a reading joined has an average. -/
theorem averageInt_joinWindow (c : Nat) (w : List Int) (x : Int) : ∃ m, averageInt (joinWindow c w x) = some m := by
  simp [averageInt, joinWindow]

/-- The front end takes a new value, with or without a sensor event, and the change is handed on: the front end
stands so, and the DRC's readings follow it. -/
theorem settle_setSfe_readings (s : State) (y : Sfe) (x : Sensor) (valid : Bool) (c : Prop) [Decidable c] :
    let t := (if c then (s.setSfe y).postSensor x valid else s.setSfe y).settle
    t.sfe = y ∧ t.drc.readings = s.drc.readings.after (averageInt y.room.rh) (averageInt y.room.temp) y.coil.temp := by
  have h := settle_handsOn (if c then (s.setSfe y).postSensor x valid else s.setSfe y)
  refine ⟨(h.1 .sfe rfl).trans ?_, (handsOn_readings h).trans ?_⟩
  · split <;> rfl
  · split <;> rfl

/-- Settles O16. -/
theorem roomReadsJoinTheWindows : Obligations.RoomReadsJoinTheWindows := by
  refine ⟨⟨fun s r hup hc => ?_, fun s hup hc hf => exec_of_up rfl hup (roomReadEnd_counted hc hf),
    fun s hup hc hf => ?_⟩, fun s m => ⟨averageInt_eq_some_iff _ m, averageInt_eq_some_iff _ m⟩⟩
  · obtain ⟨rh, hrh⟩ := averageInt_joinWindow Config.roomCapacity s.sfe.room.rh (clampInt 0 1000 r.rh)
    obtain ⟨temp, htemp⟩ := averageInt_joinWindow Config.roomCapacity s.sfe.room.temp (clampInt (-200) 600 r.temp)
    obtain ⟨hsfe, hread⟩ := settle_setSfe_readings s _ .room true (s.sfe.room.rh = [])
    refine ⟨_, exec_of_up rfl hup (roomReadEnd_good hc r), settle_handsOn _, ?_⟩
    simp only [State.rh, State.roomTemp]
    rw [hread, hsfe, hrh, htemp]
    exact ⟨rfl, rfl, rfl⟩
  · obtain ⟨hsfe, hread⟩ := settle_setSfe_readings s _ .room false (s.sfe.room.rh ≠ [])
    have hexec := exec_of_up (i := .roomReadEnd none) rfl hup (roomReadEnd_lost hc hf)
    simp only [ite_not, ne_eq] at hsfe hread
    refine ⟨_, hexec, ?_, ?_, ?_, ?_, ?_, settle_handsOn _⟩
    · simp only [State.rh]
      rw [hsfe]
      rfl
    · simp only [State.roomTemp]
      rw [hsfe]
      rfl
    all_goals
      rw [hread]
      rfl

end Sys2Proof.Machine
end

section
namespace Sys2Proof.Machine

/-! ### Coil conversions (R7, R111, R116, R118) -/

/-- What a coil reading does to a DRC outside PULLDOWN, RUNNING and DEFROST: nothing. -/
theorem coilReading_resting {s : State} (hp : s.drc.state ≠ .pulldown) (hr : s.drc.state ≠ .running)
    (hd : s.drc.state ≠ .defrost) (n : Int) : s.coilReading n = s := by
  unfold State.coilReading
  split <;> first | contradiction | rfl

/-- A reading at or below the start value less 30 passes the check. -/
theorem coilReading_passed {s : State} {start n : Int} (hp : s.drc.state = .pulldown)
    (ho : s.drc.pull.outcome = some .checking) (hs : s.drc.pull.start = some start) (hn : n ≤ start - 30) :
    s.coilReading n = (s.setDrc { s.drc with
      state := .running, pull := { s.drc.pull with outcome := some .passed }
      pullFails := 0, frost := none }).postAll .dry := by
  have hne : s.drc.state ≠ .running := by rw [hp]; simp
  unfold State.coilReading State.goto
  simp only [hp, ho, hs, if_pos hn]
  rfl

/-- A reading above that, or one without a check in progress, leaves PULLDOWN alone. -/
theorem coilReading_pulldown_kept {s : State} {n : Int} (hp : s.drc.state = .pulldown)
    (h : s.drc.pull.outcome ≠ some .checking ∨ ∀ start, s.drc.pull.start = some start → start - 30 < n) :
    s.coilReading n = s := by
  unfold State.coilReading
  rw [hp]
  dsimp only
  split
  · rename_i start ho hs
    have hlt : ¬n ≤ start - 30 := by
      rcases h with h | h
      · exact absurd ho h
      · have := h start hs
        omega
    rw [if_neg hlt]
  · rfl

theorem coilReading_running {s : State} (h : s.drc.state = .running) (n : Int) :
    s.coilReading n =
      s.setDrc { s.drc with frost := if n ≤ -10 then some (s.drc.frost.getD 0) else none } := by
  simp only [State.coilReading, h]

theorem coilReading_defrost {s : State} (h : s.drc.state = .defrost) (n : Int) :
    s.coilReading n =
      s.setDrc { s.drc with defrostEnd := if 40 ≤ n then some (s.drc.defrostEnd.getD 0) else none } := by
  simp only [State.coilReading, h]

/-- A coil reading changes no reading that the DRC holds. -/
theorem coilReading_readings (s : State) (n : Int) : (s.coilReading n).drc.readings = s.drc.readings := by
  unfold State.coilReading
  repeat' split
  all_goals simp only [goto_off, setDrc_drc]

/-- The first conversion out of range in a row is counted. -/
theorem coilConversion_counted {s : State} {n : Int} (hn : n < -300 ∨ 600 < n) (hc : s.sfe.coil.outCount = 0) :
    s.coilConversion n = s.setSfe { s.sfe with coil := { s.sfe.coil with outCount := 1 } } := by
  have hr : ¬(-300 ≤ n ∧ n ≤ 600) := by omega
  simp only [State.coilConversion, if_neg hr, hc]
  rfl

/-- The second one makes the reading INVALID. -/
theorem coilConversion_lost {s : State} {n : Int} (hn : n < -300 ∨ 600 < n) (hc : 1 ≤ s.sfe.coil.outCount) :
    s.coilConversion n =
      (if s.sfe.coil.temp.isSome then (s.setSfe { s.sfe with coil := ⟨none, 2⟩ }).postSensor .coil false
        else s.setSfe { s.sfe with coil := ⟨none, 2⟩ }).settle := by
  have hr : ¬(-300 ≤ n ∧ n ≤ 600) := by omega
  have ho : 2 ≤ s.sfe.coil.outCount + 1 := by omega
  simp only [State.coilConversion, if_neg hr, if_pos ho]

/-- The part with a conversion in range as its coil temperature, SENSOR posted where the reading was INVALID. -/
def State.withCoil (s : State) (n : Int) : State :=
  if s.sfe.coil.temp.isNone then (s.setSfe { s.sfe with coil := ⟨some n, 0⟩ }).postSensor .coil true
  else s.setSfe { s.sfe with coil := ⟨some n, 0⟩ }

theorem withCoil_drc (s : State) (n : Int) : (s.withCoil n).drc = s.drc := by
  unfold State.withCoil
  split <;> rfl

theorem withCoil_sfe (s : State) (n : Int) : (s.withCoil n).sfe = { s.sfe with coil := ⟨some n, 0⟩ } := by
  unfold State.withCoil
  split <;> rfl

/-- A conversion in range is the coil temperature, and the DRC takes it. -/
theorem coilConversion_good {s : State} {n : Int} (hl : -300 ≤ n) (hh : n ≤ 600) :
    s.coilConversion n = ((s.withCoil n).coilReading n).settle := by
  simp only [State.coilConversion, if_pos (And.intro hl hh)]
  rfl

/-- The DRC's record is kept, its readings and marks apart, through a hand-over in which its state is. -/
theorem handsOn_drc_kept {t v : State} (h : t.handsOn v) (hs : t.drc.state = v.drc.state) :
    t.drc = { v.drc with
      readings := v.drc.readings.after v.rh v.roomTemp v.sfe.coil.temp
      call := nextCall v.dar.plan.dry v.rh v.drc.call
      cold := nextCold v.roomTemp v.drc.cold } := by
  have hd := h.2.2.2.2.1
  rw [Drc.movedTo, if_pos hs] at hd
  exact hd

/-- The DRC's rule never starts the compressor of one that RUNS. -/
theorem dryingFrom_running_ne_pulldown (t : State) (ran : Bool) : t.dryingFrom ran .running ≠ .pulldown := by
  have hc : t.choice ≠ .pulldown := fun h => by
    have hoff := (choice_resting t).2
    rw [h] at hoff
    cases hoff
  simp only [State.dryingFrom]
  repeat' split
  all_goals first | exact hc | simp

/-- A record out of RUNNING keeps a verdict of the pull-down check, its failure count and a stopped frost timer. -/
theorem movedTo_verdict {x : Drc} (hx : x.state = .running) (hv : x.pull.outcome ≠ some .checking)
    (hf : x.frost = none) {new : DryState} (hn : new ≠ .pulldown) (coil : Option Int) (r : LockReason) :
    (x.movedTo new coil r).pull = x.pull ∧ (x.movedTo new coil r).pullFails = x.pullFails ∧
      (x.movedTo new coil r).frost = none := by
  unfold Drc.movedTo
  split
  · exact ⟨rfl, rfl, hf⟩
  · simp only [hx, or_true, if_true]
    cases new <;> first | exact absurd rfl hn | exact ⟨rfl, rfl, rfl⟩

/-- A hand-over out of RUNNING keeps them too, whatever state the DRC's rule chooses. -/
theorem handsOn_verdict {t v : State} (h : t.handsOn v) (hx : v.drc.state = .running)
    (hv : v.drc.pull.outcome ≠ some .checking) (hf : v.drc.frost = none) :
    t.drc.pull = v.drc.pull ∧ t.drc.pullFails = v.drc.pullFails ∧ t.drc.frost = none := by
  obtain ⟨_, _, _, hstate, hrecord, _, _⟩ := h
  rw [hrecord]
  refine movedTo_verdict (by exact hx) (by exact hv) (by exact hf) ?_ _ _
  rw [hstate, hx]
  exact dryingFrom_running_ne_pulldown _ _

/-- Settles O17. -/
theorem coilConversionsAreJudged : Obligations.CoilConversionsAreJudged := by
  intro s n hup v p lost frost ending
  refine ⟨fun hn hc => exec_of_up rfl hup (coilConversion_counted hn hc), fun hn hc => ?_, fun hl hh => ?_⟩
  · obtain ⟨hsfe, hread⟩ := settle_setSfe_readings s { s.sfe with coil := ⟨none, 2⟩ } .coil false
      (s.sfe.coil.temp.isSome = true)
    refine ⟨_, exec_of_up rfl hup (coilConversion_lost hn hc), ?_, ?_, ?_, settle_handsOn _⟩
    · rw [hsfe]
    · rw [hread]
      rfl
    · rw [hread]
      rfl
  · have hdrc : p.drc = s.drc := withCoil_drc s n
    have hsfe : p.sfe = { s.sfe with coil := ⟨some n, 0⟩ } := withCoil_sfe s n
    have hand := settle_handsOn (p.coilReading n)
    have hread := handsOn_readings hand
    have hcoil : (p.coilReading n).sfe = { s.sfe with coil := ⟨some n, 0⟩ } := by
      rw [← hsfe]
      simp only [coilReading_frame]
    rw [coilReading_readings, hdrc, hcoil] at hread
    have hexec : exec (.coilConversion n) s = .next (p.coilReading n).settle :=
      exec_of_up rfl hup (coilConversion_good hl hh)
    clear_value p
    refine ⟨_, hexec, (hand.1 .sfe rfl).trans hcoil, congrArg HeldReadings.coil hread,
      congrArg HeldReadings.coilValid hread, fun h1 h2 h3 => ?_, fun start h1 h2 h3 h4 => ?_, fun h1 h2 => ?_, fun h1 => ?_, fun h1 => ?_⟩
    · rwa [coilReading_resting (by rwa [hdrc]) (by rwa [hdrc]) (by rwa [hdrc])] at hand ⊢
    · have hpass := coilReading_passed (s := p) (by rwa [hdrc]) (by rwa [hdrc]) (by rwa [hdrc]) h4
      rw [hdrc] at hpass
      rw [hpass] at hand ⊢
      obtain ⟨hpull, hfails, hfrost⟩ := handsOn_verdict hand rfl (by simp) rfl
      exact ⟨hand, hpull, hfails, hfrost, settle_flagOnAll (postAll_flagOnAll _ _)⟩
    · rwa [coilReading_pulldown_kept (by rwa [hdrc]) (by rwa [hdrc])] at hand ⊢
    · have hrun := coilReading_running (s := p) (by rwa [hdrc]) n
      rw [hdrc] at hrun
      rw [hrun] at hand ⊢
      exact ⟨hand, fun h => congrArg Drc.frost (handsOn_drc_kept hand (h.trans h1.symm))⟩
    · have hdef := coilReading_defrost (s := p) (by rwa [hdrc]) n
      rw [hdrc] at hdef
      rw [hdef] at hand ⊢
      exact ⟨hand, fun h => congrArg Drc.defrostEnd (handsOn_drc_kept hand (h.trans h1.symm))⟩

end Sys2Proof.Machine
end

section
namespace Sys2Proof.Machine

/-! ### Edges and the tach (R10, R12) -/

/-- An edge at a sampled terminal starts the steadiness wait, or ends it at the level accepted. -/
theorem switchInputEdge_sampled {s : State} {sw : Switch} {level : Bool} (hup : s.up = true)
    (hl : s.pins.get sw ≠ level) (hs : s.sst.settings.terminals.samples sw = true) :
    s.switchInputEdge sw level = { s with
      pins := s.pins.set sw level
      sfe := s.sfe.setSwitch sw ((s.sfe.switch sw).edge level) } := by
  have hup' : (s.setPins (s.pins.set sw level)).up = true := hup
  simp only [State.switchInputEdge, if_neg hl, hup', setPins_sst, hs, Bool.and_self, if_true]
  rfl

/-- An edge at a terminal without a switch function changes the terminal only. -/
theorem switchInputEdge_unsampled {s : State} {sw : Switch} {level : Bool}
    (hl : s.pins.get sw ≠ level) (hs : s.sst.settings.terminals.samples sw = false) :
    s.switchInputEdge sw level = { s with pins := s.pins.set sw level } := by
  simp only [State.switchInputEdge, if_neg hl, setPins_sst, hs, Bool.and_false, Bool.false_eq_true, if_false]
  rfl

/-- Settles O19. -/
theorem switchEdgesAndTachPulses : Obligations.SwitchEdgesAndTachPulses := by
  refine ⟨fun s sw level hup hl => ⟨fun hs => ?_, fun hs => ?_⟩, fun s hup => exec_of_up rfl hup rfl,
    fun s e hup hw => exec_of_up rfl hup (expire_running hw _ _)⟩
  · exact congrArg Host.Outcome.next (switchInputEdge_sampled hup hl hs)
  · exact congrArg Host.Outcome.next (switchInputEdge_unsampled hl hs)

end Sys2Proof.Machine
end

section
namespace Sys2Proof.Machine

/-! ### Codes by their place in the owning table's list -/

@[simp] theorem functionPlace_eq_code (f : MfFunction) : functionPlace f = f.code := by cases f <;> rfl

@[simp] theorem stagePlace_eq_code (st : Stage) : stagePlace st = st.code := by cases st <;> rfl

@[simp] theorem dryPlace_eq_code (x : DryState) : dryPlace x = x.code := by cases x <;> rfl

@[simp] theorem phasePlace_eq_code (ph : Phase) : phasePlace ph = ph.code := by cases ph <;> rfl

@[simp] theorem port_idxOf (p : Port) : [Port.panel, .link, .service].idxOf p = p.code := by cases p <;> rfl

@[simp] theorem rank_idxOf (r : Rank) : [Rank.off, .r1, .r2, .r3].idxOf r = r.num := by cases r <;> rfl

@[simp] theorem standing_idxOf (x : Standing) :
    [Standing.governing, .outranked, .suppressed].idxOf x = x.code := by cases x <;> rfl

@[simp] theorem limitedBy_idxOf (x : LimitedBy) :
    [LimitedBy.none, .ceiling, .need, .filter, .stall, .fault].idxOf x = x.code := by cases x <;> rfl

@[simp] theorem need_idxOf (x : Need) : [Need.none, .floor, .defrost].idxOf x = x.code := by cases x <;> rfl

@[simp] theorem stageState_idxOf (x : StageState) :
    [StageState.absent, .fresh, .serviceable, .worn, .exhausted].idxOf x = x.code := by cases x <;> rfl

@[simp] theorem slotState_idxOf (x : SlotState) :
    [SlotState.empty, .settling, .identifying, .tagged, .untagged, .mismatch].idxOf x = x.code := by cases x <;> rfl

@[simp] theorem mismatchCause_idxOf (c : MismatchCause) :
    [MismatchCause.wrongType, .duplicateSerial].idxOf c = c.code := by cases c <;> rfl

@[simp] theorem lockReason_idxOf (r : LockReason) :
    [LockReason.noPulldown, .defrost, .coilSensor, .fan].idxOf r = r.code := by cases r <;> rfl

@[simp] theorem pullOutcome_idxOf (x : PullOutcome) :
    [PullOutcome.checking, .passed, .failed, .noVerdict].idxOf x = x.code := by cases x <;> rfl

@[simp] theorem defrostCause_idxOf (c : DefrostCause) : [DefrostCause.frost, .forced].idxOf c = c.code := by
  cases c <;> rfl

@[simp] theorem presence_idxOf (x : Presence) : [Presence.absent, .settling, .present].idxOf x = x.code := by
  cases x <;> rfl

@[simp] theorem seqStatus_idxOf (x : SeqStatus) :
    [SeqStatus.running, .stopped, .complete].idxOf x + 1 = x.code := by cases x <;> rfl

@[simp] theorem origin_idxOf (x : Origin) :
    [Origin.auto, .port .panel, .port .link, .port .service].idxOf x = x.code := by
  rcases x with _ | p
  · rfl
  · cases p <;> rfl

@[simp] theorem condition_idxOf (c : Condition) :
    [Condition.none, .noPrime, .blocked, .backflow, .timeout, .tankRemoved, .aborted, .checkFailed].idxOf c =
      c.code := by cases c <;> rfl

/-! ### Fields of one byte or one word -/

/-- A two-valued field whose first value is the absence of what the model holds. -/
@[simp] theorem firstOr_not (b : Bool) : firstOr (!b) = yesNo b := by cases b <;> rfl

@[simp] theorem firstOr_method (m : LevelMethod) : firstOr (m == .probe) = m.code := by cases m <;> rfl

@[simp] theorem firstOr_drain (m : DrainMode) : firstOr (m == .bucket) = m.code := by cases m <;> rfl

@[simp] theorem firstOr_policy (x : StartFailPolicy) : firstOr (x == .retry) = x.code := by cases x <;> rfl

@[simp] theorem firstOr_bank (n : BankName) : firstOr (n == .a) = n.code := by cases n <;> rfl

@[simp] theorem airNumber_eq (x : Option AirRequest) : airNumber x = byteOr (x.map (·.code)) := by
  rcases x with _ | _ | _ <;> rfl

@[simp] theorem dryNumber_eq (x : Option DryTarget) : dryNumber x = byteOr (x.map (·.code)) := by
  rcases x with _ | _ | _ <;> rfl

@[simp] theorem refOr_eq (x : Option DemandRef) : refOr x = byteOr (x.map (·.code)) := by
  rcases x with _ | r
  · rfl
  · simp only [refOr, port_idxOf]
    rfl

@[simp] theorem askNumber_eq_code (a : Ask) : askNumber a = a.code := by
  rcases a with (_ | _) | (_ | _) | ⟨_, _ | _⟩ | _ <;> rfl

@[simp] theorem levelNumber_eq (l : Level) : levelNumber l = wordOr l.code := by cases l <;> rfl

theorem encRef_le (r : Option DemandRef) : encRef r = le 1 (byteOr (r.map (·.code))) := encOpt1_le _

theorem encRegions_le (r : RegionSet) :
    encRegions r = le 1 (members [r.config, r.filters, r.recent, r.lockout]) := rfl

theorem firstOr_not_floats (m : LevelMethod) : firstOr (!(m == .floats)) = m.code := by cases m <;> rfl

theorem map_phasePlace (x : Option Phase) : x.map phasePlace = x.map (·.code) := by
  rcases x with _ | ph
  · rfl
  · cases ph <;> rfl

/-- The abort mark of a run, absent without one. -/
theorem byteOr_abort (c : Prop) [Decidable c] (b : Bool) :
    byteOr ((if c then some b else none).map yesNo) = if c then yesNo b else 0xFF := by
  split <;> rfl

theorem ite_yesNo (b : Bool) : (if b = true then 1 else 0) = yesNo b := rfl

theorem ite_firstOr (b : Bool) : (if b = true then 0 else 1) = firstOr b := rfl
/-! ### The payloads, as their layouts spell them -/

theorem sensorsPart_spell (s : State) : s.sensorsPart = spell s.sensorsLayout := by
  unfold State.sensorsPart State.sensorsLayout
  dsimp only
  simp only [enc1_le, enc2, encOpt2_le, encBool_le, encTenths_le, encSet_le, encOptBool_le, functionPlace_eq_code,
    firstOr_method]
  simp only [spell_cons, spell_nil, List.append_nil, List.append_assoc]

theorem planPart_spell (s : State) : planPart s = spell s.planLayout := by
  simp only [planPart, State.planLayout, encVersion, Plan.active, enc2, encOpt1_le, encSet_le, encRef_le,
    airNumber_eq, dryNumber_eq, refOr_eq, rank_idxOf]
  simp only [spell_cons, spell_nil, List.append_nil, List.append_assoc]

theorem encDemand_spell (e : Demand) : encDemand e = spell e.layout := by
  simp only [encDemand, Demand.layout, enc1_le, port_idxOf, standing_idxOf, askNumber_eq_code]
  simp only [spell_cons, spell_nil, List.append_nil, List.append_assoc]
  rfl

theorem demandsPart_spell (s : State) :
    encVersion s ++ encRanks s.sst.settings.ports ++ s.dar.table.flatMap encDemand = spell s.demandsLayout := by
  simp only [State.demandsLayout, encVersion, encRanks, enc1_le, enc2, rank_idxOf, spell_append, spell_flatMap,
    ← encDemand_spell]
  simp only [spell_cons, spell_nil, List.append_nil, List.append_assoc]
  rfl

theorem airflowStatus_spell (s : State) : s.airflowStatus = spell s.airflowLayout := by
  simp only [State.airflowStatus, State.airflowLayout, encBanks, ite_yesNo, enc1_le, enc2, encOpt1_le, encTimer_le,
    encBool_le, firstOr_bank, firstOr_not, limitedBy_idxOf, need_idxOf]
  simp only [spell_cons, spell_nil, List.append_nil, List.append_assoc]

theorem bankPart_spell (s : State) (n : BankName) : bankPart s.afc n = spell (s.bankLayout n) := by
  simp only [bankPart, State.bankLayout, encCurve, spell_append, spell_flatMap, spell_cons, spell_nil,
    List.append_nil]
  rfl

theorem stagePart_spell (s : State) (st : Stage) : s.stagePart st = spell (s.stageLayout st) := by
  simp only [State.stagePart, State.stageLayout, Account.wear, enc1_le, enc2, enc4, encBool_le, encSet_le,
    encSerial_le, stagePlace_eq_code, stageState_idxOf]
  simp only [spell_cons, spell_nil, List.append_nil, List.append_assoc]

theorem fauUnitPart_spell (s : State) : s.fauUnitPart = spell s.unitLayout := by
  simp only [State.fauUnitPart, State.unitLayout, enc1_le, enc2, enc4, encBool_le, encFirst_le, encMs_le]
  simp only [spell_cons, spell_nil, List.append_nil, List.append_assoc]

theorem lastTickPart_spell (r : Option LastTick) : lastTickPart r = spell (lastTickLayout r) := by
  cases r with
  | none => rfl
  | some r =>
    simp only [lastTickPart, lastTickLayout, enc2, enc4, encBool_le, encOpt2_le, firstOr_not]
    simp only [spell_cons, spell_nil, List.append_nil, List.append_assoc]

/-- The six fields of a tag, each absent while there is none. -/
theorem encTag_spell (x : Option TagData) :
    encTag x = spell [(4, serialOr (x.map (·.serial))), (1, byteOr (x.map (fun g => g.stageType.code))),
      (2, wordOr (x.map (·.c))), (2, wordOr (x.map (·.e))), (2, wordOr (x.map (·.k))),
      (1, byteOr (x.map (fun g => yesNo g.washable)))] := by
  cases x with
  | none => rfl
  | some t => 
    simp only [encTag, encSerial_le, enc1_le, enc2, encBool_le, spell_cons, spell_nil, List.append_nil, List.append_assoc]
    rfl

theorem slotPart_spell (s : State) (st : Stage) : s.slotPart st = spell (s.slotLayout st) := by
  simp only [State.slotPart, State.slotLayout, encTag_spell, ite_firstOr, enc1_le, encOpt1_le, encBool_le, encSet_le,
    encSerial_le, slotState_idxOf, stagePlace_eq_code, mismatchCause_idxOf]
  simp only [spell_cons, spell_nil, List.append_nil, List.append_assoc]

/-- An entry of the recent list (Table 5-4). -/
theorem encRecent_spell (e : RecentEntry) :
    encRecent e = spell [(4, e.serial.toNat), (1, e.stage.code), (4, e.load), (1, e.wash)] := by
  simp only [encRecent, encSerial_le, enc1_le, enc4, spell_cons, spell_nil, List.append_nil, List.append_assoc]
  rfl

theorem recentList_spell (s : State) : s.crd.recent.flatMap encRecent = spell s.listLayout := by
  simp only [State.listLayout, spell_flatMap, stagePlace_eq_code, ← encRecent_spell]

/-- Whether a lockout's reason is stored. -/
theorem storedReason_yesNo (r : Option LockReason) :
    (r.map (·.isStored)).getD false = (r == some .noPulldown || r == some .defrost) := by
  rcases r with _ | r
  · rfl
  · cases r <;> rfl

/-- The two places where the layout judges the dry target and the off-timer case by case are left to those cases. -/
theorem dryingPart_spell (s : State) : s.dryingPart = spell s.dryingLayout := by
  unfold State.dryingPart State.dryingLayout
  dsimp only
  simp only [enc1_le, encOpt1_le, encBool_le, encTenths_le, encTimer_le, encHolds, encSet_le,
    storedReason_yesNo, ite_yesNo, dryPlace_eq_code, lockReason_idxOf, dryNumber_eq, pullOutcome_idxOf,
    defrostCause_idxOf, need_idxOf, firstOr_not, firstOr_policy]
  simp only [spell_cons, spell_nil, List.append_nil, List.append_assoc]
  simp only [State.numericTarget]
  generalize s.dar.plan.dry = target
  generalize s.drc.off = off
  rcases target with _ | n | _ <;> rcases off with _ | ms | _ <;> rfl

theorem tankPart_spell (s : State) : s.tankPart = spell s.tankLayout := by
  unfold State.tankPart State.tankLayout
  dsimp only
  simp only [enc1_le, enc2, encOpt2_le, encBool_le, encFirst_le, encSet_le,
    encTimer_le, encOptBool_le, presence_idxOf, levelNumber_eq, firstOr_drain,
    firstOr_not_floats]
  simp only [spell_cons, spell_nil, List.append_nil, List.append_assoc]

theorem sequencePart_spell (q : Option Sequence) : sequencePart q = spell (sequenceLayout q) := by
  cases q with
  | none => rfl
  | some q =>
    simp only [sequencePart, sequenceLayout, enc1_le, encOpt1_le, encOpt2_le, encTimer_le,
    encOptBool_le, seqStatus_idxOf, map_phasePlace, byteOr_abort, origin_idxOf, levelNumber_eq, condition_idxOf]
    simp only [spell_cons, spell_nil, List.append_nil, List.append_assoc]

theorem storePart_spell (s : State) : storePart s.sst = spell s.storeLayout := by
  simp only [storePart, State.storeLayout, encRegions_le, spell_cons, spell_nil, List.append_nil, List.append_assoc]

end Sys2Proof.Machine
end

section
namespace Sys2Proof.Machine

/-! ### READ commands change nothing but their port's answer (R17, R42, R43, R62, R85, R100, R125, R152, R187) -/

/-- A command that a port takes at any rank, and whose handler changes nothing, is answered and changes nothing else. -/
theorem exec_read {s : State} {p : Port} {tag : Byte} {i : Instr} {c : Command} {pl : List Byte} {st : Status}
    {out : List Byte} (h : s.takes p = true) (hi : exec i s = .next (s.receive p ⟨.known c, tag, pl⟩)) (hf : fits c pl = true)
    (hp : permitted c p (s.rank p) = true) (hy : handle c (s.heard p) p pl = (s.heard p, ⟨st, out⟩)) :
    ∃ t, exec i s = .next t ∧ t.answered p tag st out ∧ t.onlyAnswers s p := by
  obtain ⟨t, ht, ha, hs⟩ := receive_unchanged (tag := tag) h hf hp hy
  exact ⟨t, hi.trans (congrArg _ ht), ha, hs⟩

theorem cmdReadAirflow_unknown (s : State) (p : Port) {b : Byte} (hb : 3 ≤ b.toNat) :
    cmdReadAirflow s p [b] = (s, ⟨.badArg, []⟩) := by
  have ha : arg1 [b] 0 = b.toNat := rfl
  unfold cmdReadAirflow
  split <;> first | rfl | omega

theorem cmdReadFilters_unknown (s : State) (p : Port) {b : Byte} (hb : 5 ≤ b.toNat) :
    cmdReadFilters s p [b] = (s, ⟨.badArg, []⟩) := by
  have ha : arg1 [b] 0 = b.toNat := rfl
  unfold cmdReadFilters
  split <;> first | rfl | omega

theorem cmdReadCartridges_unknown (s : State) (p : Port) {b : Byte} (hb : 4 ≤ b.toNat) :
    cmdReadCartridges s p [b] = (s, ⟨.badArg, []⟩) := by
  have ha : arg1 [b] 0 = b.toNat := rfl
  unfold cmdReadCartridges
  split <;> first | rfl | omega

theorem cmdReadTank_unknown (s : State) (p : Port) {b : Byte} (hb : 2 ≤ b.toNat) :
    cmdReadTank s p [b] = (s, ⟨.badArg, []⟩) := by
  have ha : arg1 [b] 0 = b.toNat := rfl
  unfold cmdReadTank
  split <;> first | rfl | omega

theorem cmdReadConfig_group (s : State) (p : Port) {b : Byte} (hb : b.toNat ≤ 7) :
    cmdReadConfig s p [b] = (s, ⟨.ok, encGroup s.sst.settings b.toNat⟩) := if_pos hb

theorem cmdReadConfig_unknown (s : State) (p : Port) {b : Byte} (hb : 9 ≤ b.toNat) :
    cmdReadConfig s p [b] = (s, ⟨.badArg, []⟩) := by
  have ha : arg1 [b] 0 = b.toNat := rfl
  rw [cmdReadConfig, if_neg (by omega), if_neg (by omega)]

/-- Settles O49. -/
theorem readsAnswerAndChangeNothing : Obligations.ReadsAnswerAndChangeNothing := by
  intro s p tag b h
  have ok : ∀ {x y : List Byte}, x = y → (s.heard p, (⟨.ok, x⟩ : Reply)) = (s.heard p, ⟨.ok, y⟩) :=
    fun hxy => hxy ▸ rfl
  exact ⟨exec_read h rfl rfl rfl (by exact ok (sensorsPart_spell s)),
    exec_read h rfl rfl rfl (by exact ok (planPart_spell s)),
    exec_read h rfl rfl rfl (by exact ok (demandsPart_spell s)),
    exec_read h rfl rfl rfl (by exact ok (dryingPart_spell s)),
    exec_read h rfl rfl rfl (by exact ok (airflowStatus_spell s)),
    exec_read h rfl rfl rfl (by exact ok (bankPart_spell s .a)),
    exec_read h rfl rfl rfl (by exact ok (bankPart_spell s .b)),
    fun hb => exec_read h rfl rfl rfl (by exact cmdReadAirflow_unknown _ p hb),
    exec_read h rfl rfl rfl (by exact ok (stagePart_spell s .pre)),
    exec_read h rfl rfl rfl (by exact ok (stagePart_spell s .carb)),
    exec_read h rfl rfl rfl (by exact ok (stagePart_spell s .fine)),
    exec_read h rfl rfl rfl (by exact ok (fauUnitPart_spell s)),
    exec_read h rfl rfl rfl (by exact ok (lastTickPart_spell _)),
    fun hb => exec_read h rfl rfl rfl (by exact cmdReadFilters_unknown _ p hb),
    exec_read h rfl rfl rfl (by exact ok (slotPart_spell s .pre)),
    exec_read h rfl rfl rfl (by exact ok (slotPart_spell s .carb)),
    exec_read h rfl rfl rfl (by exact ok (slotPart_spell s .fine)),
    exec_read h rfl rfl rfl (by exact ok (recentList_spell s)),
    fun hb => exec_read h rfl rfl rfl (by exact cmdReadCartridges_unknown _ p hb),
    exec_read h rfl rfl rfl (by exact ok (tankPart_spell s)),
    exec_read h rfl rfl rfl (by exact ok (sequencePart_spell _)),
    fun hb => exec_read h rfl rfl rfl (by exact cmdReadTank_unknown _ p hb),
    fun hb => exec_read h rfl rfl rfl (by exact cmdReadConfig_group _ p hb),
    exec_read h rfl rfl rfl (by exact ok (storePart_spell s)),
    fun hb => exec_read h rfl rfl rfl (by exact cmdReadConfig_unknown _ p hb)⟩

end Sys2Proof.Machine
end

section
namespace Sys2Proof.Machine

/-! ### Accepted switch levels (R10, R11, R131, R133, R142, R148) -/

theorem advance_accepted (s : State) (ms : Nat) (sw : Switch) :
    ((s.advance ms).sfe.switch sw).accepted = (s.sfe.switch sw).accepted := by
  rcases sw with _ | st | _ | _ | _
  · rfl
  · cases st <;> rfl
  all_goals rfl

theorem advance_slot_state (s : State) (ms : Nat) (st : Stage) :
    ((s.advance ms).slot st).state = (s.slot st).state := by
  cases st <;> rfl

/-- 20 ms of steady level: the level at the terminal is accepted and taken by its owner. -/
theorem switchChangeAccepted_running {s : State} {sw : Switch} {e : Nat} (h : (s.sfe.switch sw).steady = some e) :
    s.switchChangeAccepted sw =
      let u := s.advance (20 - e)
      let r := u.setSfe (u.sfe.setSwitch sw ⟨s.pins.get sw, true, none⟩)
      r.switchTaken sw (s.pins.get sw) ((s.sfe.switch sw).accepted != s.pins.get sw) := by
  rw [← advance_accepted s (20 - e) sw]
  exact expire_running h _ _

/-- The owner of a multi-function terminal is that of its function. -/
theorem switchTaken_function {s : State} {sw : Switch} {f : MfFunction}
    (h : s.sst.settings.terminals.function sw = some f) (level changed : Bool) :
    s.switchTaken sw level changed = s.functionTaken f level changed := by
  cases sw <;> cases h <;> rfl

/-- A level equal to the accepted one at TANKSW and at a slot switch changes nothing. -/
theorem switchTaken_same {s : State} {sw : Switch} (h : s.sst.settings.terminals.function sw = none) (level : Bool) :
    s.switchTaken sw level false = s := by
  cases sw <;> first | rfl | cases h

/-- A level equal to the accepted one changes nothing at a terminal that is no float. -/
theorem functionTaken_same (s : State) {f : MfFunction} (hh : f ≠ .floatHigh) (hf : f ≠ .floatFull) (level : Bool) :
    s.functionTaken f level false = s := by
  cases f <;> first | rfl | contradiction

/-- PUMP-FLOW starts or stops the flow timer of a run in PRIME. -/
theorem flowChanged_prime {s : State} {q : Sequence} (h : s.cdc.seq = some q) (hr : q.status = .running)
    (hp : q.phase = some .prime) (active : Bool) :
    s.flowChanged active =
      s.setCdc { s.cdc with seq := some { q with flow := if active then some 0 else none } } := by
  simp only [State.flowChanged, h, hr, hp, and_self, if_true]

theorem flowChanged_other {s : State}
    (h : ∀ q, s.cdc.seq = some q → q.status ≠ .running ∨ q.phase ≠ some .prime) (active : Bool) :
    s.flowChanged active = s := by
  unfold State.flowChanged
  split
  · rename_i q hq
    rw [if_neg (Classical.not_and_iff_not_or_not.2 (h q hq))]
  · rfl

/-- FLOAT-HIGH starts or stops the high release of a run in TRANSFER. -/
theorem floatHighChanged_transfer {s : State} {q : Sequence} (h : s.cdc.seq = some q) (hr : q.status = .running)
    (hp : q.phase = some .transfer) (closed : Bool) :
    s.floatHighChanged closed =
      s.setCdc { s.cdc with seq := some { q with highRelease := if closed then none else some 0 } } := by
  simp only [State.floatHighChanged, h, hr, hp, ne_eq, not_true_eq_false, if_false]

/-- The closing of FLOAT-HIGH marks a run in VERIFY. -/
theorem floatHighChanged_verify {s : State} {q : Sequence} (h : s.cdc.seq = some q) (hr : q.status = .running)
    (hp : q.phase = some .verify) (closed : Bool) :
    s.floatHighChanged closed =
      if closed then s.setCdc { s.cdc with seq := some { q with floatClosed := some true } } else s := by
  simp only [State.floatHighChanged, h, hr, hp, ne_eq, not_true_eq_false, if_false]

theorem floatHighChanged_other {s : State}
    (h : ∀ q, s.cdc.seq = some q → q.status ≠ .running ∨ (q.phase ≠ some .transfer ∧ q.phase ≠ some .verify))
    (closed : Bool) : s.floatHighChanged closed = s := by
  unfold State.floatHighChanged
  split
  · rename_i q hq
    split
    · rfl
    · rename_i hr
      obtain ⟨ht, hv⟩ := (h q hq).resolve_left hr
      split <;> first | rfl | contradiction
  · rfl

/-- An accepted level of a float is handed on after the CDC took it. -/
theorem floatTaken_handsOn (s : State) (f : MfFunction) (level changed : Bool) :
    (s.floatTaken f level changed).handsOn (((if !changed then s
      else if f = .floatFull then s.floatFullChanged level else s.floatHighChanged level).deriveFull false).autoStart) :=
  settle_handsOn _

/-- The coarse level of Table 7-3. -/
theorem level_floats {s : State} (h : s.method = .floats) :
    s.level = if s.sfe.mf0.first && s.sfe.mf1.first then floatsLevel s.sfe.mf0.accepted s.sfe.mf1.accepted
      else .unknown := by
  have hm : s.sst.settings.terminals.method = .floats := h
  simp only [State.level, hm]

theorem functionTaken_float (s : State) {f : MfFunction} (hf : f = .floatHigh ∨ f = .floatFull)
    (level changed : Bool) : s.functionTaken f level changed = s.floatTaken f level changed := by
  rcases hf with rfl | rfl <;> rfl

/-- Settles O20. -/
theorem acceptedSwitchLevelsReachTheirOwners : Obligations.AcceptedSwitchLevelsReachTheirOwners := by
  refine ⟨fun s sw e hup hst => ?_, fun s => ⟨fun hm => ?_, ?_⟩⟩
  · intro u was level r function taken handed
    have htaken : taken = .next (r.switchTaken sw level (was != level)) :=
      exec_of_up rfl hup (switchChangeAccepted_running hst)
    have hfun : function = r.sst.settings.terminals.function sw := by cases sw <;> rfl
    have hcdc : r.cdc = u.cdc := rfl
    have hpres : r.cdc.presence = s.cdc.presence := rfl
    have hslot : ∀ st, (r.slot st).state = (s.slot st).state := advance_slot_state s _
    have hfn : ∀ f, function = some f → taken = .next (r.functionTaken f level (was != level)) := fun f hf => by
      rw [htaken, switchTaken_function (hfun ▸ hf)]
    have hhand : ∀ f v, function = some f → f = .floatHigh ∨ f = .floatFull →
        (if !(was != level) then r
          else if f = .floatFull then r.floatFullChanged level else r.floatHighChanged level) = v → handed v := by
      rintro f v hf hfloat rfl
      exact ⟨_, (hfn f hf).trans (congrArg _ (functionTaken_float r hfloat _ _)), floatTaken_handsOn _ _ _ _⟩
    clear_value u r function taken was level
    refine ⟨fun hf hwas => ?_, fun hsw hwas hlevel => ?_, fun st hsw hwas hlevel => ?_, fun hf => ?_, fun hf => ?_,
      fun hf hwas => ?_, fun hf => ⟨fun hwas => ?_, fun hwas => ?_⟩, fun hf => ⟨fun hwas => ?_, fun hwas => ?_⟩⟩
    · have hsame : (was != level) = false := by simp [hwas]
      rcases hf with hf | hf | hf | hf | hf
      · rw [htaken, hsame, switchTaken_same (hfun ▸ hf)]
      all_goals rw [hfn _ hf, hsame, functionTaken_same _ (by simp) (by simp)]
    · rw [htaken, hsw, hwas, hlevel, ← hpres]
      rfl
    · rw [htaken, hsw, hwas, hlevel, ← hslot]
      rfl
    · rcases hf with hf | hf <;> exact hfn _ hf
    · refine ⟨fun hwas hlevel => ⟨?_, request_asked _ _⟩, fun hlevel => ?_⟩
      · rw [hfn _ hf, hwas, hlevel]
        rfl
      · rw [hfn _ hf, hlevel, State.functionTaken, Bool.and_false]
        rfl
    · have hchanged : (was != level) = true := by simpa using hwas
      have hflow : taken = .next (r.flowChanged level) := by rw [hfn _ hf, hchanged]; rfl
      rw [← hcdc]
      exact ⟨fun q hq hr hp => hflow.trans (congrArg _ (flowChanged_prime hq hr hp level)),
        fun h => hflow.trans (congrArg _ (flowChanged_other h level))⟩
    · exact hhand _ r hf (by simp) (by simp [hwas])
    · exact hhand _ _ hf (by simp) (by simp [hwas]; rfl)
    · exact hhand _ r hf (by simp) (by simp [hwas])
    · have hchanged : (if !(was != level) then r
          else if MfFunction.floatHigh = .floatFull then r.floatFullChanged level else r.floatHighChanged level) =
          r.floatHighChanged level := by
        simp [hwas]
      rw [← hcdc]
      exact ⟨fun q hq hr hp => hhand _ _ hf (by simp) (hchanged.trans (floatHighChanged_transfer hq hr hp level)),
        fun q hq hr hp => hhand _ _ hf (by simp) (hchanged.trans (floatHighChanged_verify hq hr hp level)),
        fun h => hhand _ _ hf (by simp) (hchanged.trans (floatHighChanged_other h level))⟩
  · simp only [level_floats hm]
    refine ⟨fun h => ?_, fun h0 h1 => ?_⟩
    · rcases h with h | h <;> simp [h]
    · simp only [h0, h1, Bool.and_self, if_true, floatsLevel]
      refine ⟨fun h => ?_, fun h h' => ?_, fun h h' => ?_⟩ <;> simp [*]
  · simp only [State.flowInput, State.functionLevel]
    refine ⟨fun h0 => if_pos h0, fun h0 h1 => ?_, fun h0 h1 h2 => ?_, fun h0 h1 h2 => ?_⟩
    · rw [if_neg h0, if_pos h1]
    · rw [if_neg h0, if_neg h1, if_pos h2]
    · rw [if_neg h0, if_neg h1, if_neg h2]

end Sys2Proof.Machine
end

section
namespace Sys2Proof.Machine

/-! ### The median (R8) -/

theorem insertSorted_perm (x : Nat) (l : List Nat) : (insertSorted x l).Perm (x :: l) := by
  induction l with
  | nil => exact List.Perm.refl _
  | cons y ys ih =>
    rw [insertSorted]
    split
    · exact List.Perm.refl _
    · exact (ih.cons y).trans (List.Perm.swap x y ys)

theorem insertSorted_pairwise (x : Nat) {l : List Nat} (h : l.Pairwise (· ≤ ·)) :
    (insertSorted x l).Pairwise (· ≤ ·) := by
  induction l with
  | nil => exact List.pairwise_singleton _ x
  | cons y ys ih =>
    obtain ⟨hy, hys⟩ := List.pairwise_cons.1 h
    rw [insertSorted]
    split
    · rename_i hxy
      refine List.pairwise_cons.2 ⟨fun a ha => ?_, h⟩
      rcases List.mem_cons.1 ha with rfl | ha
      · exact hxy
      · exact Nat.le_trans hxy (hy a ha)
    · rename_i hxy
      refine List.pairwise_cons.2 ⟨fun a ha => ?_, ih hys⟩
      rcases List.mem_cons.1 ((insertSorted_perm x ys).mem_iff.1 ha) with rfl | ha
      · exact Nat.le_of_not_le hxy
      · exact hy a ha

theorem sortedList_perm (l : List Nat) : (sortedList l).Perm l := by
  induction l with
  | nil => exact List.Perm.refl _
  | cons x xs ih => exact (insertSorted_perm x _).trans (ih.cons x)

theorem sortedList_pairwise (l : List Nat) : (sortedList l).Pairwise (· ≤ ·) := by
  induction l with
  | nil => exact List.Pairwise.nil
  | cons x xs ih => exact insertSorted_pairwise x ih

/-- No more entries of a sorted list are below the one at place `k` than stand before it. -/
theorem count_below_place {l : List Nat} (hs : l.Pairwise (· ≤ ·)) {k m : Nat} (hk : l[k]? = some m) :
    (l.filter (fun x => decide (x < m))).length ≤ k := by
  induction l generalizing k with
  | nil => simp at hk
  | cons y ys ih =>
    obtain ⟨hy, hys⟩ := List.pairwise_cons.1 hs
    cases k with
    | zero =>
      have hm : y = m := by simpa using hk
      have hnone : ys.filter (fun x => decide (x < m)) = [] :=
        List.filter_eq_nil_iff.2 fun x hx => by have := hy x hx; simp; omega
      simp [hm, hnone]
    | succ k =>
      have hle := ih hys (k := k) (by simpa using hk)
      rw [List.filter_cons]
      split
      · exact Nat.succ_le_succ hle
      · exact Nat.le_succ_of_le hle

/-- No more entries are above it than stand behind it. -/
theorem count_above_place {l : List Nat} (hs : l.Pairwise (· ≤ ·)) {k m : Nat} (hk : l[k]? = some m) :
    (l.filter (fun x => decide (m < x))).length + k < l.length := by
  induction l generalizing k with
  | nil => simp at hk
  | cons y ys ih =>
    obtain ⟨hy, hys⟩ := List.pairwise_cons.1 hs
    cases k with
    | zero =>
      have hm : y = m := by simpa using hk
      have hle := List.length_filter_le (fun x => decide (m < x)) ys
      simp only [List.filter_cons, hm, Nat.lt_irrefl, decide_false, Bool.false_eq_true, if_false, List.length_cons]
      omega
    | succ k =>
      have hk' : ys[k]? = some m := by simpa using hk
      have hlt := ih hys hk'
      have hym : ¬m < y := Nat.not_lt.2 (hy m (List.mem_of_getElem? hk'))
      simp only [List.filter_cons, hym, decide_false, Bool.false_eq_true, if_false, List.length_cons]
      omega

/-- The median of a window that is not empty is a reading of it with at most half of the readings below it and fewer
than half above it. -/
theorem median_spec {w : List Nat} (hw : w ≠ []) :
    ∃ m, median w = some m ∧ m ∈ w ∧ 2 * (w.filter (fun x => decide (x < m))).length ≤ w.length ∧
      2 * (w.filter (fun x => decide (m < x))).length < w.length := by
  have hlen : (sortedList w).length = w.length := (sortedList_perm w).length_eq
  have hpos : 0 < w.length := List.length_pos_iff.2 hw
  obtain ⟨m, hm⟩ : ∃ m, (sortedList w)[w.length / 2]? = some m :=
    ⟨_, List.getElem?_eq_getElem (by omega)⟩
  have hbelow := count_below_place (sortedList_pairwise w) hm
  have habove := count_above_place (sortedList_pairwise w) hm
  rw [((sortedList_perm w).filter _).length_eq] at hbelow habove
  exact ⟨m, hm, (sortedList_perm w).mem_iff.1 (List.mem_of_getElem? hm), by omega, by omega⟩

/-! ### What the CDC takes (R130 to R133, R138) -/

@[simp] theorem deriveFull_cdc (s : State) (entry : Bool) :
    (s.deriveFull entry).cdc = { s.cdc with full := s.nextFull entry } := by
  unfold State.deriveFull
  dsimp only
  split <;> rfl

theorem deriveFull_onlyFlags (s : State) (entry : Bool) : (s.deriveFull entry).onlyFlags s := by
  unfold State.deriveFull State.postTank
  dsimp only
  split
  · exact onlyFlags_trans (log_onlyFlags _ _) (onlyFlags_trans (raise_onlyFlags _ _) (onlyFlags_of_prt rfl))
  · exact onlyFlags_of_prt rfl

/-- A changed FULL flag of a PRESENT tank posts TANK. -/
theorem deriveFull_flagOnAll {s : State} {entry : Bool} (hp : s.cdc.presence = .present)
    (hc : s.nextFull entry ≠ s.cdc.full) : (s.deriveFull entry).flagOnAll .tank := by
  simp only [State.deriveFull, hp, hc, ne_eq, not_false_eq_true, and_self, if_true]
  exact flagOnAll_mono (log_onlyFlags _ _) _ (postAll_flagOnAll _ _)

theorem startFree_iff (s : State) : s.startFree = true ↔ ∀ q, s.cdc.seq = some q → q.status = .complete := by
  unfold State.startFree
  split
  · simp_all
  · simp_all

/-- The conditions of the automatic start (R138). -/
def State.startsAuto (s : State) : Prop :=
  s.tankCfg.drain = .pump ∧ s.cdc.presence = .present ∧ s.levelStarts = true ∧
    ∀ q, s.cdc.seq = some q → q.status = .complete

theorem level_congr {t s : State} (hf : t.sfe = s.sfe) (hs : t.sst = s.sst) : t.level = s.level := by
  simp only [State.level, State.probeLevel, hf, hs]

theorem levelStarts_eq (s : State) :
    s.levelStarts = true ↔ (∃ n, s.level = .ml n ∧ s.tankCfg.pumpStart ≤ n) ∨ s.level = .high ∨ s.level = .full := by
  unfold State.levelStarts
  cases s.level <;> simp

theorem startsAuto_congr {t s : State} (hf : t.sfe = s.sfe) (hs : t.sst = s.sst)
    (hp : t.cdc.presence = s.cdc.presence) (hq : t.cdc.seq = s.cdc.seq) : t.startsAuto ↔ s.startsAuto := by
  simp only [State.startsAuto, levelStarts_eq, State.tankCfg, level_congr hf hs, hs, hp, hq]

/-- A level in mL is one of the probe's. -/
theorem method_of_level_ml {s : State} {n : Nat} (h : s.level = .ml n) : s.method = .probe := by
  unfold State.level at h
  unfold State.method
  split at h
  · assumption
  · unfold floatsLevel at h
    repeat' split at h
    all_goals cases h

/-- Where they hold, a run of origin AUTO begins in PRIME. -/
theorem autoStart_of_starts {s : State} (h : s.startsAuto) :
    s.autoStart = s.beginRun (s.newSequence .auto s.volumeAboveEmpty) .prime := by
  obtain ⟨hd, hp, hl, hf⟩ := h
  exact if_pos ⟨hd, hp, hl, (startFree_iff s).2 hf⟩

/-- Otherwise nothing happens. -/
theorem autoStart_of_not {s : State} (h : ¬s.startsAuto) : s.autoStart = s := by
  refine if_neg fun hc => h ?_
  obtain ⟨hd, hp, hl, hf⟩ := hc
  exact ⟨hd, hp, hl, (startFree_iff s).1 hf⟩

theorem autoStart_onlyFlags (s : State) : s.autoStart.onlyFlags s := onlyFlags_of_prt (by simp)

theorem cdcTake_onlyFlags (s : State) : s.cdcTake.onlyFlags s :=
  onlyFlags_trans (autoStart_onlyFlags _) (deriveFull_onlyFlags s false)

/-- The FULL flag is no condition of the automatic start. -/
theorem deriveFull_startsAuto (s : State) (entry : Bool) : (s.deriveFull entry).startsAuto ↔ s.startsAuto := by
  have hf : (s.deriveFull entry).sfe = s.sfe := by simp
  have hs : (s.deriveFull entry).sst = s.sst := by simp
  exact startsAuto_congr hf hs (by simp) (by simp)

/-- The CDC takes a level: the FULL flag is derived. -/
theorem cdcTake_full (s : State) : s.cdcTake.cdc.full = s.nextFull false := by
  unfold State.cdcTake
  by_cases h : (s.deriveFull false).startsAuto
  · rw [autoStart_of_starts h]
    exact congrArg Cdc.full (deriveFull_cdc s false)
  · rw [autoStart_of_not h, deriveFull_cdc]

theorem cdcTake_flagOnAll {s : State} (hp : s.cdc.presence = .present) (hc : s.nextFull false ≠ s.cdc.full) :
    s.cdcTake.flagOnAll .tank :=
  flagOnAll_mono (autoStart_onlyFlags _) _ (deriveFull_flagOnAll hp hc)

/-- Without the conditions of the automatic start, the sequence and the pump stay. -/
theorem cdcTake_rests {s : State} (h : ¬s.startsAuto) :
    s.cdcTake.cdc.seq = s.cdc.seq ∧ s.cdcTake.cdc.pump = s.cdc.pump := by
  rw [State.cdcTake, autoStart_of_not (mt (deriveFull_startsAuto s false).1 h), deriveFull_cdc]
  exact ⟨rfl, rfl⟩

/-- With them, a run of origin AUTO begins in PRIME from the level held. -/
theorem cdcTake_starts {s : State} (h : s.startsAuto) :
    s.cdcTake.cdc.pump = true ∧ ∃ q, s.cdcTake.cdc.seq = some q ∧ q.status = .running ∧ q.phase = some .prime ∧
      q.origin = .auto ∧ q.elapsed = some 0 ∧ q.startLevel = s.level ∧
      ∀ n, s.level = .ml n → q.target = some (n - s.tankCfg.empty) ∧ q.remaining = some (n - s.tankCfg.empty) ∧
        q.moved = some 0 := by
  rw [State.cdcTake, autoStart_of_starts ((deriveFull_startsAuto s false).2 h)]
  have hlevel : (s.deriveFull false).level = s.level := level_congr (by simp) (by simp)
  refine ⟨rfl, _, rfl, rfl, rfl, rfl, rfl, hlevel, fun n hn => ?_⟩
  have hn' : (s.deriveFull false).level = .ml n := hlevel.trans hn
  have htank : (s.deriveFull false).tankCfg = s.tankCfg := by simp [State.tankCfg]
  simp only [Sequence.enter, State.newSequence, State.volumeAboveEmpty, method_of_level_ml hn', hn', htank]
  exact ⟨trivial, trivial, trivial⟩

end Sys2Proof.Machine
end

section
namespace Sys2Proof.Machine

/-! ### Probe conversions (R8, R9, R130, R133, R138) -/

theorem levelPublished_of_eq {s : State} {before : Option Nat} (h : s.probeLevel = before) :
    s.levelPublished before = s := if_pos h

theorem levelPublished_of_ne {s : State} {before : Option Nat} (h : s.probeLevel ≠ before) :
    s.levelPublished before = s.cdcTake.settle := if_neg h

/-- The front end with a new probe; SENSOR is posted where `c` holds. -/
def State.withProbe (s : State) (x : ProbeInput) (c valid : Bool) : State :=
  if c then (s.setSfe { s.sfe with probe := x }).postSensor .probe valid else s.setSfe { s.sfe with probe := x }

theorem withProbe_frame (s : State) (x : ProbeInput) (c valid : Bool) :
    (s.withProbe x c valid).sfe = { s.sfe with probe := x } ∧ (s.withProbe x c valid).sst = s.sst ∧
      (s.withProbe x c valid).cdc = s.cdc := by
  cases c <;> exact ⟨rfl, rfl, rfl⟩

theorem withProbe_flagOnAll (s : State) (x : ProbeInput) (valid : Bool) : (s.withProbe x true valid).flagOnAll .sensor :=
  flagOnAll_mono (log_onlyFlags _ _) _ (postAll_flagOnAll _ _)

theorem probeConversion_good {s : State} (hf : s.sst.settings.terminals.mf0 = .probe) {n : Nat} (hn : n ≤ 4000) :
    s.probeConversion n = (s.withProbe ⟨joinWindow Config.probeCapacity s.sfe.probe.window n, 0⟩
      s.sfe.probe.window.isEmpty true).levelPublished s.probeLevel := by
  have hr : (0 : Int) ≤ n ∧ (n : Int) ≤ 4000 := by omega
  simp only [State.probeConversion, hf, ne_eq, not_true, if_false, if_pos hr]
  rfl

theorem probeConversion_counted {s : State} (hf : s.sst.settings.terminals.mf0 = .probe) {n : Int}
    (hn : n < 0 ∨ 4000 < n) (hc : s.sfe.probe.outCount < 2) :
    s.probeConversion n = s.setSfe { s.sfe with
      probe := { s.sfe.probe with outCount := s.sfe.probe.outCount + 1 } } := by
  have hr : ¬(0 ≤ n ∧ n ≤ 4000) := by omega
  have ho : ¬3 ≤ s.sfe.probe.outCount + 1 := by omega
  simp only [State.probeConversion, hf, ne_eq, not_true, if_false, if_neg hr, if_neg ho]

theorem probeConversion_lost {s : State} (hf : s.sst.settings.terminals.mf0 = .probe) {n : Int}
    (hn : n < 0 ∨ 4000 < n) (hc : 2 ≤ s.sfe.probe.outCount) :
    s.probeConversion n =
      (s.withProbe ⟨[], 0⟩ (!s.sfe.probe.window.isEmpty) false).levelPublished s.probeLevel := by
  have hr : ¬(0 ≤ n ∧ n ≤ 4000) := by omega
  have ho : 3 ≤ s.sfe.probe.outCount + 1 := by omega
  simp only [State.probeConversion, hf, ne_eq, not_true, if_false, if_neg hr, if_pos ho, State.withProbe]
  cases s.sfe.probe.window.isEmpty <;> rfl

/-- Under PROBE the level is the one published. -/
theorem level_of_probeLevel {s : State} (hm : s.method = .probe) {n : Nat} (h : s.probeLevel = some n) :
    s.level = .ml n := by
  unfold State.method at hm
  simp only [State.level, hm, h]

theorem level_of_no_probeLevel {s : State} (hm : s.method = .probe) (h : s.probeLevel = none) :
    s.level = .unknown := by
  unfold State.method at hm
  simp only [State.level, hm, h]

/-- Under PROBE the FULL flag is derived from the published level (R132). -/
theorem nextFull_of_ml {s : State} (hm : s.method = .probe) (hp : s.cdc.presence = .present) {n : Nat}
    (hl : s.level = .ml n) :
    s.nextFull false = if s.tankCfg.full ≤ n then true else if n ≤ s.tankCfg.resume then false else s.cdc.full := by
  simp [State.nextFull, hm, hp, hl]

theorem nextFull_of_unknown {s : State} (hp : s.cdc.presence = .present) (hl : s.level = .unknown) :
    s.nextFull false = true := by
  unfold State.nextFull
  cases hm : s.method <;> simp [hp, hl]

/-- A level in mL starts the pump by itself when it reaches the pump-start mark. -/
theorem startsAuto_of_ml {s : State} {n : Nat} (hl : s.level = .ml n) :
    s.startsAuto ↔ s.cdc.presence = .present ∧ s.tankCfg.drain = .pump ∧ s.tankCfg.pumpStart ≤ n ∧
      ∀ q, s.cdc.seq = some q → q.status = .complete := by
  have : s.levelStarts = true ↔ s.tankCfg.pumpStart ≤ n := by simp [levelStarts_eq, hl]
  rw [State.startsAuto, this]
  exact ⟨fun ⟨hd, hp, hl, hf⟩ => ⟨hp, hd, hl, hf⟩, fun ⟨hp, hd, hl, hf⟩ => ⟨hd, hp, hl, hf⟩⟩

/-- An unknown level starts no run. -/
theorem not_startsAuto_of_unknown {s : State} (hl : s.level = .unknown) : ¬s.startsAuto := by
  simp [State.startsAuto, levelStarts_eq, hl]

/-- A new published level goes to the CDC, which derives its FULL flag from it. -/
theorem takes_published_ml {s p : State} {m : Nat} (hsst : p.sst = s.sst) (hcdc : p.cdc = s.cdc)
    (hl : p.probeLevel = some m) (hm : s.method = .probe) :
    let t := p.cdcTake.settle
    (s.cdc.presence = .present →
      t.cdc.full = (if s.tankCfg.full ≤ m then true else if m ≤ s.tankCfg.resume then false else s.cdc.full) ∧
      (t.cdc.full ≠ s.cdc.full → t.flagOnAll .tank)) ∧
    (p.startsAuto ↔ s.cdc.presence = .present ∧ s.tankCfg.drain = .pump ∧ s.tankCfg.pumpStart ≤ m ∧
      ∀ q, s.cdc.seq = some q → q.status = .complete) ∧ p.level = .ml m := by
  have hm' : p.method = .probe := by rw [State.method, hsst]; exact hm
  have htank : p.tankCfg = s.tankCfg := by simp only [State.tankCfg, hsst]
  have hlevel : p.level = .ml m := level_of_probeLevel hm' hl
  have hcdct : p.cdcTake.settle.cdc = p.cdcTake.cdc := by simp
  refine ⟨fun hp => ?_, ?_, hlevel⟩
  · have hp' : p.cdc.presence = .present := by rw [hcdc]; exact hp
    have hfull := nextFull_of_ml hm' hp' hlevel
    rw [hcdct, cdcTake_full]
    refine ⟨?_, fun hc => settle_flagOnAll (cdcTake_flagOnAll hp' ?_)⟩
    · rw [hfull, htank, hcdc]
    · rw [hcdc]
      exact hc
  · rw [startsAuto_of_ml hlevel, hcdc, htank]

/-- Without a published level the tank counts as full and no run starts. -/
theorem takes_published_none {s p : State} (hsst : p.sst = s.sst) (hcdc : p.cdc = s.cdc) (hl : p.probeLevel = none)
    (hm : s.method = .probe) :
    let t := p.cdcTake.settle
    (s.cdc.presence = .present → t.cdc.full = true ∧ (s.cdc.full = false → t.flagOnAll .tank)) ∧
      t.cdc.seq = s.cdc.seq ∧ t.cdc.pump = s.cdc.pump := by
  have hm' : p.method = .probe := by rw [State.method, hsst]; exact hm
  have hlevel : p.level = .unknown := level_of_no_probeLevel hm' hl
  have hcdct : p.cdcTake.settle.cdc = p.cdcTake.cdc := by simp
  have hrests := cdcTake_rests (not_startsAuto_of_unknown hlevel)
  rw [hcdc, ← hcdct] at hrests
  refine ⟨fun hp => ?_, hrests⟩
  have hp' : p.cdc.presence = .present := by rw [hcdc]; exact hp
  have hfull := nextFull_of_unknown hp' hlevel
  rw [hcdct, cdcTake_full]
  refine ⟨hfull, fun hc => settle_flagOnAll (cdcTake_flagOnAll hp' ?_)⟩
  rw [hfull, hcdc, hc]
  simp

/-- Settles O18: a conversion in range makes the median of its window the published level, the third one out of range
in a row makes it unknown, and the CDC takes the level when it changes. -/
theorem probeConversionsGiveTheMedian : Obligations.ProbeConversionsGiveTheMedian := by
  refine ⟨⟨?_, ?_, ?_, ?_⟩, fun s hm => ⟨level_of_no_probeLevel hm, fun n => level_of_probeLevel hm⟩⟩
  · intro s n hup hf hn w w' u p
    obtain ⟨hsfe, hsst, hcdc⟩ := withProbe_frame s ⟨w', 0⟩ w.isEmpty true
    have hp : s.withProbe ⟨w', 0⟩ w.isEmpty true = p := by
      simp only [State.withProbe, List.isEmpty_iff]
      rfl
    have hv : s.probeConversion n = p.levelPublished s.probeLevel :=
      (probeConversion_good hf hn).trans (congrArg (State.levelPublished · s.probeLevel) hp)
    obtain ⟨m, hmed, hmem, hbelow, habove⟩ := median_spec (w := w') (by simp [w'])
    have hpl : p.probeLevel = some m := by rw [← hp, State.probeLevel, hsfe]; exact hmed
    have hflag : w = [] → p.flagOnAll .sensor := fun hw => by
      rw [← hp, hw]
      exact withProbe_flagOnAll _ _ _
    rw [hp] at hsfe hsst hcdc
    by_cases hc : s.probeLevel = some m
    · have hv' : s.probeConversion n = p := by
        rw [hv]
        exact levelPublished_of_eq (by rw [hc, hpl])
      exact ⟨p, m, exec_of_up rfl hup hv', hsfe, hpl, hmem, hbelow, habove, hflag, fun _ => rfl,
        fun k => absurd hc k⟩
    · have hv' : s.probeConversion n = p.cdcTake.settle := by
        rw [hv]
        exact levelPublished_of_ne (by rw [hpl]; exact fun e => hc e.symm)
      have htsfe : p.cdcTake.settle.sfe = p.sfe := by simp [State.cdcTake]
      refine ⟨_, m, exec_of_up rfl hup hv', htsfe.trans hsfe, ?_, hmem, hbelow, habove, ?_,
        fun k => absurd k hc, fun _ => ⟨settle_handsOn _, ?_, ?_⟩⟩
      · rw [State.probeLevel, htsfe]
        exact hpl
      · exact fun hw => settle_flagOnAll (flagOnAll_mono (cdcTake_onlyFlags p) _ (hflag hw))
      · exact fun hm => (takes_published_ml hsst hcdc hpl hm).1
      · have hcdct : p.cdcTake.settle.cdc = p.cdcTake.cdc := by simp
        have htank : p.tankCfg = s.tankCfg := by simp only [State.tankCfg, hsst]
        rw [hcdct]
        refine ⟨fun ⟨hm, hst⟩ => ?_, fun hm hst => ?_⟩
        · obtain ⟨-, hiff, hlevel⟩ := takes_published_ml hsst hcdc hpl hm
          obtain ⟨hpump, q, hq, hrun, hphase, horigin, hel, hstart, hml⟩ := cdcTake_starts (hiff.2 hst)
          refine ⟨hpump, q, hq, hrun, hphase, horigin, hel, hstart.trans hlevel, ?_⟩
          rw [(hml m hlevel).1, htank]
        · obtain ⟨-, hiff, -⟩ := takes_published_ml hsst hcdc hpl hm
          rw [← hcdc]
          exact cdcTake_rests fun k => hst ⟨hm, hiff.1 k⟩
  · exact fun s n hup hf hn hc => exec_of_up rfl hup (probeConversion_counted hf hn hc)
  · intro s n hup hf hn hc u
    have hv := probeConversion_lost hf hn hc
    by_cases hw : s.sfe.probe.window = []
    · have hv' : s.probeConversion n = u := by
        simp only [hv, hw, List.isEmpty_nil, Bool.not_true]
        exact levelPublished_of_eq (by simp [State.probeLevel, hw, State.withProbe])
      exact ⟨u, exec_of_up rfl hup hv', rfl, rfl, fun _ => rfl, fun k => absurd hw k⟩
    · have hb : (!s.sfe.probe.window.isEmpty) = true := by simp [hw]
      rw [hb] at hv
      obtain ⟨m, hmed, -⟩ := median_spec hw
      obtain ⟨hsfe, hsst, hcdc⟩ := withProbe_frame s ⟨[], 0⟩ true false
      have hflag := withProbe_flagOnAll s ⟨[], 0⟩ false
      have hpl : (s.withProbe ⟨[], 0⟩ true false).probeLevel = none := by rw [State.probeLevel, hsfe]; rfl
      rw [levelPublished_of_ne (by rw [hpl, State.probeLevel, hmed]; simp)] at hv
      have htsfe : (s.withProbe ⟨[], 0⟩ true false).cdcTake.settle.sfe = { s.sfe with probe := ⟨[], 0⟩ } := by
        rw [← hsfe]
        simp [State.cdcTake]
      refine ⟨_, exec_of_up rfl hup hv, htsfe, ?_, fun k => absurd k hw, fun _ => ⟨?_, settle_handsOn _, ?_, ?_⟩⟩
      · rw [State.probeLevel, htsfe]
        rfl
      · exact settle_flagOnAll (flagOnAll_mono (cdcTake_onlyFlags _) _ hflag)
      · exact fun hm => (takes_published_none hsst hcdc hpl hm).1
      · exact fun hm => (takes_published_none hsst hcdc hpl hm).2
  · exact fun s n hf => exec_unchanged rfl (if_pos hf)

end Sys2Proof.Machine
end

section
namespace Sys2Proof.Machine

/-! ### The argument bytes of a WRITE-CONFIG (R184, R185) -/

/-- A two-byte argument is its two bytes, the least significant first. -/
theorem arg2_eq_bytes (pl : List Byte) (i : Nat) :
    arg2 pl i = (pl.getD i 0).toNat + 256 * (pl.getD (i + 1) 0).toNat := by
  induction i generalizing pl with
  | zero => rcases pl with _ | ⟨a, _ | ⟨b, bs⟩⟩ <;> simp [arg2, ofLe]
  | succ i ih =>
    cases pl with
    | nil => simp [arg2, ofLe]
    | cons a as => simpa [arg2] using ih as

theorem rankOf_eq (n : Nat) : rankOf n = if 3 < n then none else some ([Rank.off, .r1, .r2, .r3].getD n .off) := by
  rcases n with _ | _ | _ | _ | n
  case succ.succ.succ.succ => simp [rankOf]
  all_goals rfl

theorem functionOf_eq (n : Nat) : functionOf n = if 5 < n then none else
    some ([MfFunction.none, .probe, .floatHigh, .floatFull, .pumpFlow, .powerFailWarn].getD n .none) := by
  rcases n with _ | _ | _ | _ | _ | _ | n
  case succ.succ.succ.succ.succ.succ => simp [functionOf]
  all_goals rfl

theorem methodOf_eq (n : Nat) : methodOf n = if 1 < n then none else some (if n = 0 then .probe else .floats) := by
  rcases n with _ | _ | n
  case succ.succ => simp [methodOf]
  all_goals rfl

theorem drainOf_eq (n : Nat) : drainOf n = if 1 < n then none else some (if n = 0 then .bucket else .pump) := by
  rcases n with _ | _ | n
  case succ.succ => simp [drainOf]
  all_goals rfl

theorem policyOf_eq (n : Nat) : policyOf n = if 1 < n then none else some (if n = 0 then .retry else .lockout) := by
  rcases n with _ | _ | n
  case succ.succ => simp [policyOf]
  all_goals rfl

theorem yesNoOf_eq (n : Nat) : yesNoOf n = if 1 < n then none else some (decide (n = 1)) := by
  rcases n with _ | _ | n
  case succ.succ => simp [yesNoOf]
  all_goals rfl

/-- A field is flagged as clamped exactly where the clamp changes it. -/
theorem clampTo_eq {lo hi : Nat} (h : lo ≤ hi) (x : Nat) :
    clampTo lo hi x = (max lo (min hi x), decide (max lo (min hi x) ≠ x)) := by
  refine Prod.ext rfl ?_
  simp only [clampTo, ← Bool.decide_or, decide_eq_decide]
  omega

theorem least_within (hi x : Nat) : within 0 hi (min hi x) = true := by
  simp only [within, Nat.zero_le, decide_true, Bool.true_and, decide_eq_true_eq]
  exact Nat.min_le_left hi x

theorem clamped_between {lo hi : Nat} (h : lo ≤ hi) (x : Nat) : within lo hi (max lo (min hi x)) = true := by
  simp only [within, Bool.and_eq_true, decide_eq_true_eq]
  omega

theorem beq_eq_decide_eq {α : Type} [BEq α] [LawfulBEq α] [DecidableEq α] (x y : α) :
    (x == y) = decide (x = y) := by
  rw [Bool.eq_iff_iff, beq_iff_eq, decide_eq_true_iff]

theorem byte_eq_zero_iff (b : Byte) : b = 0 ↔ b.toNat = 0 := by
  rw [BitVec.toNat_eq]
  rfl

/-! ### The checks of R14, R45 and R46 -/

/-- The assignments that R14 allows. -/
theorem terminals_ok_iff (t : Terminals) : t.ok = true ↔
    t.mf0 ∈ [.none, .probe, .floatHigh] ∧ t.mf1 ∈ [.none, .floatFull, .pumpFlow] ∧
    t.mf2 ∈ [.none, .pumpFlow, .powerFailWarn] ∧ ¬(t.mf1 = .pumpFlow ∧ t.mf2 = .pumpFlow) ∧
    (t.method = .probe → t.mf0 = .probe ∧ t.mf1 ≠ .floatFull) ∧
    (t.method = .floats → t.mf0 = .floatHigh ∧ t.mf1 = .floatFull) := by
  obtain ⟨a, b, c, m⟩ := t
  have ha : (a == .probe || a == .floatHigh || a == .none) = true ↔ a ∈ [.none, .probe, .floatHigh] := by
    cases a <;> decide
  have hb : (b == .floatFull || b == .pumpFlow || b == .none) = true ↔ b ∈ [.none, .floatFull, .pumpFlow] := by
    cases b <;> decide
  have hc : (c == .pumpFlow || c == .powerFailWarn || c == .none) = true ↔ c ∈ [.none, .pumpFlow, .powerFailWarn] := by
    cases c <;> decide
  have hflow : (!(b == .pumpFlow && c == .pumpFlow)) = true ↔ ¬(b = .pumpFlow ∧ c = .pumpFlow) := by
    rw [Bool.not_eq_true', ← Bool.not_eq_true, Bool.and_eq_true, beq_iff_eq, beq_iff_eq]
  cases m with
  | probe =>
    simp only [Terminals.ok, Bool.and_eq_true, ha, hb, hc, hflow, beq_iff_eq, bne_iff_ne, and_assoc, reduceCtorEq,
      true_implies, false_implies, and_true]
  | floats =>
    simp only [Terminals.ok, Bool.and_eq_true, ha, hb, hc, hflow, beq_iff_eq, and_assoc, reduceCtorEq,
      true_implies, false_implies, true_and]

/-- A bank is in order when each entry is at or below the next one. -/
theorem bank_ordered_iff (b : Bank) : b.ordered = true ↔
    ∀ (i : Nat) (x y : CurvePoint), b[i]? = some x → b[i + 1]? = some y → x.duty ≤ y.duty ∧ x.qnom ≤ y.qnom := by
  induction b with
  | nil => simp [Bank.ordered]
  | cons a as ih =>
    cases as with
    | nil => simp [Bank.ordered]
    | cons c cs =>
      simp only [Bank.ordered, Bool.and_eq_true, decide_eq_true_eq, ih]
      constructor
      · rintro ⟨hac, h⟩ i x y hx hy
        cases i with
        | zero =>
          simp only [List.getElem?_cons_zero, Option.some.injEq, List.getElem?_cons_succ] at hx hy
          exact hx ▸ hy ▸ hac
        | succ i => exact h i x y (by simpa using hx) (by simpa using hy)
      · exact fun h => ⟨h 0 a c rfl rfl, fun i x y hx hy => h (i + 1) x y (by simpa using hx) (by simpa using hy)⟩

/-- The curves that R46 accepts, of those with eleven entries. -/
theorem bank_acceptable_iff {b : Bank} (hlen : b.length = 11) : b.acceptable = true ↔
    b.head? = some ⟨0, 0⟩ ∧ (∀ x ∈ b.tail, x.duty ≠ 0 ∧ x.qnom ≠ 0) ∧ b.clamped.ordered = true := by
  cases b with
  | nil => simp at hlen
  | cons a as =>
    obtain ⟨d, q⟩ := a
    simp [Bank.acceptable, hlen, List.all_eq_true, and_assoc]

end Sys2Proof.Machine
end

section
namespace Sys2Proof.Machine

/-! ### The CONFIG that a WRITE-CONFIG gives (R185) -/

/-- The two bytes of a number, the least significant first. -/
def wordOf (lo hi : Byte) : Nat := lo.toNat + 256 * hi.toNat

/-- A number clamped to a range. -/
def clamped (lo hi n : Nat) : Nat := max lo (min hi n)

theorem arg2_cons_cons (a b : Byte) (bs : List Byte) : arg2 (a :: b :: bs) 0 = wordOf a b := by
  rw [arg2_eq_bytes]
  rfl

@[simp] theorem arg2_cons_succ (b : Byte) (bs : List Byte) (i : Nat) : arg2 (b :: bs) (i + 1) = arg2 bs i := by
  simp [arg2]

theorem configOf_ports (cfg : Settings) (a b c : Byte) :
    configOf cfg [0, a, b, c] =
      if 3 < a.toNat ∨ 3 < b.toNat ∨ 3 < c.toNat then .bad
      else .taken { cfg with ports := ⟨[Rank.off, .r1, .r2, .r3].getD a.toNat .off,
        [Rank.off, .r1, .r2, .r3].getD b.toNat .off,
        if c = 0 then .r1 else [Rank.off, .r1, .r2, .r3].getD c.toNat .off⟩ } (decide (c = 0)) := by
  have hoff : 3 < c.toNat ∨ ([Rank.off, .r1, .r2, .r3].getD c.toNat .off = .off ↔ c = 0) := by
    rw [byte_eq_zero_iff]
    generalize c.toNat = n
    rcases n with _ | _ | _ | _ | n <;> simp
  show portsOf cfg [0, a, b, c] = _
  unfold portsOf
  simp only [show arg1 [0, a, b, c] 1 = a.toNat from rfl, show arg1 [0, a, b, c] 2 = b.toNat from rfl,
    show arg1 [0, a, b, c] 3 = c.toNat from rfl, rankOf_eq]
  by_cases ha : 3 < a.toNat
  · simp [ha]
  by_cases hb : 3 < b.toNat
  · simp [hb]
  by_cases hc : 3 < c.toNat
  · simp [hc]
  simp only [ha, hb, hc, or_false, if_false, hoff.resolve_left hc]

theorem configOf_terminals (cfg : Settings) (a b c m : Byte) :
    configOf cfg [1, a, b, c, m] =
      let function := fun b : Byte => [MfFunction.none, .probe, .floatHigh, .floatFull, .pumpFlow,
        .powerFailWarn].getD b.toNat .none
      let t : Terminals := ⟨function a, function b, function c, if m = 0 then .probe else .floats⟩
      if 5 < a.toNat ∨ 5 < b.toNat ∨ 5 < c.toNat ∨ 1 < m.toNat ∨ t.ok = false then .bad
      else .taken { cfg with terminals := t } false := by
  show terminalsOf cfg [1, a, b, c, m] = _
  unfold terminalsOf
  simp only [show arg1 [1, a, b, c, m] 1 = a.toNat from rfl, show arg1 [1, a, b, c, m] 2 = b.toNat from rfl,
    show arg1 [1, a, b, c, m] 3 = c.toNat from rfl, show arg1 [1, a, b, c, m] 4 = m.toNat from rfl,
    functionOf_eq, methodOf_eq, byte_eq_zero_iff m]
  by_cases ha : 5 < a.toNat
  · simp [ha]
  by_cases hb : 5 < b.toNat
  · simp [hb]
  by_cases hc : 5 < c.toNat
  · simp [hc]
  by_cases hm : 1 < m.toNat
  · simp [hm]
  simp only [ha, hb, hc, hm, false_or, if_false, ← Bool.not_eq_true, ite_not]

theorem configOf_tank (cfg : Settings) (d e e' p p' r r' f f' : Byte) :
    configOf cfg [2, d, e, e', p, p', r, r', f, f'] =
      let t : TankConfig := ⟨if d = 0 then .bucket else .pump, clamped 50 500 (wordOf e e'),
        clamped 500 2800 (wordOf p p'), clamped 600 3400 (wordOf r r'), clamped 1000 3600 (wordOf f f')⟩
      if 1 < d.toNat ∨ ¬(t.empty < t.pumpStart ∧ t.pumpStart < t.resume ∧ t.resume + 200 ≤ t.full) then .bad
      else .taken { cfg with tank := t } (decide (t.empty ≠ wordOf e e' ∨ t.pumpStart ≠ wordOf p p' ∨
        t.resume ≠ wordOf r r' ∨ t.full ≠ wordOf f f')) := by
  show tankOf cfg [2, d, e, e', p, p', r, r', f, f'] = _
  unfold tankOf
  simp only [show arg1 [2, d, e, e', p, p', r, r', f, f'] 1 = d.toNat from rfl, drainOf_eq, arg2_cons_succ,
    arg2_cons_cons, byte_eq_zero_iff d, clampTo_eq (show 50 ≤ 500 by decide),
    clampTo_eq (show 500 ≤ 2800 by decide), clampTo_eq (show 600 ≤ 3400 by decide),
    clampTo_eq (show 1000 ≤ 3600 by decide)]
  by_cases hd : 1 < d.toNat
  · simp [hd]
  simp only [hd, false_or, if_false, TankConfig.ordered, clamped, ← Bool.decide_or, or_assoc,
    Bool.and_eq_true, decide_eq_true_eq, and_assoc, ite_not]
  congr

theorem configOf_airflow (cfg : Settings) (a b c c' : Byte) :
    configOf cfg [3, a, b, c, c'] =
      let x : AirflowConfig := ⟨clamped 1 6 a.toNat, clamped 1 6 b.toNat, clamped 60 300 (wordOf c c')⟩
      .taken { cfg with airflow := x } (decide (x ≠ ⟨a.toNat, b.toNat, wordOf c c'⟩)) := by
  show airflowOf cfg [3, a, b, c, c'] = _
  unfold airflowOf
  simp only [show arg1 [3, a, b, c, c'] 1 = a.toNat from rfl, show arg1 [3, a, b, c, c'] 2 = b.toNat from rfl,
    arg2_cons_succ, arg2_cons_cons, clampTo_eq (show 1 ≤ 6 by decide), clampTo_eq (show 60 ≤ 300 by decide), clamped,
    ne_eq, AirflowConfig.mk.injEq, Classical.not_and_iff_not_or_not, Bool.decide_or, Bool.or_assoc]

theorem configOf_drying (cfg : Settings) (p r : Byte) :
    configOf cfg [4, p, r] =
      if 1 < p.toNat ∨ 7 < r.toNat then .bad
      else .taken { cfg with drying := ⟨if p = 0 then .retry else .lockout,
        ⟨r.toNat.testBit 0, r.toNat.testBit 1, r.toNat.testBit 2⟩⟩ } false := by
  show dryingOf cfg [4, p, r] = _
  unfold dryingOf
  simp only [show arg1 [4, p, r] 1 = p.toNat from rfl, show arg1 [4, p, r] 2 = r.toNat from rfl, policyOf_eq,
    byte_eq_zero_iff p]
  by_cases hp : 1 < p.toNat
  · simp [hp]
  simp only [hp, false_or, if_false]

theorem configOf_filters (cfg : Settings) (w w' l f f' : Byte) :
    configOf cfg [5, w, w', l, f, f'] =
      let x : FiltersConfig := ⟨clamped 500 990 (wordOf w w'), clamped 1 20 l.toNat, clamped 0 500 (wordOf f f')⟩
      .taken { cfg with filters := x } (decide (x ≠ ⟨wordOf w w', l.toNat, wordOf f f'⟩)) := by
  show filtersOf cfg [5, w, w', l, f, f'] = _
  unfold filtersOf
  simp only [show arg1 [5, w, w', l, f, f'] 3 = l.toNat from rfl, arg2_cons_succ, arg2_cons_cons,
    clampTo_eq (show 500 ≤ 990 by decide), clampTo_eq (show 1 ≤ 20 by decide), clampTo_eq (show 0 ≤ 500 by decide),
    clamped, ne_eq, FiltersConfig.mk.injEq, Classical.not_and_iff_not_or_not, Bool.decide_or, Bool.or_assoc]

/-- The untagged default that the bytes from `i` on give. -/
def untaggedGiven (pl : List Byte) (i : Nat) : UntaggedDefault :=
  ⟨wordOf (pl.getD i 0) (pl.getD (i + 1) 0), wordOf (pl.getD (i + 2) 0) (pl.getD (i + 3) 0),
    wordOf (pl.getD (i + 4) 0) (pl.getD (i + 5) 0), decide (pl.getD (i + 6) 0 = 1)⟩

/-- It with its numbers clamped. -/
def UntaggedDefault.fitted (x : UntaggedDefault) : UntaggedDefault :=
  { x with c := clamped 1 65535 x.c, e := min 1000 x.e, k := min 1000 x.k }

theorem fitted_ne_iff (x : UntaggedDefault) :
    x.fitted ≠ x ↔ clamped 1 65535 x.c ≠ x.c ∨ min 1000 x.e ≠ x.e ∨ min 1000 x.k ≠ x.k := by
  obtain ⟨c, e, k, w⟩ := x
  simp only [UntaggedDefault.fitted, ne_eq, UntaggedDefault.mk.injEq, and_true, Classical.not_and_iff_not_or_not]

theorem untaggedAt_eq (pl : List Byte) (i : Nat) :
    untaggedAt pl i = if 1 < (pl.getD (i + 6) 0).toNat then .bad
      else .taken (untaggedGiven pl i).fitted (decide ((untaggedGiven pl i).fitted ≠ untaggedGiven pl i)) := by
  have hone : (pl.getD (i + 6) 0).toNat = 1 ↔ pl.getD (i + 6) 0 = 1 := by
    rw [BitVec.toNat_eq]
    rfl
  unfold untaggedAt
  simp only [arg1, yesNoOf_eq, hone]
  by_cases hw : 1 < (pl.getD (i + 6) 0).toNat
  · simp only [hw, if_true]
  have hflag := fitted_ne_iff (untaggedGiven pl i)
  simp only [hw, if_false, hflag, Bool.decide_or, Bool.or_assoc, clampTo_eq (show 1 ≤ 65535 by decide),
    clampTo_eq (show 0 ≤ 1000 by decide), Nat.zero_max]
  simp only [UntaggedDefault.fitted, untaggedGiven, arg2_eq_bytes, clamped, wordOf]
  rfl

theorem configOf_untagged (cfg : Settings) {pl : List Byte} (h : pl.head? = some 6) :
    configOf cfg pl =
      if 1 < (pl.getD 7 0).toNat ∨ 1 < (pl.getD 14 0).toNat ∨ 1 < (pl.getD 21 0).toNat then .bad
      else .taken { cfg with untagged := ⟨(untaggedGiven pl 1).fitted, (untaggedGiven pl 8).fitted,
          (untaggedGiven pl 15).fitted⟩ }
        (decide ((untaggedGiven pl 1).fitted ≠ untaggedGiven pl 1 ∨ (untaggedGiven pl 8).fitted ≠ untaggedGiven pl 8 ∨
          (untaggedGiven pl 15).fitted ≠ untaggedGiven pl 15)) := by
  have hg : arg1 pl 0 = 6 := by
    cases pl with
    | nil => cases h
    | cons a as =>
      cases h
      rfl
  simp only [configOf, hg, untaggedOf, untaggedAt_eq]
  by_cases ha : 1 < (pl.getD 7 0).toNat
  · simp only [ha, true_or, if_true]
  by_cases hb : 1 < (pl.getD 14 0).toNat
  · simp only [ha, hb, true_or, or_true, if_true, if_false]
  by_cases hc : 1 < (pl.getD 21 0).toNat
  · simp only [ha, hb, hc, or_true, if_true, if_false]
  simp only [ha, hb, hc, or_self, if_false, Bool.decide_or, Bool.or_assoc]

/-- The bank that the bytes of a curve give. -/
def curveGiven (pl : List Byte) : Bank :=
  (List.range 11).map (fun st => ⟨wordOf (pl.getD (1 + 4 * st) 0) (pl.getD (2 + 4 * st) 0),
    wordOf (pl.getD (3 + 4 * st) 0) (pl.getD (4 + 4 * st) 0)⟩)

theorem curveOf_eq (pl : List Byte) : curveOf pl 1 = curveGiven pl := by
  refine List.map_congr_left fun st _ => ?_
  simp only [arg2_eq_bytes, wordOf, show 1 + 4 * st + 1 = 2 + 4 * st by omega, show 1 + 4 * st + 2 = 3 + 4 * st by omega,
    show 3 + 4 * st + 1 = 4 + 4 * st by omega]

theorem configOf_curve (cfg : Settings) {pl : List Byte} (h : pl.head? = some 7) :
    configOf cfg pl = if (curveGiven pl).acceptable then
      .taken { cfg with curve := (curveGiven pl).clamped } (decide ((curveGiven pl).clamped ≠ curveGiven pl))
      else .bad := by
  have hg : arg1 pl 0 = 7 := by
    cases pl with
    | nil => cases h
    | cons a as =>
      cases h
      rfl
  simp only [configOf, hg, storedCurveOf, curveOf_eq, bne, beq_eq_decide_eq, decide_not]

/-! ### One group is taken, and it is valid (R183, R185) -/

/-- A CONFIG that differs from `cfg` in one group at most, with that group's checks passed. -/
inductive GroupTaken (cfg : Settings) : Settings → Prop
  | ports (x : PerPort Rank) (h : x.service ≠ .off) : GroupTaken cfg { cfg with ports := x }
  | terminals (x : Terminals) (h : x.ok = true) : GroupTaken cfg { cfg with terminals := x }
  | tank (x : TankConfig) (hr : x.inRange = true) (ho : x.ordered = true) : GroupTaken cfg { cfg with tank := x }
  | airflow (x : AirflowConfig) (h : x.inRange = true) : GroupTaken cfg { cfg with airflow := x }
  | drying (x : DryingConfig) : GroupTaken cfg { cfg with drying := x }
  | filters (x : FiltersConfig) (h : x.inRange = true) : GroupTaken cfg { cfg with filters := x }
  | untagged (x : PerStage UntaggedDefault) (h : ∀ st, (x.get st).inRange = true) :
      GroupTaken cfg { cfg with untagged := x }
  | curve (x : Bank) (h : x.legal = true) : GroupTaken cfg { cfg with curve := x }

theorem clamped_idem (b : Bank) : b.clamped.clamped = b.clamped := by
  unfold Bank.clamped
  rw [List.map_map]
  refine List.map_congr_left fun x _ => ?_
  simp

/-- An accepted curve, once clamped, is a legal bank. -/
theorem clamped_legal {b : Bank} (h : b.acceptable = true) : b.clamped.legal = true := by
  have hlen : b.length = 11 := by
    simp only [Bank.acceptable, Bool.and_eq_true, beq_iff_eq] at h
    exact h.1.1
  have hlen' : b.clamped.length = 11 := by rw [Bank.clamped, List.length_map, hlen]
  obtain ⟨hhead, htail, hord⟩ := (bank_acceptable_iff hlen).1 h
  have hacc : b.clamped.acceptable = true := by
    refine (bank_acceptable_iff hlen').2 ⟨?_, ?_, by rw [clamped_idem]; exact hord⟩
    · rw [Bank.clamped, List.head?_map, hhead]
      rfl
    · rw [Bank.clamped, ← List.map_tail]
      intro y hy
      obtain ⟨x, hx, rfl⟩ := List.mem_map.1 hy
      obtain ⟨hd, hq⟩ := htail x hx
      dsimp only
      omega
  simp only [Bank.legal, hacc, clamped_idem, BEq.rfl, Bool.and_self]

theorem untaggedAt_taken {pl : List Byte} {i : Nat} {x : UntaggedDefault} {c : Bool}
    (h : untaggedAt pl i = .taken x c) : x.inRange = true := by
  rw [untaggedAt_eq] at h
  split at h
  · cases h
  · cases h
    simp only [UntaggedDefault.inRange, UntaggedDefault.fitted, clamped, least_within,
      clamped_between (show 1 ≤ 65535 by decide), Bool.and_self]

/-- A taken WRITE-CONFIG takes one group and passes that group's checks. -/
theorem configOf_taken {cfg new : Settings} {pl : List Byte} {c : Bool} (h : configOf cfg pl = .taken new c) :
    GroupTaken cfg new := by
  unfold configOf at h
  split at h
  case h_1 =>
    unfold portsOf at h
    split at h
    · cases h
      refine .ports _ ?_
      dsimp only
      split
      · simp
      · assumption
    · cases h
  case h_2 =>
    unfold terminalsOf at h
    split at h
    · dsimp only at h
      split at h
      · cases h
        exact .terminals _ ‹_›
      · cases h
    · cases h
  case h_3 =>
    unfold tankOf at h
    split at h
    · cases h
    · dsimp only at h
      split at h
      · cases h
        exact .tank _ (by simp only [TankConfig.inRange, clampTo, clamped_between (show 50 ≤ 500 by decide),
          clamped_between (show 500 ≤ 2800 by decide), clamped_between (show 600 ≤ 3400 by decide),
          clamped_between (show 1000 ≤ 3600 by decide), Bool.and_self]) ‹_›
      · cases h
  case h_4 =>
    cases h
    exact .airflow _ (by simp only [AirflowConfig.inRange, clampTo, clamped_between (show 1 ≤ 6 by decide),
      clamped_between (show 60 ≤ 300 by decide), Bool.and_self])
  case h_5 =>
    unfold dryingOf at h
    split at h
    · cases h
    · dsimp only at h
      split at h
      · cases h
      · cases h
        exact .drying _
  case h_6 =>
    cases h
    exact .filters _ (by simp only [FiltersConfig.inRange, clampTo, clamped_between (show 500 ≤ 990 by decide),
      clamped_between (show 1 ≤ 20 by decide), clamped_between (show 0 ≤ 500 by decide), Bool.and_self])
  case h_7 =>
    unfold untaggedOf at h
    split at h
    · rename_i ha hb hc
      cases h
      refine .untagged _ fun st => ?_
      cases st with
      | pre => exact untaggedAt_taken ha
      | carb => exact untaggedAt_taken hb
      | fine => exact untaggedAt_taken hc
    · cases h
  case h_8 =>
    unfold storedCurveOf at h
    dsimp only at h
    split at h
    · cases h
      exact .curve _ (clamped_legal ‹_›)
    · cases h
  case h_9 => cases h

/-- A taken group keeps a valid CONFIG valid. -/
theorem GroupTaken.valid {cfg new : Settings} (h : GroupTaken cfg new) (hv : cfg.valid = true) : new.valid = true := by
  simp only [Settings.valid, Bool.and_eq_true, bne_iff_ne, ne_eq] at hv
  cases h with
  | untagged x hx => simp [Settings.valid, hv, show x.pre.inRange = true from hx .pre,
      show x.carb.inRange = true from hx .carb, show x.fine.inRange = true from hx .fine]
  | _ => simp_all [Settings.valid]

end Sys2Proof.Machine
end

section
namespace Sys2Proof.Machine

/-! ### A CONFIG in force, before the hand-overs (R186) -/

/-- The part with a CONFIG in force that nothing has acted on. -/
def State.withConfig (s : State) (new : Settings) : State := s.setSst { s.sst with settings := new }

/-- The part when every owner has taken its group of a CONFIG, before the hand-overs. -/
def State.regrouped (s : State) (new : Settings) : State :=
  let old := s.sst.settings
  let t := s.withConfig new
  let t := if new.ports = old.ports then t else t.takeRanks
  let t := if new.terminals = old.terminals then t else t.takeTerminals old.terminals
  let t := if new.tank = old.tank ∧ new.terminals = old.terminals then t else t.cdcTake
  if new.filters = old.filters then t else t.filterEvents s

theorem applyConfig_same (s : State) : s.applyConfig s.sst.settings = s := if_pos rfl

theorem applyConfig_changed {s : State} {new : Settings} (h : new ≠ s.sst.settings) :
    s.applyConfig new = (s.regrouped new).settle.request (.single .config) := if_neg h

theorem regrouped_ports {s : State} {x : PerPort Rank} (h : x ≠ s.sst.settings.ports) :
    s.regrouped { s.sst.settings with ports := x } = (s.withConfig { s.sst.settings with ports := x }).takeRanks := by
  simp only [State.regrouped, h, if_false, and_self, if_true]

theorem regrouped_terminals {s : State} {x : Terminals} (h : x ≠ s.sst.settings.terminals) :
    s.regrouped { s.sst.settings with terminals := x } =
      ((s.withConfig { s.sst.settings with terminals := x }).takeTerminals s.sst.settings.terminals).cdcTake := by
  simp only [State.regrouped, h, if_false, and_false, if_true]

theorem regrouped_tank {s : State} {x : TankConfig} (h : x ≠ s.sst.settings.tank) :
    s.regrouped { s.sst.settings with tank := x } = (s.withConfig { s.sst.settings with tank := x }).cdcTake := by
  simp only [State.regrouped, h, if_false, and_true, if_true]

theorem regrouped_filters {s : State} {x : FiltersConfig} (h : x ≠ s.sst.settings.filters) :
    s.regrouped { s.sst.settings with filters := x } =
      (s.withConfig { s.sst.settings with filters := x }).filterEvents s := by
  simp only [State.regrouped, h, if_false, and_self, if_true]

/-- No owner acts on the other groups as such. -/
theorem regrouped_others {s : State} {new : Settings} (hp : new.ports = s.sst.settings.ports)
    (ht : new.terminals = s.sst.settings.terminals) (hk : new.tank = s.sst.settings.tank)
    (hf : new.filters = s.sst.settings.filters) : s.regrouped new = s.withConfig new := by
  simp only [State.regrouped, hp, ht, hk, hf, and_self, if_true]

/-! ### What no group changes -/

/-- What a CONFIG reads and no owner changes when it takes its group. -/
def State.sameBasis (t s : State) : Prop :=
  t.afc = s.afc ∧ t.crd = s.crd ∧ t.fau.accounts = s.fau.accounts ∧ t.sst.settings = s.sst.settings

theorem sameBasis_refl (s : State) : s.sameBasis s := ⟨rfl, rfl, rfl, rfl⟩

theorem sameBasis_trans {t u s : State} (h : t.sameBasis u) (k : u.sameBasis s) : t.sameBasis s := by
  obtain ⟨ha, hc, hf, hs⟩ := h
  obtain ⟨ka, kc, kf, ks⟩ := k
  exact ⟨ha.trans ka, hc.trans kc, hf.trans kf, hs.trans ks⟩

theorem stageState_congr {t s : State} (h : t.sameBasis s) (st : Stage) : t.stageState st = s.stageState st := by
  obtain ⟨-, hc, hf, hs⟩ := h
  simp only [State.stageState, State.stagePresent, hc, hf, hs]

theorem derating_congr {t s : State} (hc : t.crd = s.crd) (hf : t.fau.accounts = s.fau.accounts) :
    t.derating = s.derating := by
  have hterm : ∀ st, t.deratingTerm st = s.deratingTerm st := fun st => by
    unfold State.deratingTerm State.stagePresent
    rw [hc, hf]
  simp only [State.derating, hterm]

theorem takeRanks_sameBasis (s : State) : s.takeRanks.sameBasis s := by
  unfold State.takeRanks
  dsimp only
  split
  · exact sameBasis_refl s
  · simp [State.sameBasis]

theorem takeTerminals_sameBasis (s : State) (old : Terminals) : (s.takeTerminals old).sameBasis s := by
  simp [State.sameBasis]

theorem cdcTake_sameBasis (s : State) : s.cdcTake.sameBasis s := by simp [State.sameBasis]

theorem postFilter_sameBasis (s : State) (st : Stage) (old new : StageState) :
    (s.postFilter st old new).sameBasis s := by
  refine ⟨by simp, by simp, ?_, ?_⟩
  all_goals
    unfold State.postFilter
    dsimp only
    split
    · rfl
    · split
      · simp
      · simp

theorem filterEvents_sameBasis (s before : State) : (s.filterEvents before).sameBasis s :=
  sameBasis_trans (postFilter_sameBasis _ _ _ _) (sameBasis_trans (postFilter_sameBasis _ _ _ _)
    (postFilter_sameBasis _ _ _ _))

/-- What an owner keeps, it keeps when it has nothing to take. -/
theorem sameBasis_ite {c : Prop} [Decidable c] {t u : State} (h : t.sameBasis u) :
    (if c then u else t).sameBasis u := by
  split
  · exact sameBasis_refl u
  · exact h

theorem regrouped_sameBasis (s : State) (new : Settings) : (s.regrouped new).sameBasis (s.withConfig new) := by
  unfold State.regrouped
  exact sameBasis_trans (sameBasis_ite (filterEvents_sameBasis _ _)) (sameBasis_trans (sameBasis_ite (cdcTake_sameBasis _))
    (sameBasis_trans (sameBasis_ite (takeTerminals_sameBasis _ _)) (sameBasis_ite (takeRanks_sameBasis _))))

/-! ### What the hand-overs leave (R60, R61, R186) -/

/-- The hand-overs and the checkpoint request leave what the owners of the inputs, the demands and the tank hold. -/
theorem applyConfig_blocks {s : State} {new : Settings} (h : new ≠ s.sst.settings) :
    (s.applyConfig new).sfe = (s.regrouped new).sfe ∧ (s.applyConfig new).cdc = (s.regrouped new).cdc ∧
      (s.applyConfig new).dar = (s.regrouped new).dar ∧ (s.applyConfig new).onlyFlags (s.regrouped new) := by
  rw [applyConfig_changed h]
  refine ⟨by simp, by simp, by simp, onlyFlags_trans (onlyFlags_of_prt ?_) (settle_onlyFlags _)⟩
  simp

/-- The floor is the one of the new CONFIG, and a bank is no field of it. -/
theorem applyConfig_basis {s : State} {new : Settings} (h : new ≠ s.sst.settings) :
    let w := s.applyConfig new
    w.sst.settings = new ∧ w.crd = s.crd ∧ w.fau.accounts = s.fau.accounts ∧ w.afc.bankA = s.afc.bankA ∧
      w.afc.bankB = s.afc.bankB ∧ w.afc.floor = w.afc.dryFloor new.airflow w.derating := by
  intro w
  obtain ⟨hafc, hcrd, hacc, hset⟩ := regrouped_sameBasis s new
  obtain ⟨-, -, hsettled, -⟩ := settle_handsOn (s.regrouped new)
  have hw : w = (s.regrouped new).settle.request (.single .config) := applyConfig_changed h
  have hwafc : w.afc = (s.regrouped new).settle.afc := by rw [hw]; simp
  have hwset : w.sst.settings = (s.regrouped new).sst.settings := by rw [hw, request_settings, settle_sst]
  have hwcrd : w.crd = (s.regrouped new).crd := by rw [hw]; simp
  have hwacc : w.fau.accounts = (s.regrouped new).fau.accounts := by rw [hw, request_accounts, settle_accounts]
  refine ⟨hwset.trans hset, hwcrd.trans hcrd, hwacc.trans hacc, ?_, ?_, ?_⟩
  · rw [hwafc, hsettled, hafc]
    rfl
  · rw [hwafc, hsettled, hafc]
    rfl
  · rw [derating_congr hwcrd hwacc, hwafc, hsettled, hset]
    rfl

/-! ### Ranks (R34, R35) -/

/-- A property that one step of a fold establishes and every step keeps holds at its end. -/
theorem foldl_establishes {α β : Type} {P : α → Prop} {step : α → β → α} (hk : ∀ u x, P u → P (step u x))
    {l : List β} {x : β} (hx : x ∈ l) (he : ∀ u, P (step u x)) (u : α) : P (l.foldl step u) := by
  have hkeep : ∀ (l : List β) (u : α), P u → P (l.foldl step u) := fun l => by
    induction l with
    | nil => exact fun u h => h
    | cons y ys ih => exact fun u h => ih _ (hk u y h)
  induction l generalizing u with
  | nil => simp at hx
  | cons y ys ih =>
    rcases List.mem_cons.1 hx with rfl | hy
    · exact hkeep ys _ (he u)
    · exact ih hy _

/-- The demands that stay under a set of ranks, each at the rank of its origin. -/
def keptDemands (ranks : PerPort Rank) (l : List Demand) : List Demand :=
  (l.filter (fun e => ranks.get e.origin ≠ .off)).map (fun e => { e with rank := ranks.get e.origin })

/-- The demands that a set of ranks removes. -/
def goneDemands (ranks : PerPort Rank) (l : List Demand) : List Demand :=
  l.filter (fun e => ranks.get e.origin = .off)

theorem takeRanks_eq (s : State) :
    let gone := goneDemands s.sst.settings.ports s.dar.table
    let kept := keptDemands s.sst.settings.ports s.dar.table
    s.takeRanks = if gone = [] ∧ kept = s.dar.table then s else
      ((gone.foldl (fun u e => (u.post e.origin .expired).log (.demandDropped e.ref .rankOff)) s).setDar
        { s.dar with table := kept }).resolve := by
  intro gone kept
  have hgone : s.dar.table.filter (fun e => s.rank e.origin == .off) = gone := by
    simp only [gone, goneDemands, State.rank, beq_eq_decide_eq]
  have hkept : (s.dar.table.filter (fun e => s.rank e.origin != .off)).map
      (fun e => { e with rank := s.rank e.origin }) = kept := by
    simp only [kept, keptDemands, State.rank, bne, beq_eq_decide_eq, ne_eq, decide_not]
  unfold State.takeRanks
  rw [hgone, hkept]
  simp only [reportDropped_frame, Bool.and_eq_true, List.isEmpty_iff, beq_iff_eq]
  rfl

theorem resolve_onlyFlags (s : State) : s.resolve.onlyFlags s := by
  unfold State.resolve
  dsimp only
  split
  · exact onlyFlags_of_prt rfl
  · exact onlyFlags_trans (raise_onlyFlags _ _) (onlyFlags_of_prt rfl)

/-- Resolving changes the standing of the demands and nothing else of the table. -/
theorem resolve_table (s : State) :
    s.resolve.dar.table = s.dar.table.map (fun e => { e with standing := standingIn s.dar.table e }) := by
  unfold State.resolve
  dsimp only
  split
  · rfl
  · simp

/-- After the ranks are taken every demand has its origin's rank, in the old order. -/
theorem takeRanks_table (s : State) :
    (∀ e ∈ s.takeRanks.dar.table, e.rank = s.sst.settings.ports.get e.origin ∧ e.rank ≠ .off) ∧
      s.takeRanks.dar.table.map (fun e => (e.ref, e.ask, e.remaining)) =
        (s.dar.table.filter (fun e => s.sst.settings.ports.get e.origin ≠ .off)).map
          (fun e => (e.ref, e.ask, e.remaining)) := by
  have hmem : ∀ e ∈ keptDemands s.sst.settings.ports s.dar.table,
      e.rank = s.sst.settings.ports.get e.origin ∧ e.rank ≠ .off := by
    intro e he
    obtain ⟨d, hd, rfl⟩ := List.mem_map.1 he
    exact ⟨rfl, by simpa using (List.mem_filter.1 hd).2⟩
  have hmap : (keptDemands s.sst.settings.ports s.dar.table).map (fun e => (e.ref, e.ask, e.remaining)) =
      (s.dar.table.filter (fun e => s.sst.settings.ports.get e.origin ≠ .off)).map
        (fun e => (e.ref, e.ask, e.remaining)) := by
    rw [keptDemands, List.map_map]
    rfl
  rw [takeRanks_eq]
  split
  · rename_i h
    rw [← hmap, h.2]
    exact ⟨h.2 ▸ hmem, rfl⟩
  · rw [resolve_table, setDar_dar]
    refine ⟨fun e he => ?_, ?_⟩
    · obtain ⟨d, hd, rfl⟩ := List.mem_map.1 he
      exact hmem d hd
    · rw [List.map_map, ← hmap]
      rfl

theorem flagOn_mono {t s : State} (h : t.onlyFlags s) {p : Port} {f : Flag} (k : s.flagOn p f) : t.flagOn p f := by
  obtain ⟨-, -, -, -, -, hp⟩ := h
  obtain ⟨-, -, -, -, -, hf⟩ := hp p
  exact flags_mono hf k

theorem post_flagOn (s : State) (p : Port) (f : Flag) : (s.post p f).flagOn p f := by
  simp only [State.flagOn, State.post, raise_port, PortIf.raise, if_true]
  exact flags_or_sets _ _

/-- A removed demand sets EXPIRED on its origin (R35). -/
theorem takeRanks_flagOn {s : State} {e : Demand} (he : e ∈ s.dar.table)
    (hoff : s.sst.settings.ports.get e.origin = .off) : s.takeRanks.flagOn e.origin .expired := by
  have hmem : e ∈ goneDemands s.sst.settings.ports s.dar.table := List.mem_filter.2 ⟨he, by simpa using hoff⟩
  have hdropped := foldl_establishes (P := fun u => u.flagOn e.origin .expired)
    (step := fun (u : State) (d : Demand) => (u.post d.origin .expired).log (.demandDropped d.ref .rankOff))
    (fun u d h => flagOn_mono (onlyFlags_trans (log_onlyFlags _ _) (raise_onlyFlags _ _)) h) hmem
    (fun u => flagOn_mono (log_onlyFlags _ _) (post_flagOn u e.origin .expired)) s
  rw [takeRanks_eq, if_neg (fun h => by rw [h.1] at hmem; simp at hmem)]
  exact flagOn_mono (resolve_onlyFlags _) hdropped

/-! ### Terminals and the level method (R15, R16, R135) -/

theorem probeLevel_eq_none_iff (s : State) : s.probeLevel = none ↔ s.sfe.probe.window = [] := by
  constructor
  · intro h
    refine Classical.byContradiction fun hw => ?_
    obtain ⟨m, hm, -⟩ := median_spec hw
    rw [State.probeLevel, hm] at h
    cases h
  · intro h
    rw [State.probeLevel, h]
    rfl

/-- The part with its inputs reassigned; a probe that had readings and lost its terminal posts SENSOR. -/
def State.reassigned (s : State) (old : Terminals) : State :=
  let u := s.setSfe (s.sfe.reassign old s.sst.settings.terminals)
  if old.mf0 ≠ s.sst.settings.terminals.mf0 ∧ s.sfe.probe.window ≠ [] then (u.postAll .sensor).log (.sensor .probe false)
  else u

theorem reassigned_sfe (s : State) (old : Terminals) :
    (s.reassigned old).sfe = s.sfe.reassign old s.sst.settings.terminals := by
  unfold State.reassigned
  dsimp only
  split <;> rfl

theorem reassigned_kept (s : State) (old : Terminals) :
    (s.reassigned old).sst = s.sst ∧ (s.reassigned old).cdc = s.cdc := by
  unfold State.reassigned
  dsimp only
  split <;> exact ⟨rfl, rfl⟩

theorem reassigned_flagOnAll {s : State} {old : Terminals} (hm : old.mf0 ≠ s.sst.settings.terminals.mf0)
    (hw : s.sfe.probe.window ≠ []) : (s.reassigned old).flagOnAll .sensor := by
  rw [State.reassigned, if_pos ⟨hm, hw⟩]
  exact flagOnAll_mono (log_onlyFlags _ _) _ (postAll_flagOnAll _ _)

theorem takeTerminals_eq (s : State) (old : Terminals) :
    s.takeTerminals old = if old.method = s.sst.settings.terminals.method then s.reassigned old
      else (s.reassigned old).takeMethod := by
  let u := s.setSfe (s.sfe.reassign old s.sst.settings.terminals)
  have hlost : (s.probeLevel.isSome && u.probeLevel.isNone) = true ↔
      old.mf0 ≠ s.sst.settings.terminals.mf0 ∧ s.sfe.probe.window ≠ [] := by
    rw [Bool.and_eq_true, Option.isNone_iff_eq_none, ← Option.ne_none_iff_isSome, ne_eq, probeLevel_eq_none_iff,
      probeLevel_eq_none_iff, setSfe_sfe]
    by_cases hm : old.mf0 = s.sst.settings.terminals.mf0
    · simp [Sfe.reassign, hm]
    · simp [Sfe.reassign, hm]
  have hmid : (if (s.probeLevel.isSome && u.probeLevel.isNone) = true then u.postSensor .probe false else u) =
      s.reassigned old := ite_congr (propext hlost) (fun _ => rfl) (fun _ => rfl)
  simp only [State.takeTerminals]
  rw [hmid]

theorem takeMethod_eq (s : State) :
    s.takeMethod =
      let t := s.setCdc { s.cdc with
        release := if s.method = .floats then some 0 else none, released := false, seq := none }
      if s.cdc.seq = none then t else t.postAll .pump := by
  unfold State.takeMethod
  cases s.method <;> cases s.cdc.seq <;> rfl

theorem takeMethod_onlyFlags (s : State) : s.takeMethod.onlyFlags s := by
  rw [takeMethod_eq]
  dsimp only
  split
  · exact onlyFlags_of_prt rfl
  · exact onlyFlags_trans (raise_onlyFlags _ _) (onlyFlags_of_prt rfl)

/-- The record of the old method is gone, and PUMP says so. -/
theorem takeMethod_seq (s : State) :
    s.takeMethod.cdc.seq = none ∧ (s.cdc.seq ≠ none → s.takeMethod.flagOnAll .pump) := by
  rw [takeMethod_eq]
  dsimp only
  split
  · exact ⟨rfl, fun h => absurd ‹_› h⟩
  · exact ⟨by simp, fun _ => postAll_flagOnAll _ _⟩

theorem takeTerminals_sfe (s : State) (old : Terminals) :
    (s.takeTerminals old).sfe = s.sfe.reassign old s.sst.settings.terminals := by
  rw [takeTerminals_eq]
  split
  · exact reassigned_sfe s old
  · rw [← reassigned_sfe s old]
    simp

theorem takeTerminals_onlyFlags (s : State) (old : Terminals) :
    (s.takeTerminals old).onlyFlags (s.reassigned old) := by
  rw [takeTerminals_eq]
  split
  · exact onlyFlags_of_prt rfl
  · exact takeMethod_onlyFlags _

/-- A change of the level method leaves the level unknown: the probe has no reading and no float a first level. -/
theorem takeTerminals_level {s : State} {old : Terminals} (hold : old.ok = true)
    (hnew : s.sst.settings.terminals.ok = true) (hm : s.sst.settings.terminals.method ≠ old.method) :
    (s.takeTerminals old).level = .unknown := by
  have hsst : (s.takeTerminals old).sst = s.sst := by simp
  have hsfe := takeTerminals_sfe s old
  obtain ⟨-, -, -, -, hop, hof⟩ := (terminals_ok_iff _).1 hold
  obtain ⟨-, -, -, -, hnp, hnf⟩ := (terminals_ok_iff _).1 hnew
  cases hmeth : s.sst.settings.terminals.method with
  | probe =>
    have hold' : old.method = .floats := by
      cases h : old.method with
      | probe => exact absurd (hmeth.trans h.symm) hm
      | floats => rfl
    refine level_of_no_probeLevel (by rw [State.method, hsst, hmeth]) ((probeLevel_eq_none_iff _).2 ?_)
    rw [hsfe]
    simp [Sfe.reassign, (hnp hmeth).1, (hof hold').1]
  | floats =>
    have hold' : old.method = .probe := by
      cases h : old.method with
      | probe => rfl
      | floats => exact absurd (hmeth.trans h.symm) hm
    simp [State.level, hmeth, hsfe, Sfe.reassign, (hnf hmeth).1, (hop hold').1, freshInput,
      MfFunction.isSwitch]

/-! ### Filters (R66, R67, R83) -/

theorem stageState_eq_stateBy (a : Account) (cfg : FiltersConfig) (present : Bool) :
    a.stageState cfg present = a.stateBy cfg present := by
  unfold Account.stageState Account.stateBy wearState Account.wear
  cases present
  · rfl
  · simp only [Bool.not_true, Bool.false_eq_true, if_false, Bool.true_eq_false]
    by_cases h1 : min 2000 (a.load / a.c) < 50
    · simp [h1]
    · by_cases h2 : min 2000 (a.load / a.c) < cfg.worn
      · simp [h1, h2]
      · by_cases h3 : min 2000 (a.load / a.c) < 1000
        · simp only [h1, h2, h3, if_true, if_false]
        · simp only [h1, h2, h3, if_false]

/-- The state of a stage under other thresholds. -/
def State.stageUnder (s : State) (cfg : FiltersConfig) (st : Stage) : StageState :=
  (s.fau.accounts.get st).stateBy cfg (s.stagePresent st)

/-- One stage of `s` is judged again under other thresholds. -/
def State.refiltered (s : State) (cfg : FiltersConfig) (u : State) (st : Stage) : State :=
  let f := s.stageUnder cfg st
  let y := (u.postAll .filter).log (.filterState st f)
  if f = s.stageState st then u else if f = .worn ∨ f = .exhausted then y.request (.single .filters) else y

/-- A stage is ABSENT under one set of thresholds exactly when it is under another. -/
theorem stageUnder_absent_iff (s : State) (cfg : FiltersConfig) (st : Stage) :
    s.stageUnder cfg st = .absent ↔ s.stagePresent st = false := by
  unfold State.stageUnder Account.stateBy
  dsimp only
  repeat' split
  all_goals simp_all

theorem stageState_absent_iff (s : State) (st : Stage) : s.stageState st = .absent ↔ s.stagePresent st = false := by
  rw [State.stageState, stageState_eq_stateBy]
  exact stageUnder_absent_iff s _ st

theorem postFilter_eq_refiltered (s u : State) (cfg : FiltersConfig) (st : Stage) :
    u.postFilter st (s.stageState st) (s.stageUnder cfg st) = s.refiltered cfg u st := by
  unfold State.postFilter State.refiltered
  dsimp only
  by_cases h : s.stageUnder cfg st = s.stageState st
  · rw [if_pos (Or.inl h.symm), if_pos h]
  · have hpresent : s.stagePresent st ≠ false := fun hp =>
      h (((stageUnder_absent_iff s cfg st).2 hp).trans ((stageState_absent_iff s st).2 hp).symm)
    have hchange : ¬(s.stageState st = s.stageUnder cfg st ∨ s.stageState st = .absent ∨ s.stageUnder cfg st = .absent) := by
      rw [stageUnder_absent_iff, stageState_absent_iff]
      rintro (h' | h' | h')
      · exact h h'.symm
      · exact hpresent h'
      · exact hpresent h'
    rw [if_neg hchange, if_neg h]

/-- The stages are judged under the thresholds in force. -/
theorem stageUnder_of_filters {t s : State} (hb : t.crd = s.crd) (hf : t.fau.accounts = s.fau.accounts) (st : Stage) :
    t.stageState st = s.stageUnder t.sst.settings.filters st := by
  rw [State.stageState, stageState_eq_stateBy, State.stageUnder, State.stagePresent, State.stagePresent, hb, hf]

theorem filterEvents_eq {c s : State} (hc : c.crd = s.crd) (hf : c.fau.accounts = s.fau.accounts) :
    c.filterEvents s = [Stage.pre, .carb, .fine].foldl (s.refiltered c.sst.settings.filters) c := by
  have hstep : ∀ u : State, u.sameBasis c → ∀ st,
      u.postFilter st (s.stageState st) (u.stageState st) = s.refiltered c.sst.settings.filters u st := by
    intro u hu st
    rw [stageState_congr hu, stageUnder_of_filters hc hf, postFilter_eq_refiltered]
  have hkeep : ∀ u : State, u.sameBasis c → ∀ st, (s.refiltered c.sst.settings.filters u st).sameBasis c := by
    intro u hu st
    rw [← hstep u hu st]
    exact sameBasis_trans (postFilter_sameBasis _ _ _ _) hu
  have h0 := sameBasis_refl c
  have h1 := hkeep c h0 .pre
  have h2 := hkeep _ h1 .carb
  simp only [State.filterEvents, List.foldl_cons, List.foldl_nil]
  rw [hstep c h0, hstep _ h1, hstep _ h2]

end Sys2Proof.Machine
end

section
namespace Sys2Proof.Machine

/-! ### Checkpoints asked for stay asked for (R188) -/

/-- The regions are asked for, and a later request will only add to them. -/
def State.stillAsked (t : State) (rs : RegionSet) : Prop :=
  t.asked rs ∧ (t.sst.writing = none → t.sst.closing = true)

theorem joinPending_keeps_asked {s : State} {rs : RegionSet} (h : s.asked rs) (x : RegionSet) :
    (s.joinPending x).asked rs := by
  intro r hr
  rcases h r hr with hw | hp
  · exact Or.inl hw
  · exact Or.inr ((has_union _ _ _).2 (Or.inl hp))

theorem request_keeps_stillAsked {s : State} {rs : RegionSet} (h : s.stillAsked rs) (x : RegionSet) :
    (s.request x).stillAsked rs := by
  obtain ⟨ha, hc⟩ := h
  have hjoin : s.request x = s.joinPending x := by
    unfold State.request
    split
    · rename_i hw
      rw [if_pos (hc hw)]
    · rfl
  rw [hjoin]
  exact ⟨joinPending_keeps_asked ha x, hc⟩

theorem request_stillAsked (s : State) (rs : RegionSet) : (s.request rs).stillAsked rs := by
  refine ⟨request_asked s rs, ?_⟩
  unfold State.request
  repeat' split
  · exact fun _ => ‹_›
  · intro h
    simp [State.beginWrite] at h
  · intro h
    simp_all [State.joinPending]

theorem stillAsked_of_sst {t s : State} (h : t.sst = s.sst) {rs : RegionSet} (k : s.stillAsked rs) :
    t.stillAsked rs := by
  obtain ⟨ha, hc⟩ := k
  exact ⟨asked_of_sst h ha, by rw [h]; exact hc⟩

/-! ### The FILTER events of new thresholds (R67, R83) -/

theorem request_onlyFlags (s : State) (rs : RegionSet) : (s.request rs).onlyFlags s := onlyFlags_of_prt (by simp)

theorem refiltered_onlyFlags (s : State) (cfg : FiltersConfig) (u : State) (st : Stage) :
    (s.refiltered cfg u st).onlyFlags u := by
  have hy := onlyFlags_trans (log_onlyFlags (u.postAll .filter) (.filterState st (s.stageUnder cfg st)))
    (raise_onlyFlags u _)
  unfold State.refiltered
  dsimp only
  repeat' split
  · exact onlyFlags_of_prt rfl
  · exact onlyFlags_trans (request_onlyFlags _ _) hy
  · exact hy

theorem refiltered_keeps_stillAsked (s : State) (cfg : FiltersConfig) {u : State} {rs : RegionSet} (h : u.stillAsked rs)
    (st : Stage) : (s.refiltered cfg u st).stillAsked rs := by
  have hy : ((u.postAll .filter).log (.filterState st (s.stageUnder cfg st))).stillAsked rs :=
    stillAsked_of_sst (by simp) h
  unfold State.refiltered
  dsimp only
  repeat' split
  · exact h
  · exact request_keeps_stillAsked hy _
  · exact hy

/-- A stage that changes posts FILTER; one that becomes WORN or EXHAUSTED asks for the FILTERS region. -/
theorem refiltered_changed {s : State} {cfg : FiltersConfig} {st : Stage} (h : s.stageUnder cfg st ≠ s.stageState st)
    (u : State) :
    (s.refiltered cfg u st).flagOnAll .filter ∧
      (s.stageUnder cfg st = .worn ∨ s.stageUnder cfg st = .exhausted →
        (s.refiltered cfg u st).stillAsked (.single .filters)) := by
  have hy := flagOnAll_mono (log_onlyFlags (u.postAll .filter) (.filterState st (s.stageUnder cfg st))) _
    (postAll_flagOnAll u .filter)
  rw [State.refiltered, if_neg h]
  split
  · exact ⟨flagOnAll_mono (request_onlyFlags _ _) _ hy, fun _ => request_stillAsked _ _⟩
  · exact ⟨hy, fun hf => absurd hf ‹_›⟩

theorem mem_stages (st : Stage) : st ∈ [Stage.pre, .carb, .fine] := by cases st <;> simp

/-- The three stages judged in turn, each with its flag and its checkpoint. -/
theorem refilter_all {s : State} {cfg : FiltersConfig} {st : Stage} (h : s.stageUnder cfg st ≠ s.stageState st)
    (u : State) :
    ([Stage.pre, .carb, .fine].foldl (s.refiltered cfg) u).flagOnAll .filter ∧
      (s.stageUnder cfg st = .worn ∨ s.stageUnder cfg st = .exhausted →
        ([Stage.pre, .carb, .fine].foldl (s.refiltered cfg) u).stillAsked (.single .filters)) := by
  refine ⟨?_, fun hf => ?_⟩
  · exact foldl_establishes (P := fun t => t.flagOnAll .filter)
      (fun t x ht => flagOnAll_mono (refiltered_onlyFlags s cfg t x) _ ht) (mem_stages st)
      (fun t => (refiltered_changed h t).1) u
  · exact foldl_establishes (P := fun t => t.stillAsked (.single .filters))
      (fun t x ht => refiltered_keeps_stillAsked s cfg ht x) (mem_stages st)
      (fun t => (refiltered_changed h t).2 hf) u

/-! ### The FULL flag and the automatic start under new marks (R132, R135, R138) -/

/-- The FULL flag that a derivation outside an entry to PRESENT gives, by the level held. -/
theorem nextFull_eq (s : State) :
    (s.cdc.presence ≠ .present → s.nextFull false = false) ∧
    (s.cdc.presence = .present →
      (s.level = .unknown ∨ s.level = .full → s.nextFull false = true) ∧
      (∀ n, s.level = .ml n → s.nextFull false =
        if s.tankCfg.full ≤ n then true else if n ≤ s.tankCfg.resume then false else s.cdc.full) ∧
      (s.level = .belowHigh ∨ s.level = .high → s.nextFull false = (s.cdc.full && !s.cdc.released))) := by
  refine ⟨fun h => if_pos h, fun hp => ⟨?_, fun n hl => nextFull_of_ml (method_of_level_ml hl) hp hl, fun hl => ?_⟩⟩
  · intro hl
    unfold State.nextFull
    cases hm : s.method <;> rcases hl with hl | hl <;> simp [hp, hl]
  · have hm : s.method = .floats := by
      cases hm : s.method with
      | floats => rfl
      | probe =>
        cases hpl : s.probeLevel with
        | none => simp [level_of_no_probeLevel hm hpl] at hl
        | some n => simp [level_of_probeLevel hm hpl] at hl
    unfold State.nextFull
    rcases hl with hl | hl <;> cases s.cdc.released <;> simp [hp, hl, hm]

/-! ### One group comes into force (R186) -/

theorem regrouped_of_ports {s : State} {new : Settings} (g : GroupTaken s.sst.settings new)
    (h : new.ports ≠ s.sst.settings.ports) : s.regrouped new = (s.withConfig new).takeRanks := by
  cases g with
  | ports x _ => exact regrouped_ports h
  | _ => exact absurd rfl h

theorem regrouped_of_terminals {s : State} {new : Settings} (g : GroupTaken s.sst.settings new)
    (h : new.terminals ≠ s.sst.settings.terminals) :
    new.terminals.ok = true ∧
      s.regrouped new = ((s.withConfig new).takeTerminals s.sst.settings.terminals).cdcTake := by
  cases g with
  | terminals x hok => exact ⟨hok, regrouped_terminals h⟩
  | _ => exact absurd rfl h

theorem regrouped_of_tank {s : State} {new : Settings} (g : GroupTaken s.sst.settings new)
    (h : new.tank ≠ s.sst.settings.tank) :
    new.terminals = s.sst.settings.terminals ∧ s.regrouped new = (s.withConfig new).cdcTake := by
  cases g with
  | tank x _ _ => exact ⟨rfl, regrouped_tank h⟩
  | _ => exact absurd rfl h

theorem regrouped_of_filters {s : State} {new : Settings} (g : GroupTaken s.sst.settings new)
    (h : new.filters ≠ s.sst.settings.filters) :
    s.regrouped new = [Stage.pre, .carb, .fine].foldl (s.refiltered new.filters) (s.withConfig new) := by
  cases g with
  | filters x _ =>
    rw [regrouped_filters h]
    exact filterEvents_eq rfl rfl
  | _ => exact absurd rfl h

/-! ### The inputs and the demands after a WRITE-CONFIG -/

/-- An input as a new assignment leaves it. -/
def SwitchInput.under (f g : MfFunction) (x : SwitchInput) : SwitchInput :=
  if f = g then x else if g = .none ∨ g = .probe then ⟨false, false, none⟩ else ⟨false, false, some 0⟩

theorem under_eq (f g : MfFunction) (x : SwitchInput) : x.under f g = if f = g then x else freshInput g := by
  unfold SwitchInput.under
  cases g <;> rfl

theorem reassign_eq (x : Sfe) (a b : Terminals) : x.reassign a b = { x with
    mf0 := x.mf0.under a.mf0 b.mf0, mf1 := x.mf1.under a.mf1 b.mf1, mf2 := x.mf2.under a.mf2 b.mf2
    probe := if a.mf0 = b.mf0 then x.probe else ⟨[], 0⟩ } := by
  simp only [under_eq]
  rfl

theorem reassign_self (x : Sfe) (a : Terminals) : x.reassign a a = x := by simp only [Sfe.reassign, if_true]

theorem regrouped_sfe_of_terminals {s : State} {new : Settings} (h : new.terminals = s.sst.settings.terminals) :
    (s.regrouped new).sfe = s.sfe := by
  simp [State.regrouped, h, apply_ite State.sfe, State.withConfig]

theorem regrouped_dar_of_ports {s : State} {new : Settings} (h : new.ports = s.sst.settings.ports) :
    (s.regrouped new).dar = s.dar := by
  simp [State.regrouped, h, apply_ite State.dar, State.withConfig]

/-- The inputs after a WRITE-CONFIG (R15). -/
theorem applyConfig_sfe {s : State} {new : Settings} (g : GroupTaken s.sst.settings new) :
    (s.applyConfig new).sfe = s.sfe.reassign s.sst.settings.terminals new.terminals := by
  by_cases hn : new = s.sst.settings
  · rw [hn, applyConfig_same, reassign_self]
  obtain ⟨hsfe, -, -, -⟩ := applyConfig_blocks hn
  rw [hsfe]
  by_cases ht : new.terminals = s.sst.settings.terminals
  · rw [regrouped_sfe_of_terminals ht, ht, reassign_self]
  · obtain ⟨-, hv⟩ := regrouped_of_terminals g ht
    have htake : ((s.withConfig new).takeTerminals s.sst.settings.terminals).cdcTake.sfe =
        ((s.withConfig new).takeTerminals s.sst.settings.terminals).sfe := by simp
    rw [hv, htake, takeTerminals_sfe]
    rfl

/-- A probe that loses its terminal posts SENSOR where it had readings (R16). -/
theorem applyConfig_sensor {s : State} {new : Settings} (g : GroupTaken s.sst.settings new)
    (hm : s.sst.settings.terminals.mf0 ≠ new.terminals.mf0) (hw : s.sfe.probe.window ≠ []) :
    (s.applyConfig new).flagOnAll .sensor := by
  have ht : new.terminals ≠ s.sst.settings.terminals := fun h => hm (by rw [h])
  obtain ⟨-, -, -, hflags⟩ := applyConfig_blocks (fun h => ht (congrArg _ h))
  obtain ⟨-, hv⟩ := regrouped_of_terminals g ht
  have hlost : ((s.withConfig new).reassigned s.sst.settings.terminals).flagOnAll .sensor :=
    reassigned_flagOnAll hm hw
  refine flagOnAll_mono hflags _ ?_
  rw [hv]
  exact flagOnAll_mono (onlyFlags_trans (cdcTake_onlyFlags _) (takeTerminals_onlyFlags _ _)) _ hlost

/-- The demands after a WRITE-CONFIG that changes no rank. -/
theorem applyConfig_dar {s : State} {new : Settings} (h : new.ports = s.sst.settings.ports) :
    (s.applyConfig new).dar = s.dar := by
  by_cases hn : new = s.sst.settings
  · rw [hn, applyConfig_same]
  obtain ⟨-, -, hdar, -⟩ := applyConfig_blocks hn
  rw [hdar, regrouped_dar_of_ports h]

/-- The demands after a change of the ranks (R34, R35). -/
theorem applyConfig_ranks {s : State} {new : Settings} (g : GroupTaken s.sst.settings new)
    (h : new.ports ≠ s.sst.settings.ports) :
    (∀ e ∈ (s.applyConfig new).dar.table, e.rank = new.ports.get e.origin ∧ e.rank ≠ .off) ∧
      (s.applyConfig new).dar.table.map (fun e => (e.ref, e.ask, e.remaining)) =
        (s.dar.table.filter (fun e => new.ports.get e.origin ≠ .off)).map (fun e => (e.ref, e.ask, e.remaining)) ∧
      ∀ e ∈ s.dar.table, new.ports.get e.origin = .off → (s.applyConfig new).flagOn e.origin .expired := by
  obtain ⟨-, -, hdar, hflags⟩ := applyConfig_blocks (fun k => h (congrArg _ k))
  rw [regrouped_of_ports g h] at hdar hflags
  obtain ⟨hranks, hmap⟩ := takeRanks_table (s.withConfig new)
  rw [hdar]
  exact ⟨hranks, hmap, fun e he hoff => flagOn_mono hflags (takeRanks_flagOn he hoff)⟩

/-! ### The tank and the filters after a WRITE-CONFIG -/

/-- A change of the level method removes the sequence's record, with PUMP (R135). -/
theorem applyConfig_method {s : State} {new : Settings} (g : GroupTaken s.sst.settings new)
    (hold : s.sst.settings.terminals.ok = true)
    (h : new.terminals.method ≠ s.sst.settings.terminals.method) :
    (s.applyConfig new).cdc.seq = none ∧ (s.cdc.seq ≠ none → (s.applyConfig new).flagOnAll .pump) := by
  have ht : new.terminals ≠ s.sst.settings.terminals := fun k => h (by rw [k])
  obtain ⟨-, hcdc, -, hflags⟩ := applyConfig_blocks (fun k => ht (congrArg _ k))
  obtain ⟨hok, hv⟩ := regrouped_of_terminals g ht
  have hlevel := takeTerminals_level (s := s.withConfig new) hold hok h
  obtain ⟨hseq, -⟩ := cdcTake_rests (not_startsAuto_of_unknown hlevel)
  have htake : (s.withConfig new).takeTerminals s.sst.settings.terminals =
      ((s.withConfig new).reassigned s.sst.settings.terminals).takeMethod := by
    rw [takeTerminals_eq]
    exact if_neg h.symm
  obtain ⟨-, hkept⟩ := reassigned_kept (s.withConfig new) s.sst.settings.terminals
  obtain ⟨hnone, hpump⟩ := takeMethod_seq ((s.withConfig new).reassigned s.sst.settings.terminals)
  rw [hv] at hcdc hflags
  refine ⟨?_, fun hs => flagOnAll_mono (onlyFlags_trans hflags (cdcTake_onlyFlags _)) _ ?_⟩
  · rw [hcdc, hseq, htake, hnone]
  · rw [htake]
    exact hpump (by rw [hkept]; exact hs)

/-- The conditions of the automatic start under a set of tank values. -/
def State.startsUnder (s : State) (marks : TankConfig) : Prop :=
  marks.drain = .pump ∧ s.cdc.presence = .present ∧ (∀ q, s.cdc.seq = some q → q.status = .complete) ∧
    ((∃ n, s.level = .ml n ∧ marks.pumpStart ≤ n) ∨ s.level = .high ∨ s.level = .full)

/-- New tank values are taken by the CDC on the level it holds (R132, R135, R138). -/
theorem applyConfig_tank {s : State} {new : Settings} (g : GroupTaken s.sst.settings new)
    (h : new.tank ≠ s.sst.settings.tank) :
    let w := s.applyConfig new
    let marks := new.tank
    ((s.cdc.presence ≠ .present → w.cdc.full = false) ∧
      (s.cdc.presence = .present →
        (s.level = .unknown ∨ s.level = .full → w.cdc.full = true) ∧
        (∀ n, s.level = .ml n → w.cdc.full =
          if marks.full ≤ n then true else if n ≤ marks.resume then false else s.cdc.full) ∧
        (s.level = .belowHigh ∨ s.level = .high → w.cdc.full = (s.cdc.full && !s.cdc.released)))) ∧
    (s.cdc.presence = .present → w.cdc.full ≠ s.cdc.full → w.flagOnAll .tank) ∧
    (s.startsUnder marks → w.cdc.pump = true ∧ ∃ q, w.cdc.seq = some q ∧ q.status = .running ∧ q.origin = .auto ∧
      q.phase = some .prime ∧ q.startLevel = s.level ∧
      ∀ n, s.level = .ml n → q.target = some (n - marks.empty) ∧ q.remaining = some (n - marks.empty) ∧
        q.moved = some 0) ∧
    (¬s.startsUnder marks → w.cdc.seq = s.cdc.seq ∧ w.cdc.pump = s.cdc.pump) := by
  intro w marks
  obtain ⟨-, hcdc, -, hflags⟩ := applyConfig_blocks (fun k => h (congrArg _ k))
  obtain ⟨hterm, hv⟩ := regrouped_of_tank g h
  rw [hv] at hcdc hflags
  have hlevel : (s.withConfig new).level = s.level := by
    simp only [State.level, State.withConfig, setSst_sst, hterm]
    rfl
  have hfull : w.cdc.full = (s.withConfig new).nextFull false := (congrArg Cdc.full hcdc).trans (cdcTake_full _)
  have hstarts : (s.withConfig new).startsAuto ↔ s.startsUnder marks := by
    rw [State.startsAuto, levelStarts_eq, hlevel]
    exact ⟨fun ⟨hd, hp, hl, hf⟩ => ⟨hd, hp, hf, hl⟩, fun ⟨hd, hp, hf, hl⟩ => ⟨hd, hp, hl, hf⟩⟩
  refine ⟨?_, fun hp hc => flagOnAll_mono hflags _ (cdcTake_flagOnAll hp (hfull ▸ hc)), fun hs => ?_, fun hs => ?_⟩
  · have hnext := nextFull_eq (s.withConfig new)
    rw [hlevel, ← hfull] at hnext
    exact hnext
  · obtain ⟨hpump, q, hq, hrun, hphase, horigin, -, hstart, hml⟩ := cdcTake_starts (hstarts.2 hs)
    rw [hlevel] at hstart hml
    rw [show w.cdc = _ from hcdc]
    exact ⟨hpump, q, hq, hrun, horigin, hphase, hstart, hml⟩
  · rw [show w.cdc = _ from hcdc]
    exact cdcTake_rests (fun k => hs (hstarts.1 k))

/-- New thresholds judge each stage again (R66, R67, R83). -/
theorem applyConfig_filters {s : State} {new : Settings} (g : GroupTaken s.sst.settings new)
    (h : new.filters ≠ s.sst.settings.filters) (st : Stage) :
    let w := s.applyConfig new
    let f := s.stageUnder new.filters st
    w.stageState st = f ∧ (f ≠ s.stageState st → w.flagOnAll .filter ∧
      (f = .worn ∨ f = .exhausted → w.asked (.single .filters))) := by
  intro w f
  have hn : new ≠ s.sst.settings := fun k => h (congrArg _ k)
  obtain ⟨hset, hcrd, hacc, -, -, -⟩ := applyConfig_basis hn
  obtain ⟨-, -, -, hflags⟩ := applyConfig_blocks hn
  have hv := regrouped_of_filters g h
  refine ⟨(stageUnder_of_filters hcrd hacc st).trans (by rw [hset]), fun hf => ?_⟩
  obtain ⟨hflag, hasked⟩ := refilter_all hf (s.withConfig new)
  rw [← hv] at hflag hasked
  refine ⟨flagOnAll_mono hflags _ hflag, fun hworn => ?_⟩
  have hsettled := stillAsked_of_sst (settle_sst (s.regrouped new)) (hasked hworn)
  rw [show w = _ from applyConfig_changed hn]
  exact (request_keeps_stillAsked hsettled _).1

end Sys2Proof.Machine
end

section
namespace Sys2Proof.Machine

/-! ### WRITE-CONFIG (R185, R186) -/

/-- The states that refuse a WRITE-CONFIG. -/
theorem configBusy_iff (s : State) : s.configBusy = true ↔
    s.drc.state = .pulldown ∨ s.drc.state = .running ∨ s.drc.state = .defrost ∨
      ∃ q, s.cdc.seq = some q ∧ q.status = .running := by
  have hpump : s.pumping = true ↔ ∃ q, s.cdc.seq = some q ∧ q.status = .running := by
    unfold State.pumping
    cases s.cdc.seq <;> simp
  simp only [State.configBusy, DryState.on, Bool.or_eq_true, beq_iff_eq, hpump, or_assoc]

theorem cmdWriteConfig_unknown {s : State} {p : Port} {pl : List Byte} (h : 7 < arg1 pl 0) :
    cmdWriteConfig s p pl = (s, ⟨.badArg, []⟩) := if_pos h

theorem cmdWriteConfig_busy {s : State} {p : Port} {pl : List Byte} (h : arg1 pl 0 ≤ 7) (hb : s.configBusy = true) :
    cmdWriteConfig s p pl = (s, ⟨.wrongState, []⟩) := by
  rw [cmdWriteConfig, if_neg (by omega), if_pos hb]

theorem cmdWriteConfig_bad {s : State} {p : Port} {pl : List Byte} (h : arg1 pl 0 ≤ 7) (hb : ¬s.configBusy = true)
    (hc : configOf s.sst.settings pl = .bad) : cmdWriteConfig s p pl = (s, ⟨.badArg, []⟩) := by
  rw [cmdWriteConfig, if_neg (by omega), if_neg hb, hc]

theorem cmdWriteConfig_taken {s : State} {p : Port} {pl : List Byte} {new : Settings} {c : Bool}
    (h : arg1 pl 0 ≤ 7) (hb : ¬s.configBusy = true) (hc : configOf s.sst.settings pl = .taken new c) :
    cmdWriteConfig s p pl = (s.applyConfig new, ⟨if c then .adjusted else .ok, []⟩) := by
  rw [cmdWriteConfig, if_neg (by omega), if_neg hb, hc]

/-- The change of the terminals, with the inputs that it leaves given. -/
theorem takeTerminals_written {c : State} {a : Terminals} {y : Sfe}
    (hy : y = c.sfe.reassign a c.sst.settings.terminals) :
    let b := c.sst.settings.terminals
    let u := c.setSfe y
    let lost := if a.mf0 ≠ b.mf0 ∧ c.sfe.probe.window ≠ [] then (u.postAll .sensor).log (.sensor .probe false) else u
    let emptied := lost.setCdc { lost.cdc with
      release := if b.method = .floats then some 0 else none, released := false, seq := none }
    c.takeTerminals a = if a.method = b.method then lost
      else if c.cdc.seq = none then emptied else emptied.postAll .pump := by
  subst hy
  obtain ⟨hsst, hcdc⟩ := reassigned_kept c a
  have hseq : (c.reassigned a).cdc.seq = c.cdc.seq := by rw [hcdc]
  rw [takeTerminals_eq, takeMethod_eq, State.method, hsst, hseq]
  rfl

theorem terminals_ok_of_valid {x : Settings} (h : x.valid = true) : x.terminals.ok = true := by
  simp only [Settings.valid, Bool.and_eq_true, and_assoc] at h
  obtain ⟨-, hok, -⟩ := h
  exact hok

/-- A WRITE-CONFIG puts its CONFIG in force and leaves the two banks, changed or not. -/
theorem applyConfig_kept (s : State) (new : Settings) :
    (s.applyConfig new).sst.settings = new ∧ (s.applyConfig new).afc.bankA = s.afc.bankA ∧
      (s.applyConfig new).afc.bankB = s.afc.bankB := by
  by_cases hn : new = s.sst.settings
  · rw [hn, applyConfig_same]
    exact ⟨rfl, rfl, rfl⟩
  · obtain ⟨hset, -, -, ha, hb, -⟩ := applyConfig_basis hn
    exact ⟨hset, ha, hb⟩

theorem sameBut_mono {t s : State} {ps qs : List Part} (h : t.sameBut s ps) (hsub : ∀ b ∈ ps, b ∈ qs) :
    t.sameBut s qs := by
  intro b hb
  have hq : b ∉ qs := by simpa using hb
  exact h b (by simpa using fun k => hq (hsub b k))

/-- The bytes of a curve are accepted exactly under the conditions of R46. -/
theorem curveGiven_acceptable_iff (pl : List Byte) : (curveGiven pl).acceptable = true ↔
    (curveGiven pl).head? = some ⟨0, 0⟩ ∧ (∀ x ∈ (curveGiven pl).tail, x.duty ≠ 0 ∧ x.qnom ≠ 0) ∧
      ∀ (i : Nat) (x y : CurvePoint), (curveGiven pl).clamped[i]? = some x →
        (curveGiven pl).clamped[i + 1]? = some y → x.duty ≤ y.duty ∧ x.qnom ≤ y.qnom := by
  rw [bank_acceptable_iff (by simp [curveGiven]), bank_ordered_iff]

/-- Settles O52: the bytes of each group, the refusals, and what every owner does with a group that is taken. -/
theorem writeConfigTakesAGroup : Obligations.WriteConfigTakesAGroup := by
  refine ⟨terminals_ok_iff, ?_, ?_⟩
  · intro cfg word clamp rank function takes
    refine ⟨configOf_ports cfg, configOf_terminals cfg, configOf_tank cfg, configOf_airflow cfg, configOf_drying cfg,
      configOf_filters cfg, fun pl _ h => configOf_untagged cfg h, fun pl _ h => ?_⟩
    intro given b good
    have hgood : (curveGiven pl).acceptable = true ↔ good := curveGiven_acceptable_iff pl
    exact ⟨fun hg => (configOf_curve cfg h).trans (if_pos (hgood.2 hg)),
      fun hg => (configOf_curve cfg h).trans (if_neg (fun k => hg (hgood.1 k)))⟩
  · intro s tag pl htakes hfits old busy refused
    have hbusy : (s.heard .service).configBusy = true ↔ busy := configBusy_iff _
    have hrefused : ∀ st, cmdWriteConfig (s.heard .service) .service pl = (s.heard .service, ⟨st, []⟩) → refused st :=
      fun st hy => exec_read htakes rfl hfits rfl hy
    refine ⟨fun h => hrefused _ (cmdWriteConfig_unknown h),
      fun h hb => hrefused _ (cmdWriteConfig_busy h (hbusy.2 hb)),
      fun h hb hc => hrefused _ (cmdWriteConfig_bad h (fun k => hb (hbusy.1 k)) hc), fun new clamped h hb hc => ?_⟩
    have g : GroupTaken (s.heard .service).sst.settings new := configOf_taken hc
    have hy := cmdWriteConfig_taken (p := .service) h (fun k => hb (hbusy.1 k)) hc
    obtain ⟨t, ht, hans, honly⟩ := receive_handled (tag := tag) htakes hfits rfl hy
    have hsfe : ((s.heard .service).applyConfig new).sfe = s.sfe.reassign old.terminals new.terminals :=
      applyConfig_sfe g
    refine ⟨g.valid, (s.heard .service).applyConfig new, t, congrArg _ ht, hans, honly, ?_, ?_, ?_, ?_, ?_, ?_, ?_,
      applyConfig_ranks g, applyConfig_dar (s := s.heard .service), ⟨?_, applyConfig_sensor g⟩, ?_, ?_⟩
    · exact (applyConfig_kept _ _).1
    · exact (applyConfig_kept _ _).2.1
    · exact (applyConfig_kept _ _).2.2
    · exact fun hn => (congrArg _ hn).trans (applyConfig_same _)
    · intro hn
      obtain ⟨-, -, -, -, -, hfloor⟩ := applyConfig_basis (s := s.heard .service) hn
      have hw := applyConfig_changed (s := s.heard .service) hn
      refine ⟨by rw [hw]; exact request_asked _ _, hfloor, ?_⟩
      intro c derived a b gone kept dropped refiltered lost emptied
      refine ⟨(s.heard .service).regrouped new, _, settle_handsOn _, hw, ?_, ?_, ?_, ?_, ?_⟩
      · exact fun hp ht hk hf => regrouped_others hp ht.symm hk hf
      · exact fun hp => (regrouped_of_ports g hp).trans (takeRanks_eq _)
      · intro hab
        obtain ⟨-, hv⟩ := regrouped_of_terminals g (Ne.symm hab)
        exact hv.trans (congrArg State.cdcTake (takeTerminals_written hsfe))
      · exact fun hk => (regrouped_of_tank g hk).2
      · exact fun hf => regrouped_of_filters g hf
    · intro hk marks starts
      obtain ⟨⟨hab, hpr⟩, hrest⟩ := applyConfig_tank g hk
      refine ⟨?_, hrest⟩
      by_cases hp : s.cdc.presence = .present
      · obtain ⟨htop, hml, hlow⟩ := hpr hp
        rw [if_neg (by simp [hp])]
        split
        · exact htop (Or.inl ‹_›)
        · exact htop (Or.inr ‹_›)
        · exact hml _ ‹_›
        · exact hlow (Or.inl ‹_›)
        · exact hlow (Or.inr ‹_›)
      · rw [if_pos hp]
        exact hab hp
    · exact applyConfig_filters g
    · exact hsfe.trans (reassign_eq _ _ _)
    · exact fun hlaw hm => applyConfig_method g (terminals_ok_of_valid hlaw) hm
    · obtain ⟨hheard, -⟩ := heard_onlyAnswers s .service
      exact sameBut_trans (applyConfig_sameBut _ _) (sameBut_mono hheard (by decide))

end Sys2Proof.Machine
end

-- The demand table: the order of strength, standings, and the plan content resolved from a table.
section
namespace Sys2Proof.Machine

/-! ### The order of strength (R38) -/

theorem rank_num_inj {a b : Rank} : a.num = b.num ↔ a = b := by
  cases a <;> cases b <;> simp [Rank.num]

theorem portWeight_inj {p q : Port} : portWeight p = portWeight q ↔ p = q := by
  cases p <;> cases q <;> simp [portWeight]

/-- The order of strength compares the ranks, then the weights of the ports, then the places. -/
theorem stronger_iff (x y : Demand) (i j : Nat) : x.stronger i y j ↔
    y.rank.num < x.rank.num ∨ (y.rank.num = x.rank.num ∧
      (portWeight y.origin < portWeight x.origin ∨ (portWeight y.origin = portWeight x.origin ∧ j < i))) := by
  rw [Demand.stronger, rank_num_inj, portWeight_inj]

/-- `x.overtakes y` says that a newer `x` is stronger than `y`. -/
theorem overtakes_iff_stronger {x y : Demand} {i j : Nat} (h : j < i) : x.overtakes y = true ↔ x.stronger i y j := by
  simp only [Demand.overtakes, stronger_iff, h, and_true, Bool.or_eq_true, Bool.and_eq_true, decide_eq_true_eq,
    beq_iff_eq]
  omega

theorem stronger_total {x y : Demand} {i j : Nat} (h : i ≠ j) : x.stronger i y j ∨ y.stronger j x i := by
  rw [stronger_iff, stronger_iff]
  omega

theorem stronger_asymm {x y : Demand} {i j : Nat} : ¬(x.stronger i y j ∧ y.stronger j x i) := by
  rw [stronger_iff, stronger_iff]
  omega

theorem stronger_trans {x y z : Demand} {i j k : Nat} (h : x.stronger i y j) (l : y.stronger j z k) :
    x.stronger i z k := by
  rw [stronger_iff] at *
  omega

/-- Only the order of the places matters, not how far along the table they are. -/
theorem stronger_succ {x y : Demand} {i j : Nat} : x.stronger (i + 1) y (j + 1) ↔ x.stronger i y j := by
  rw [stronger_iff, stronger_iff]
  omega

/-! ### The strongest entry -/

theorem strongest_eq_none {t : List Demand} : strongest t = none ↔ t = [] := by
  cases t with
  | nil => simp [strongest]
  | cons x xs =>
    simp only [strongest]
    split
    · simp
    · split <;> simp

/-- `g` stands in `t`, satisfies `p`, and is stronger than every other entry of `t` that satisfies `p`. -/
def Demand.strongestIn (g : Demand) (p : Demand → Bool) (t : List Demand) : Prop :=
  ∃ i : Nat, t[i]? = some g ∧ p g = true ∧
    ∀ (j : Nat) (y : Demand), t[j]? = some y → p y = true → j ≠ i → g.stronger i y j

/-- The strongest of the entries that satisfy `p` is stronger than every other one, by its place in the whole
table. -/
theorem strongest_filter {p : Demand → Bool} {t : List Demand} {g : Demand} (h : strongest (t.filter p) = some g) :
    g.strongestIn p t := by
  induction t generalizing g with
  | nil => simp [strongest] at h
  | cons x xs ih =>
    by_cases hx : p x = true
    · rw [List.filter_cons_of_pos hx, strongest] at h
      cases hs : strongest (xs.filter p) with
      | none =>
        -- `x` alone satisfies `p`
        rw [hs] at h
        obtain rfl := Option.some.inj h
        refine ⟨0, rfl, hx, fun j y hj hy hne => ?_⟩
        obtain ⟨k, rfl⟩ := Nat.exists_eq_succ_of_ne_zero hne
        have hmem : y ∈ xs.filter p := List.mem_filter.2 ⟨List.mem_of_getElem? hj, hy⟩
        rw [strongest_eq_none.1 hs] at hmem
        exact absurd hmem List.not_mem_nil
      | some y =>
        obtain ⟨i, hi, hpy, hbest⟩ := ih hs
        rw [hs] at h
        dsimp only at h
        by_cases ho : y.overtakes x = true
        · rw [if_pos ho] at h
          obtain rfl := Option.some.inj h
          refine ⟨i + 1, hi, hpy, fun j z hj hz hne => ?_⟩
          cases j with
          | zero =>
            obtain rfl := Option.some.inj hj
            exact (overtakes_iff_stronger (Nat.succ_pos i)).1 ho
          | succ j => exact stronger_succ.2 (hbest j z hj hz (by omega))
        · rw [if_neg ho] at h
          obtain rfl := Option.some.inj h
          have hxy : x.stronger 0 y (i + 1) := (stronger_total (Nat.succ_ne_zero i)).resolve_left
            (fun k => ho ((overtakes_iff_stronger (Nat.succ_pos i)).2 k))
          refine ⟨0, rfl, hx, fun j z hj hz hne => ?_⟩
          obtain ⟨k, rfl⟩ := Nat.exists_eq_succ_of_ne_zero hne
          by_cases hk : k = i
          · subst hk
            obtain rfl := Option.some.inj (hi.symm.trans hj)
            exact hxy
          · exact stronger_trans hxy (stronger_succ.2 (hbest k z hj hz hk))
    · rw [List.filter_cons_of_neg hx] at h
      obtain ⟨i, hi, hpg, hbest⟩ := ih h
      refine ⟨i + 1, hi, hpg, fun j y hj hy hne => ?_⟩
      cases j with
      | zero => exact absurd ((Option.some.inj hj) ▸ hy) hx
      | succ j => exact stronger_succ.2 (hbest j y hj hy (by omega))

theorem Demand.strongestIn.mem {g : Demand} {p : Demand → Bool} {t : List Demand} (h : g.strongestIn p t) : g ∈ t := by
  obtain ⟨i, hi, -⟩ := h
  exact List.mem_of_getElem? hi

/-- Settles O27: the order compares ranks, ports and places as numbers, and `strongest` keeps the stronger of two. -/
theorem strengthIsTotalAndStrongestIsStrongest : Obligations.StrengthIsTotalAndStrongestIsStrongest := by
  unfold Obligations.StrengthIsTotalAndStrongestIsStrongest
  refine ⟨fun x y i j h => ⟨stronger_total h, stronger_asymm⟩, fun x y i j h => Or.inl h, by decide,
    fun x y i j k h => h, fun t ht => ?_⟩
  obtain ⟨x, hx⟩ := Option.ne_none_iff_exists'.1 (fun h => ht (strongest_eq_none.1 h))
  have hall : t.filter (fun _ => true) = t := List.filter_eq_self.2 (fun _ _ => rfl)
  obtain ⟨i, hi, -, hbest⟩ := strongest_filter (hall.symm ▸ hx)
  exact ⟨x, i, hx, hi, fun y j hj hne => hbest j y hj rfl hne⟩

/-! ### Keys: one entry at most for a port and slot (R23) -/

theorem sameKey_iff (x y : Demand) : x.sameKey y = true ↔ x.ref = y.ref := by
  simp [Demand.sameKey, Demand.ref]

theorem eq_of_ref_eq {t : List Demand} (h : (t.map Demand.ref).Nodup) {x y : Demand} (hx : x ∈ t) (hy : y ∈ t)
    (hr : x.ref = y.ref) : x = y := by
  induction t with
  | nil => exact absurd hx List.not_mem_nil
  | cons z zs ih =>
    obtain ⟨hz, hzs⟩ := List.nodup_cons.1 h
    have hnew : ∀ w ∈ zs, z.ref ≠ w.ref := fun w hw e => hz (e ▸ List.mem_map_of_mem hw)
    rcases List.mem_cons.1 hx with hxz | hxs
    · rcases List.mem_cons.1 hy with hyz | hys
      · exact hxz.trans hyz.symm
      · exact absurd (hxz ▸ hr) (hnew y hys)
    · rcases List.mem_cons.1 hy with hyz | hys
      · exact absurd (hyz ▸ hr.symm) (hnew x hxs)
      · exact ih hzs hxs hys

/-! ### The halting and the governing entries (R39) -/

theorem haltingEntry_strongestIn {t : List Demand} {h : Demand} (hh : haltingEntry t = some h) :
    h.strongestIn (fun e => e.ask.kind == .halt) t := strongest_filter hh

theorem haltingEntry_kind {t : List Demand} {h : Demand} (hh : haltingEntry t = some h) : h.ask.kind = .halt := by
  obtain ⟨-, -, hk, -⟩ := haltingEntry_strongestIn hh
  exact beq_iff_eq.1 hk

theorem haltingEntry_eq_none {t : List Demand} : haltingEntry t = none ↔ ∀ e ∈ t, e.ask.kind ≠ .halt := by
  simp [haltingEntry, ofKind, strongest_eq_none]

theorem governingEntry_strongestIn {t : List Demand} {k : DemandKind} {g : Demand} (hg : governingEntry t k = some g) :
    g.strongestIn (fun e => e.ask.kind == k && !isSuppressed t e) t := by
  rw [governingEntry, ofKind, List.filter_filter] at hg
  exact strongest_filter hg

theorem governingEntry_kind {t : List Demand} {k : DemandKind} {g : Demand} (hg : governingEntry t k = some g) :
    g.ask.kind = k ∧ isSuppressed t g = false := by
  obtain ⟨-, -, hk, -⟩ := governingEntry_strongestIn hg
  simpa using hk

theorem governingEntry_isSome {t : List Demand} {e : Demand} (he : e ∈ t) (hs : isSuppressed t e = false) :
    ∃ g, governingEntry t e.ask.kind = some g := by
  refine Option.ne_none_iff_exists'.1 (fun h => ?_)
  rw [governingEntry, ofKind, strongest_eq_none, List.filter_eq_nil_iff] at h
  exact h e (List.mem_filter.2 ⟨he, by simp [hs]⟩) (beq_self_eq_true _)

theorem isSuppressed_none {t : List Demand} (h : haltingEntry t = none) (e : Demand) : isSuppressed t e = false := by
  rw [isSuppressed, h]

theorem isSuppressed_some {t : List Demand} {h : Demand} (hh : haltingEntry t = some h) (e : Demand) :
    isSuppressed t e = true ↔ e.ref ≠ h.ref ∧ e.rank.num ≤ h.rank.num := by
  rw [isSuppressed, hh]
  simp only [Bool.and_eq_true, Bool.not_eq_true', decide_eq_true_eq, ne_eq, ← sameKey_iff, Bool.not_eq_true]

/-- Another HALT is suppressed: the halting entry is stronger, so its rank is at least the other's. -/
theorem other_halt_suppressed {t : List Demand} (hn : (t.map Demand.ref).Nodup) {h e : Demand}
    (hh : haltingEntry t = some h) (he : e ∈ t) (hk : e.ask.kind = .halt) (hne : e ≠ h) : isSuppressed t e = true := by
  have hs := haltingEntry_strongestIn hh
  refine (isSuppressed_some hh e).2 ⟨fun hr => hne (eq_of_ref_eq hn he hs.mem hr), ?_⟩
  obtain ⟨i, hi, -, hbest⟩ := hs
  obtain ⟨j, hj⟩ := List.mem_iff_getElem?.1 he
  have hij : j ≠ i := fun k => hne (Option.some.inj (hj.symm.trans (k ▸ hi)))
  have := (stronger_iff _ _ _ _).1 (hbest j e hj (beq_iff_eq.2 hk) hij)
  omega

theorem halting_unsuppressed {t : List Demand} {h : Demand} (hh : haltingEntry t = some h) :
    isSuppressed t h = false := by
  rw [Bool.eq_false_iff]
  exact fun k => ((isSuppressed_some hh h).1 k).1 rfl

/-! ### Standings (R39) -/

theorem standingIn_suppressed_iff {t : List Demand} {e : Demand} :
    standingIn t e = .suppressed ↔ isSuppressed t e = true := by
  cases hs : isSuppressed t e with
  | true => simp [standingIn, hs]
  | false =>
    cases hg : governingEntry t e.ask.kind with
    | none => simp [standingIn, hs, hg]
    | some g => by_cases hk : e.sameKey g = true <;> simp [standingIn, hs, hg, hk]

theorem standingIn_ne_suppressed_iff {t : List Demand} {e : Demand} :
    standingIn t e ≠ .suppressed ↔ isSuppressed t e = false := by
  rw [ne_eq, standingIn_suppressed_iff, Bool.not_eq_true]

/-- An unsuppressed entry governs its kind when it has the key of the governing entry, and is outranked otherwise. -/
theorem standingIn_unsuppressed {t : List Demand} {e g : Demand} (hs : isSuppressed t e = false)
    (hg : governingEntry t e.ask.kind = some g) :
    standingIn t e = if e.ref = g.ref then .governing else .outranked := by
  simp only [standingIn, hs, Bool.false_eq_true, if_false, hg, sameKey_iff]

theorem governing_standing {t : List Demand} {k : DemandKind} {g : Demand} (hg : governingEntry t k = some g) :
    standingIn t g = .governing := by
  obtain ⟨rfl, hs⟩ := governingEntry_kind hg
  rw [standingIn_unsuppressed hs hg, if_pos rfl]

/-- With a HALT in the table, the halting entry governs its kind. -/
theorem halting_governs {t : List Demand} (hn : (t.map Demand.ref).Nodup) {h : Demand}
    (hh : haltingEntry t = some h) : governingEntry t .halt = some h := by
  have hmem := (haltingEntry_strongestIn hh).mem
  have hk := haltingEntry_kind hh
  obtain ⟨g, hg⟩ := governingEntry_isSome hmem (halting_unsuppressed hh)
  rw [hk] at hg
  obtain ⟨hgk, hgs⟩ := governingEntry_kind hg
  by_cases hgh : g = h
  · rw [hg, hgh]
  · rw [other_halt_suppressed hn hh (governingEntry_strongestIn hg).mem hgk hgh] at hgs
    exact absurd hgs (by decide)

/-- Settles O28: the standings are read off the halting entry and the governing entry of each kind, which are the
strongest of the HALTs and of the unsuppressed entries of the kind. -/
theorem standingsFollowTheStrongestHalt : Obligations.StandingsFollowTheStrongestHalt := by
  unfold Obligations.StandingsFollowTheStrongestHalt
  intro t hn
  refine ⟨fun hk e _ => ?_, fun h hh => ⟨haltingEntry_kind hh, governing_standing (halting_governs hn hh), ?_, ?_⟩,
    fun e he hk => ?_, fun e he f hf hke hkf hse hsf => ?_, fun e he hs => ?_⟩
  · exact standingIn_ne_suppressed_iff.2 (isSuppressed_none (haltingEntry_eq_none.2 hk) e)
  · obtain ⟨i, hi, -, hbest⟩ := haltingEntry_strongestIn hh
    exact ⟨i, hi, fun j y hj hy hne => hbest j y hj (beq_iff_eq.2 hy) hne⟩
  · intro e he
    have hkey : e.ref = h.ref ↔ e = h :=
      ⟨eq_of_ref_eq hn he (haltingEntry_strongestIn hh).mem, fun k => k ▸ rfl⟩
    rw [standingIn_suppressed_iff, isSuppressed_some hh, ne_eq, hkey]
  · refine Option.isSome_iff_ne_none.2 (fun h => ?_)
    exact haltingEntry_eq_none.1 h e he hk
  · cases hh : haltingEntry t with
    | none => exact absurd hke (haltingEntry_eq_none.1 hh e he)
    | some h =>
      have halone : ∀ x ∈ t, x.ask.kind = .halt → standingIn t x ≠ .suppressed → x = h := fun x hx hk hsx =>
        Classical.byContradiction fun hne =>
          hsx (standingIn_suppressed_iff.2 (other_halt_suppressed hn hh hx hk hne))
      exact (halone e he hke hse).trans (halone f hf hkf hsf).symm
  · rw [standingIn_ne_suppressed_iff] at hs
    obtain ⟨g, hg⟩ := governingEntry_isSome he hs
    obtain ⟨i, hi, -, hbest⟩ := governingEntry_strongestIn hg
    refine ⟨g, hg, (governingEntry_kind hg).1, governing_standing hg, fun hne => ?_, i, hi,
      fun j y hj hy hsy hji => hbest j y hj ?_ hji⟩
    · rw [standingIn_unsuppressed hs hg, if_neg]
      exact fun hr => hne (eq_of_ref_eq hn he (List.mem_of_getElem? hi) hr)
    · simp [hy, standingIn_ne_suppressed_iff.1 hsy]

end Sys2Proof.Machine
end

-- One resolution: what a table's plan content depends on, and what a resolution does.
section
namespace Sys2Proof.Machine

/-! ### The plan content depends on keys, arguments and ranks (R38 to R40) -/

/-- `f` keeps what an entry asks for: its origin, slot, argument and rank. Remaining and standing may change. -/
def keepsClaims (f : Demand → Demand) : Prop :=
  ∀ e, (f e).origin = e.origin ∧ (f e).slot = e.slot ∧ (f e).ask = e.ask ∧ (f e).rank = e.rank

section
variable {f : Demand → Demand} (hf : keepsClaims f)
include hf

theorem overtakes_map (x y : Demand) : (f x).overtakes (f y) = x.overtakes y := by
  obtain ⟨hox, -, -, hrx⟩ := hf x
  obtain ⟨hoy, -, -, hry⟩ := hf y
  simp only [Demand.overtakes, hox, hrx, hoy, hry]

theorem sameKey_map (x y : Demand) : (f x).sameKey (f y) = x.sameKey y := by
  obtain ⟨hox, hsx, -, -⟩ := hf x
  obtain ⟨hoy, hsy, -, -⟩ := hf y
  simp only [Demand.sameKey, hox, hsx, hoy, hsy]

theorem ref_map (e : Demand) : (f e).ref = e.ref := by
  obtain ⟨ho, hs, -, -⟩ := hf e
  simp only [Demand.ref, ho, hs]

theorem ask_map (e : Demand) : (f e).ask = e.ask := by
  obtain ⟨-, -, h, -⟩ := hf e
  exact h

theorem rank_map (e : Demand) : (f e).rank = e.rank := by
  obtain ⟨-, -, -, h⟩ := hf e
  exact h

theorem strongest_map (t : List Demand) : strongest (t.map f) = (strongest t).map f := by
  induction t with
  | nil => rfl
  | cons x xs ih =>
    simp only [List.map_cons, strongest, ih]
    cases strongest xs with
    | none => rfl
    | some y =>
      simp only [Option.map_some, overtakes_map hf]
      split <;> rfl

theorem ofKind_map (k : DemandKind) (t : List Demand) : ofKind k (t.map f) = (ofKind k t).map f := by
  simp only [ofKind, List.filter_map, Function.comp_def, ask_map hf]

theorem haltingEntry_map (t : List Demand) : haltingEntry (t.map f) = (haltingEntry t).map f := by
  rw [haltingEntry, ofKind_map hf, strongest_map hf, haltingEntry]

theorem isSuppressed_map (t : List Demand) (e : Demand) : isSuppressed (t.map f) (f e) = isSuppressed t e := by
  simp only [isSuppressed, haltingEntry_map hf]
  cases haltingEntry t with
  | none => rfl
  | some h => simp only [Option.map_some, sameKey_map hf, rank_map hf]

theorem governingEntry_map (t : List Demand) (k : DemandKind) :
    governingEntry (t.map f) k = (governingEntry t k).map f := by
  simp only [governingEntry, List.filter_map, Function.comp_def, isSuppressed_map hf, ofKind_map hf, strongest_map hf]

theorem planOf_map (t : List Demand) : planOf (t.map f) = planOf t := by
  simp only [planOf, governingEntry_map hf, haltingEntry_map hf, Option.bind_map, Option.map_map, Function.comp_def,
    ask_map hf, ref_map hf, rank_map hf]

theorem map_ref_map (t : List Demand) : (t.map f).map Demand.ref = t.map Demand.ref := by
  rw [List.map_map]
  exact List.map_congr_left (fun e _ => ref_map hf e)

end

theorem standings_keepsClaims (t : List Demand) : keepsClaims (fun e => { e with standing := standingIn t e }) :=
  fun _ => ⟨rfl, rfl, rfl, rfl⟩

theorem tick_keepsClaims : keepsClaims Demand.tick := fun _ => ⟨rfl, rfl, rfl, rfl⟩

/-! ### One resolution (R37, R40, R41) -/

/-- The state after a resolution that leaves the content as it was, and after one that changes it. -/
theorem resolve_of_same {s : State} (h : planOf s.dar.table = s.dar.plan) :
    s.resolve = s.setDar { s.dar with
      table := s.dar.table.map (fun e => { e with standing := standingIn s.dar.table e }) } := if_pos h

theorem resolve_of_changed {s : State} (h : planOf s.dar.table ≠ s.dar.plan) :
    s.resolve = (s.setDar { s.dar with
      table := s.dar.table.map (fun e => { e with standing := standingIn s.dar.table e })
      plan := planOf s.dar.table, version := s.dar.version + 1 }).postAll .plan := if_neg h

theorem resolve_plan (s : State) : s.resolve.dar.plan = planOf s.dar.table := by
  by_cases h : planOf s.dar.table = s.dar.plan
  · rw [resolve_of_same h, h]
    rfl
  · rw [resolve_of_changed h]
    rfl

theorem resolve_second (s : State) : s.resolve.dar.second = s.dar.second := by
  by_cases h : planOf s.dar.table = s.dar.plan
  · rw [resolve_of_same h]
    rfl
  · rw [resolve_of_changed h]
    rfl

/-! ### The content of a table (R40) -/

theorem kind_air {e : Demand} (h : e.ask.kind = .air) : ∃ a, e.ask = .air a := by
  cases ha : e.ask <;> simp_all [Ask.kind]

theorem kind_dry {e : Demand} (h : e.ask.kind = .dry) : ∃ a, e.ask = .dry a := by
  cases ha : e.ask <;> simp_all [Ask.kind]

theorem kind_quiet {e : Demand} (h : e.ask.kind = .quiet) : ∃ c b, e.ask = .quiet c b := by
  cases ha : e.ask <;> simp_all [Ask.kind]

/-- Settles O26: a resolution has two cases, by whether the content changed, and the content is read off the
governing entries, each of its own kind. -/
theorem resolutionMovesTheVersionWithTheContent : Obligations.ResolutionMovesTheVersionWithTheContent := by
  unfold Obligations.ResolutionMovesTheVersionWithTheContent
  refine ⟨fun s => ⟨resolve_plan s, resolve_table s, fun h => ?_, fun h => ?_, resolve_second s, resolve_sameBut s⟩,
    fun t => ⟨fun e a hg ha => ?_, fun e a hg ha => ?_, fun e c b hg ha => ?_, fun hg => ?_, fun hg => ?_, fun hg => ?_,
      fun e hg => kind_air (governingEntry_kind hg).1, fun e hg => kind_dry (governingEntry_kind hg).1,
      fun e hg => kind_quiet (governingEntry_kind hg).1, rfl, rfl, rfl, rfl, rfl⟩⟩
  · rw [resolve_of_same h]
    exact ⟨rfl, rfl⟩
  · rw [resolve_of_changed h]
    exact ⟨rfl, postAll_flagOnAll _ _, raise_flagsRaised _ _⟩
  all_goals simp [planOf, *]

end Sys2Proof.Machine
end

-- The CONFIG in force is changed by WRITE-CONFIG, a start-up and a reset alone. These rules complete the frames of the
-- operations that may ask for a checkpoint or begin a write, and so change the store's own part in other fields.
section
namespace Sys2Proof.Machine

/-! ### The store and checkpoints (R188 to R190) -/

@[simp] theorem beginWrite_settings (s : State) (rs : RegionSet) :
    (s.beginWrite rs).sst.settings = s.sst.settings := rfl

@[simp] theorem joinPending_settings (s : State) (rs : RegionSet) :
    (s.joinPending rs).sst.settings = s.sst.settings := rfl

@[simp] theorem requestSome_settings (s : State) (rs : RegionSet) :
    (s.requestSome rs).sst.settings = s.sst.settings := by
  unfold State.requestSome
  split <;> simp

@[simp] theorem nextWrite_settings (s : State) : s.nextWrite.sst.settings = s.sst.settings := by
  unfold State.nextWrite
  repeat' split
  all_goals simp

@[simp] theorem storeWriteEnd_settings (s : State) (f : RegionSet) :
    (s.storeWriteEnd f).sst.settings = s.sst.settings := by
  unfold State.storeWriteEnd
  split <;> simp

@[simp] theorem handOver_settings (s : State) : s.handOver.sst.settings = s.sst.settings := rfl

/-! ### Drying and the hand-overs -/

@[simp] theorem settle_settings (s : State) : s.settle.sst.settings = s.sst.settings := by
  rw [settle_sst]

@[simp] theorem enterLockout_settings (s : State) (r : LockReason) :
    (s.enterLockout r).sst.settings = s.sst.settings := by
  unfold State.enterLockout
  dsimp only
  split <;> simp

@[simp] theorem pulldownFailed_settings (s : State) : s.pulldownFailed.sst.settings = s.sst.settings := by
  unfold State.pulldownFailed
  split <;> simp

@[simp] theorem defrostTimedOut_settings (s : State) : s.defrostTimedOut.sst.settings = s.sst.settings := by
  unfold State.defrostTimedOut
  dsimp only
  split <;> simp

@[simp] theorem clearLockoutNow_settings (s : State) (r : LockReason) :
    (s.clearLockoutNow r).sst.settings = s.sst.settings := by
  unfold State.clearLockoutNow
  split <;> simp

/-! ### Filters -/

@[simp] theorem postFilter_settings (s : State) (st : Stage) (old new : StageState) :
    (s.postFilter st old new).sst.settings = s.sst.settings := by
  obtain ⟨-, -, -, h⟩ := postFilter_sameBasis s st old new
  exact h

@[simp] theorem filterEvents_settings (s b : State) : (s.filterEvents b).sst.settings = s.sst.settings := by
  obtain ⟨-, -, -, h⟩ := filterEvents_sameBasis s b
  exact h

@[simp] theorem countTick_settings (s : State) (r : LastTick) : (s.countTick r).sst.settings = s.sst.settings := by
  unfold State.countTick
  dsimp only
  repeat' split
  all_goals simp

@[simp] theorem tick_settings (s : State) : s.tick.sst.settings = s.sst.settings := by simp [State.tick]

@[simp] theorem changeAccount_settings (s : State) (st : Stage) (a : Account) :
    (s.changeAccount st a).sst.settings = s.sst.settings := by
  simp [State.changeAccount]

/-! ### Cartridges -/

@[simp] theorem bind_settings (s : State) (st : Stage) (a : Account) (v : CartridgeValue) :
    (s.bind st a v).sst.settings = s.sst.settings := by
  simp [State.bind]

@[simp] theorem bindNewTagged_settings (s : State) (st : Stage) (g : TagData) :
    (s.bindNewTagged st g).sst.settings = s.sst.settings := by
  simp [State.bindNewTagged]

@[simp] theorem bindTagged_settings (s : State) (st : Stage) (g : TagData) :
    (s.bindTagged st g).sst.settings = s.sst.settings := by
  unfold State.bindTagged
  dsimp only
  repeat' split
  all_goals simp

@[simp] theorem bindUntagged_settings (s : State) (st : Stage) :
    (s.bindUntagged st).sst.settings = s.sst.settings := by
  unfold State.bindUntagged
  dsimp only
  split <;> simp

@[simp] theorem enterMismatch_settings (s : State) (st : Stage) (c : MismatchCause) :
    (s.enterMismatch st c).sst.settings = s.sst.settings := by
  unfold State.enterMismatch
  dsimp only
  split <;> simp

@[simp] theorem judgeGood_settings (s : State) (st : Stage) (g : TagData) :
    (s.judgeGood st g).sst.settings = s.sst.settings := by
  unfold State.judgeGood
  dsimp only
  repeat' split
  all_goals simp

@[simp] theorem goodRead_settings (s : State) (st : Stage) (g : TagData) :
    (s.goodRead st g).sst.settings = s.sst.settings := by
  unfold State.goodRead
  repeat' split
  all_goals simp

@[simp] theorem failedRead_settings (s : State) (st : Stage) : (s.failedRead st).sst.settings = s.sst.settings := by
  unfold State.failedRead
  dsimp only
  repeat' split
  all_goals simp

@[simp] theorem tagReadEnd_settings (s : State) (st : Stage) (x : Option RawTag) :
    (s.tagReadEnd st x).sst.settings = s.sst.settings := by
  unfold State.tagReadEnd
  repeat' split
  all_goals simp

@[simp] theorem slotOpened_settings (s : State) (st : Stage) : (s.slotOpened st).sst.settings = s.sst.settings := by
  unfold State.slotOpened
  dsimp only
  split <;> simp

/-! ### Demands and airflow -/

@[simp] theorem resolveTable_settings (s : State) (t : List Demand) :
    (s.resolveTable t).sst.settings = s.sst.settings := by
  simp [State.resolveTable]

@[simp] theorem takeRanks_settings (s : State) : s.takeRanks.sst.settings = s.sst.settings := by
  obtain ⟨-, -, -, h⟩ := takeRanks_sameBasis s
  exact h

@[simp] theorem boundary_settings (s : State) : s.boundary.sst.settings = s.sst.settings := by simp [State.boundary]

/-! ### Sensing and the tank -/

@[simp] theorem roomFailed_settings (s : State) : s.roomFailed.sst.settings = s.sst.settings := by
  unfold State.roomFailed
  dsimp only
  repeat' split
  all_goals simp

@[simp] theorem roomGood_settings (s : State) (r : RoomRead) : (s.roomGood r).sst.settings = s.sst.settings := by
  unfold State.roomGood
  dsimp only
  split <;> simp

@[simp] theorem busFailed_settings (s : State) : s.busFailed.sst.settings = s.sst.settings := by
  unfold State.busFailed
  split <;> simp

@[simp] theorem busSecond_settings (s : State) : s.busSecond.sst.settings = s.sst.settings := by
  unfold State.busSecond
  split <;> simp

@[simp] theorem gasReadEnd_settings (s : State) (i : Option Nat) :
    (s.gasReadEnd i).sst.settings = s.sst.settings := by
  unfold State.gasReadEnd
  repeat' split
  all_goals simp

@[simp] theorem roomReadEnd_settings (s : State) (r : Option RoomRead) :
    (s.roomReadEnd r).sst.settings = s.sst.settings := by
  unfold State.roomReadEnd
  repeat' split
  all_goals simp

@[simp] theorem coilConversion_settings (s : State) (n : Int) :
    (s.coilConversion n).sst.settings = s.sst.settings := by
  unfold State.coilConversion
  dsimp only
  repeat' split
  all_goals simp

@[simp] theorem levelPublished_settings (s : State) (b : Option Nat) :
    (s.levelPublished b).sst.settings = s.sst.settings := by
  unfold State.levelPublished
  split <;> simp

@[simp] theorem probeConversion_settings (s : State) (n : Int) :
    (s.probeConversion n).sst.settings = s.sst.settings := by
  unfold State.probeConversion
  dsimp only
  repeat' split
  all_goals simp

@[simp] theorem tankOpened_settings (s : State) : s.tankOpened.sst.settings = s.sst.settings := by
  unfold State.tankOpened
  dsimp only
  split <;> simp

@[simp] theorem floatTaken_settings (s : State) (f : MfFunction) (b c : Bool) :
    (s.floatTaken f b c).sst.settings = s.sst.settings := by
  unfold State.floatTaken
  repeat' split
  all_goals simp

@[simp] theorem functionTaken_settings (s : State) (f : MfFunction) (b c : Bool) :
    (s.functionTaken f b c).sst.settings = s.sst.settings := by
  unfold State.functionTaken
  repeat' split
  all_goals simp

@[simp] theorem switchTaken_settings (s : State) (sw : Switch) (b c : Bool) :
    (s.switchTaken sw b c).sst.settings = s.sst.settings := by
  unfold State.switchTaken
  repeat' split
  all_goals simp

end Sys2Proof.Machine
end

-- Every step keeps the demand law: the table is lawful under the ranks in force, and the plan is resolved from it.
section
namespace Sys2Proof.Machine

/-! ### Lawful tables (R22, R23) -/

/-- One entry at most for a port and slot, each in range and at its port's rank, none at OFF. -/
def lawfulTable (ranks : PerPort Rank) (t : List Demand) : Prop :=
  (t.map Demand.ref).Nodup ∧ ∀ e ∈ t, e.inRange ∧ e.rank = ranks.get e.origin ∧ e.rank ≠ .off

theorem demandLaw_iff (s : State) :
    s.demandLaw ↔ lawfulTable s.sst.settings.ports s.dar.table ∧ s.dar.plan = planOf s.dar.table := by
  simp only [State.demandLaw, lawfulTable, State.rank, and_assoc]

theorem lawfulTable_filter {ranks : PerPort Rank} {t : List Demand} (h : lawfulTable ranks t) (p : Demand → Bool) :
    lawfulTable ranks (t.filter p) :=
  ⟨h.1.sublist (List.filter_sublist.map _), fun e he => h.2 e (List.mem_filter.1 he).1⟩

theorem lawfulTable_map {ranks : PerPort Rank} {t : List Demand} (h : lawfulTable ranks t) {f : Demand → Demand}
    (hf : keepsClaims f) (hr : ∀ e ∈ t, (f e).inRange) : lawfulTable ranks (t.map f) := by
  refine ⟨(map_ref_map hf t).symm ▸ h.1, fun e he => ?_⟩
  obtain ⟨d, hd, rfl⟩ := List.mem_map.1 he
  obtain ⟨ho, -, -, hrank⟩ := hf d
  obtain ⟨-, hk, hoff⟩ := h.2 d hd
  rw [ho, hrank]
  exact ⟨hr d hd, hk, hoff⟩

/-- The entries left after a second are in range: the ones that reached 0 are gone (R30). -/
theorem lawfulTable_ticked {ranks : PerPort Rank} {t : List Demand} (h : lawfulTable ranks t) :
    lawfulTable ranks ((t.map Demand.tick).filter (fun e => e.remaining ≠ some 0)) := by
  rw [List.filter_map]
  refine lawfulTable_map (lawfulTable_filter h _) tick_keepsClaims (fun e he => ?_)
  obtain ⟨hmem, hne⟩ := List.mem_filter.1 he
  obtain ⟨⟨hslot, hrem, hask⟩, -⟩ := h.2 e hmem
  refine ⟨hslot, fun r hr => ?_, hask⟩
  obtain ⟨q, hq, rfl⟩ := Option.map_eq_some_iff.1 hr
  have hpos : q - 1 ≠ 0 := by simpa [Demand.tick, hq] using hne
  have := hrem q hq
  omega

/-- A new entry in the place of the one with its key (R23, R24). -/
theorem lawfulTable_putEntry {ranks : PerPort Rank} {t : List Demand} (h : lawfulTable ranks t) {e : Demand}
    (hr : e.inRange) (hk : e.rank = ranks.get e.origin) (hoff : e.rank ≠ .off) : lawfulTable ranks (putEntry t e) := by
  have hkept := lawfulTable_filter h (fun x => !x.sameKey e)
  refine ⟨?_, fun x hx => ?_⟩
  · rw [putEntry, List.map_append, List.nodup_append]
    refine ⟨hkept.1, List.nodup_cons.2 ⟨List.not_mem_nil, List.nodup_nil⟩, fun a ha b hb hab => ?_⟩
    obtain ⟨x, hx, rfl⟩ := List.mem_map.1 ha
    obtain rfl : b = e.ref := by simpa using hb
    have := (List.mem_filter.1 hx).2
    rw [(sameKey_iff x e).2 hab] at this
    exact absurd this (by decide)
  · rcases List.mem_append.1 hx with hx | hx
    · exact hkept.2 x hx
    · obtain rfl : x = e := by simpa using hx
      exact ⟨hr, hk, hoff⟩

/-- The entries kept under new ranks are lawful under them (R34, R35). -/
theorem lawfulTable_keptDemands {ranks old : PerPort Rank} {t : List Demand} (h : lawfulTable old t) :
    lawfulTable ranks (keptDemands ranks t) := by
  have hkept := lawfulTable_filter h (fun e => ranks.get e.origin ≠ .off)
  refine ⟨?_, fun e he => ?_⟩
  · rw [keptDemands, List.map_map]
    exact hkept.1
  · obtain ⟨d, hd, rfl⟩ := List.mem_map.1 he
    exact ⟨(hkept.2 d hd).1, rfl, by simpa using (List.mem_filter.1 hd).2⟩

/-! ### What keeps the law -/

/-- The law reads the table, the plan and the ranks alone. -/
theorem demandLaw_congr {t s : State} (h : s.demandLaw) (hd : t.dar = s.dar)
    (hs : t.sst.settings.ports = s.sst.settings.ports) : t.demandLaw := by
  rw [demandLaw_iff, hd, hs]
  exact (demandLaw_iff s).1 h

theorem demandLaw_of_frame {t s : State} (h : s.demandLaw) (hd : t.dar = s.dar)
    (hs : t.sst.settings = s.sst.settings) : t.demandLaw :=
  demandLaw_congr h hd (congrArg Settings.ports hs)

theorem demandLaw_of_idle {s : State} (ht : s.dar.table = []) (hp : s.dar.plan = .idle) : s.demandLaw := by
  rw [demandLaw_iff, ht, hp]
  exact ⟨⟨List.nodup_nil, by simp⟩, rfl⟩

theorem advance_demandLaw {s : State} (h : s.demandLaw) (ms : Nat) : (s.advance ms).demandLaw := h

theorem expire_demandLaw {s : State} {t : Timer} {limit : Nat} {act : State → State} (h : s.demandLaw)
    (hact : ∀ u : State, u.demandLaw → (act u).demandLaw) : (s.expire t limit act).demandLaw := by
  cases t with
  | none => exact h
  | some e => exact hact _ (advance_demandLaw h _)

/-- An expiry whose rule leaves the demands and the CONFIG alone. -/
theorem expire_demandLaw_of_frame {s : State} {t : Timer} {limit : Nat} {act : State → State} (h : s.demandLaw)
    (hd : ∀ u, (act u).dar = u.dar) (hs : ∀ u, (act u).sst.settings = u.sst.settings) :
    (s.expire t limit act).demandLaw :=
  expire_demandLaw h (fun u hu => demandLaw_of_frame hu (hd u) (hs u))

theorem whenUp_demandLaw {s : State} {f : State → State} (h : s.demandLaw) (hf : (f s).demandLaw) :
    (s.whenUp f).demandLaw := by
  unfold State.whenUp
  split
  · exact hf
  · exact h

/-- A resolution establishes the law from a lawful table (R37, R40). -/
theorem resolve_demandLaw {s : State} (h : lawfulTable s.sst.settings.ports s.dar.table) : s.resolve.demandLaw := by
  have hk := standings_keepsClaims s.dar.table
  rw [demandLaw_iff, resolve_table, resolve_plan, planOf_map hk, (resolve_sameBut s) .sst rfl]
  exact ⟨lawfulTable_map h hk (fun e he => (h.2 e he).1), rfl⟩

theorem resolveTable_demandLaw {s : State} {t : List Demand} (h : lawfulTable s.sst.settings.ports t) :
    (s.resolveTable t).demandLaw :=
  demandLaw_congr (resolve_demandLaw (s := s.setDar { s.dar with table := t }) h) (by simp [State.resolveTable])
    (by simp [State.resolveTable])

/-! ### The operations of the DAR -/

/-- Where no entry has reached 0, the second timer counts and resolves nothing. -/
theorem darSecond_demandLaw {s : State} (h : s.demandLaw) : s.darSecond.demandLaw := by
  obtain ⟨ht, hp⟩ := (demandLaw_iff s).1 h
  have hticked := lawfulTable_ticked ht
  unfold State.darSecond
  dsimp only
  split
  · rename_i hgone
    have hall : (s.dar.table.map Demand.tick).filter (fun e => e.remaining ≠ some 0) = s.dar.table.map Demand.tick := by
      refine List.filter_eq_self.2 (fun e he => ?_)
      simpa using List.filter_eq_nil_iff.1 (List.isEmpty_iff.1 hgone) e he
    rw [hall] at hticked
    exact (demandLaw_iff _).2 ⟨hticked, hp.trans (planOf_map tick_keepsClaims _).symm⟩
  · refine resolveTable_demandLaw ?_
    simpa using hticked

theorem takeRanks_demandLaw {s : State} {old : PerPort Rank} (ht : lawfulTable old s.dar.table)
    (hp : s.dar.plan = planOf s.dar.table) : s.takeRanks.demandLaw := by
  have hkept : lawfulTable s.sst.settings.ports (keptDemands s.sst.settings.ports s.dar.table) :=
    lawfulTable_keptDemands ht
  rw [takeRanks_eq]
  split
  · rename_i hsame
    rw [hsame.2] at hkept
    exact (demandLaw_iff s).2 ⟨hkept, hp⟩
  · refine resolve_demandLaw (s := (s.reportDropped (goneDemands s.sst.settings.ports s.dar.table)
      (fun r => .demandDropped r .rankOff)).setDar _) ?_
    simpa using hkept

/-- A CONFIG that comes into force re-ranks the demands when it changes a rank (R34, R186). -/
theorem applyConfig_demandLaw {s : State} (h : s.demandLaw) (new : Settings) : (s.applyConfig new).demandLaw := by
  by_cases hn : new = s.sst.settings
  · rw [hn, applyConfig_same]
    exact h
  · obtain ⟨-, -, hdar, -⟩ := applyConfig_blocks hn
    obtain ⟨hset, -⟩ := applyConfig_basis hn
    by_cases hr : new.ports = s.sst.settings.ports
    · exact demandLaw_congr h (applyConfig_dar hr) (by rw [hset, hr])
    · obtain ⟨ht, hp⟩ := (demandLaw_iff s).1 h
      have hranked : (s.withConfig new).takeRanks.demandLaw := takeRanks_demandLaw (old := s.sst.settings.ports) ht hp
      refine demandLaw_congr hranked (hdar.trans ?_) ?_
      · unfold State.regrouped
        simp only [hr, if_false]
        repeat' split
        all_goals simp [State.withConfig]
      · rw [hset, takeRanks_settings]
        rfl

/-! ### The arguments of a PUT-DEMAND (R21, R182) -/

theorem durationOf_range {pl : List Byte} {rem : Option Nat} {c : Bool} (h : durationOf pl = .taken rem c) :
    ∀ r, rem = some r → 1 ≤ r ∧ r ≤ 86400 := by
  unfold durationOf at h
  dsimp only at h
  generalize arg2 pl (if arg1 pl 1 = 3 then 2 else 4) = d at h
  split at h
  · obtain ⟨rfl, -⟩ := Checked.taken.inj h
    simp
  · split at h
    · cases h
    · obtain ⟨rfl, -⟩ := Checked.taken.inj h
      intro r hr
      obtain rfl := Option.some.inj hr
      omega

/-- An entry with an argument as taken, a slot of 0 to 3 and a remaining of at most a day is in range. -/
theorem askOf_inRange {pl : List Byte} {ask : Ask} {c : Bool} (h : askOf pl = .taken ask c) {e : Demand}
    (ha : e.ask = ask) (hs : e.slot ≤ 3) (hr : ∀ r, e.remaining = some r → 1 ≤ r ∧ r ≤ 86400) : e.inRange := by
  refine ⟨hs, hr, ?_⟩
  rw [ha]
  unfold askOf at h
  split at h
  · split at h
    · split at h
      · cases h
      · obtain ⟨rfl, -⟩ := Checked.taken.inj h
        dsimp only
        omega
    · obtain ⟨rfl, -⟩ := Checked.taken.inj h
      trivial
    · cases h
  · split at h
    · obtain ⟨rfl, -⟩ := Checked.taken.inj h
      simp only [clampTo]
      omega
    · obtain ⟨rfl, -⟩ := Checked.taken.inj h
      trivial
    · cases h
  · split at h
    · split at h
      · cases h
      · obtain ⟨rfl, -⟩ := Checked.taken.inj h
        dsimp only
        omega
    · cases h
  · obtain ⟨rfl, -⟩ := Checked.taken.inj h
    trivial
  · cases h

end Sys2Proof.Machine
end

section
namespace Sys2Proof.Machine

/-! ### The demand commands -/

theorem cmdPutDemand_demandLaw {s : State} (h : s.demandLaw) {p : Port} (hp : s.rank p ≠ .off) (pl : List Byte) :
    (cmdPutDemand s p pl).1.demandLaw := by
  unfold cmdPutDemand
  split
  · exact h
  · split
    · exact h
    · split
      · rename_i hslot _ _ ask c1 rem c2 hask hdur
        exact resolveTable_demandLaw (lawfulTable_putEntry ((demandLaw_iff s).1 h).1
          (askOf_inRange hask rfl (Nat.le_of_not_lt hslot) (durationOf_range hdur)) rfl hp)
      · exact h

theorem cmdClearDemand_demandLaw {s : State} (h : s.demandLaw) (p : Port) (pl : List Byte) :
    (cmdClearDemand s p pl).1.demandLaw := by
  unfold cmdClearDemand
  dsimp only
  split
  · exact h
  · split
    · exact resolveTable_demandLaw (lawfulTable_filter ((demandLaw_iff s).1 h).1 _)
    · exact h

theorem clearAll_demandLaw {s : State} (h : s.demandLaw) (p : Port) (c : ClearScope) : (s.clearAll p c).1.demandLaw := by
  unfold State.clearAll
  dsimp only
  split
  · exact h
  · refine resolveTable_demandLaw ?_
    simpa using lawfulTable_filter ((demandLaw_iff s).1 h).1 _

theorem cmdClearAllDemands_demandLaw {s : State} (h : s.demandLaw) (p : Port) (pl : List Byte) :
    (cmdClearAllDemands s p pl).1.demandLaw := by
  unfold cmdClearAllDemands
  split
  · exact h
  · split
    · exact clearAll_demandLaw h _ _
    · exact h

/-! ### The other commands -/

theorem cmdWriteConfig_demandLaw {s : State} (h : s.demandLaw) (p : Port) (pl : List Byte) :
    (cmdWriteConfig s p pl).1.demandLaw := by
  unfold cmdWriteConfig
  split
  · exact h
  · split
    · exact h
    · split
      · exact h
      · exact applyConfig_demandLaw h _

@[simp] theorem clearLockoutNow_dar (s : State) (r : LockReason) : (s.clearLockoutNow r).dar = s.dar := by
  unfold State.clearLockoutNow
  dsimp only
  split <;> simp

/-- Of the commands, the demand commands and WRITE-CONFIG alone touch the demands or the CONFIG. -/
theorem handle_frame {c : Command} (hput : c ≠ .putDemand) (hclear : c ≠ .clearDemand) (hall : c ≠ .clearAllDemands)
    (hwrite : c ≠ .writeConfig) (s : State) (p : Port) (pl : List Byte) :
    (handle c s p pl).1.dar = s.dar ∧ (handle c s p pl).1.sst.settings = s.sst.settings := by
  cases c with
  | putDemand => exact absurd rfl hput
  | clearDemand => exact absurd rfl hclear
  | clearAllDemands => exact absurd rfl hall
  | writeConfig => exact absurd rfl hwrite
  | readSensors | readPlan | readDemands | readDrying | readEvents | setEventMask | restart => exact ⟨rfl, rfl⟩
  | readAirflow | readFilters | readCartridges | readTank | readConfig | setLogJoin | loadCurve | selectCurve =>
    simp only [handle, cmdReadAirflow, cmdReadFilters, cmdReadCartridges, cmdReadTank, cmdReadConfig, cmdSetLogJoin,
      cmdLoadCurve, cmdSelectCurve]
    repeat' split
    all_goals exact ⟨rfl, rfl⟩
  | readLog => simp [handle, cmdReadLog]
  | setCursor | resetFilter | setStage | forgetCartridge | clearLockout | forceDefrost | pumpOut | pumpAbort =>
    simp only [handle, cmdSetCursor, cmdResetFilter, cmdSetStage, cmdForgetCartridge, cmdClearLockout, cmdForceDefrost,
      cmdPumpOut, State.pumpOutNew, State.pumpOutResume, cmdPumpAbort]
    repeat' split
    all_goals simp

theorem handle_demandLaw {s : State} (h : s.demandLaw) {c : Command} {p : Port} (hp : permitted c p (s.rank p) = true)
    (pl : List Byte) : (handle c s p pl).1.demandLaw := by
  by_cases hput : c = .putDemand
  · subst hput
    exact cmdPutDemand_demandLaw h (by simpa [permitted] using hp) pl
  by_cases hclear : c = .clearDemand
  · subst hclear
    exact cmdClearDemand_demandLaw h p pl
  by_cases hall : c = .clearAllDemands
  · subst hall
    exact cmdClearAllDemands_demandLaw h p pl
  by_cases hwrite : c = .writeConfig
  · subst hwrite
    exact cmdWriteConfig_demandLaw h p pl
  obtain ⟨hd, hs⟩ := handle_frame hput hclear hall hwrite s p pl
  exact demandLaw_of_frame h hd hs

/-! ### Frames and links -/

theorem judge_demandLaw {s : State} (h : s.demandLaw) (p : Port) (f : Frame) : (judge s p f).1.demandLaw := by
  unfold judge
  split
  · exact h
  · exact h
  · split
    · exact h
    · unfold judgeKnown
      split
      · exact h
      · split
        · exact h
        · exact handle_demandLaw h (by simp_all) _

theorem takeFrame_demandLaw {s : State} (h : s.demandLaw) (p : Port) (f : Frame) : (s.takeFrame p f).demandLaw :=
  demandLaw_of_frame (judge_demandLaw h p f) (by simp [State.takeFrame]) (by simp [State.takeFrame])

theorem setPrt_demandLaw {s : State} (h : s.demandLaw) (x : Prt) : (s.setPrt x).demandLaw := h

theorem setRx_demandLaw {s : State} (h : s.demandLaw) (p : Port) (rx : Option (List Byte)) :
    (s.setRx p rx).demandLaw := h

theorem setOut_demandLaw {s : State} (h : s.demandLaw) (p : Port) (bytes : List Byte) :
    (s.setOut p bytes).demandLaw := h

theorem receive_demandLaw {s : State} (h : s.demandLaw) (p : Port) (f : Frame) : (s.receive p f).demandLaw := by
  have hrx := setRx_demandLaw h p none
  unfold State.receive
  dsimp only
  split
  · exact h
  · split
    · exact setOut_demandLaw (takeFrame_demandLaw hrx _ _) _ _
    · unfold State.linkFrame
      repeat' split
      · exact hrx
      · exact hrx
      · exact takeFrame_demandLaw hrx _ _
    · split
      · exact hrx
      · exact takeFrame_demandLaw hrx _ _

theorem linkReceive_demandLaw {s : State} (h : s.demandLaw) (b : Byte) : (s.linkReceive b).demandLaw := by
  unfold State.linkReceive
  split
  · exact h
  · exact h
  · exact h
  · exact receive_demandLaw h _ _

theorem receiveBytes_demandLaw {s : State} (h : s.demandLaw) (p : Port) (bytes : List Byte) :
    (s.receiveBytes p bytes).demandLaw := by
  unfold State.receiveBytes
  split
  · split
    · exact List.foldlRecOn bytes State.linkReceive h (fun u hu b _ => linkReceive_demandLaw hu b)
    · unfold State.panelReceive
      dsimp only
      repeat' split
      all_goals exact h
    · exact h
  · exact h

theorem linkTransmitEnd_demandLaw {s : State} (h : s.demandLaw) : s.linkTransmitEnd.demandLaw := by
  unfold State.linkTransmitEnd
  dsimp only
  split
  · split
    · exact takeFrame_demandLaw (setPrt_demandLaw h _) _ _
    · exact h
  · exact h

/-! ### Resets and the start-up (R190, R191) -/

theorem cleared_demandLaw (s : State) (log : Tlg) (k : ResetKind) : (s.cleared log k).demandLaw :=
  demandLaw_of_idle rfl rfl

theorem beginRead_demandLaw {s : State} (h : s.demandLaw) : s.beginRead.demandLaw := by
  unfold State.beginRead
  split <;> exact h

theorem startUp_demandLaw (s : State) (bad : RegionSet) : (s.startUp bad).demandLaw := by
  apply demandLaw_of_idle <;> simp [State.startUp, State.startBlocks, Dar.idle]

theorem setSst_demandLaw {s : State} (h : s.demandLaw) {x : Sst} (hx : x.settings = s.sst.settings) :
    (s.setSst x).demandLaw := demandLaw_of_frame h rfl hx

theorem storeReadEnd_demandLaw {s : State} (h : s.demandLaw) (failed : RegionSet) : (s.storeReadEnd failed).demandLaw := by
  unfold State.storeReadEnd
  split
  · exact startUp_demandLaw _ _
  · exact h

theorem regionUnread_demandLaw {s : State} (h : s.demandLaw) (r : Region) : (s.regionUnread r).demandLaw := by
  unfold State.regionUnread
  extract_lets x t
  have ht : t.demandLaw := setSst_demandLaw h rfl
  split
  · exact storeReadEnd_demandLaw ht _
  · exact ht

theorem regionReadTimeout_demandLaw {s : State} (h : s.demandLaw) (r : Region) : (s.regionReadTimeout r).demandLaw := by
  unfold State.regionReadTimeout
  split
  · exact expire_demandLaw h (fun u hu => regionUnread_demandLaw hu r)
  · exact h

end Sys2Proof.Machine
end

section
namespace Sys2Proof.Machine

/-! ### Every command keeps the law -/

theorem powerOn_demandLaw {s : State} (h : s.demandLaw) : s.powerOn.demandLaw := by
  unfold State.powerOn
  split
  · exact h
  · exact beginRead_demandLaw (cleared_demandLaw s .idle .powerOn)

theorem powerLoss_demandLaw {s : State} (h : s.demandLaw) (o : CutOff) : (s.powerLoss o).demandLaw := by
  unfold State.powerLoss
  split
  · exact cleared_demandLaw (s.cutOff o) .idle s.kind
  · exact h

theorem resetnAssert_demandLaw {s : State} (h : s.demandLaw) (o : CutOff) : (s.resetnAssert o).demandLaw := by
  unfold State.resetnAssert
  split
  · exact h
  · split
    · exact cleared_demandLaw (s.cutOff o) (s.cutOff o).tlg.kept .resetn
    · exact h

theorem ite_demandLaw {c : Prop} [Decidable c] {t s : State} (ht : t.demandLaw) (h : s.demandLaw) :
    (if c then t else s).demandLaw := by
  split
  · exact ht
  · exact h

theorem resetnRelease_demandLaw {s : State} (h : s.demandLaw) : s.resetnRelease.demandLaw :=
  ite_demandLaw (beginRead_demandLaw (s := { s with resetnLow := false }) h) h

theorem warmReset_demandLaw {s : State} (h : s.demandLaw) : s.warmReset.demandLaw :=
  ite_demandLaw (beginRead_demandLaw (cleared_demandLaw _ _ _)) h

theorem serviceRead_demandLaw {s : State} (h : s.demandLaw) (n : Nat) (early : Bool) :
    (s.serviceRead n early).demandLaw := by
  unfold State.serviceRead
  dsimp only
  repeat' split
  · exact demandLaw_of_frame h (by simp) (by simp)
  · exact demandLaw_of_frame h (by simp) (by simp)
  · exact h

/-- An operation on the record of a run, where there is one. -/
theorem onRecord_demandLaw {s : State} (h : s.demandLaw) {x : Option Sequence} {k : Sequence → State}
    (hk : ∀ q, (k q).demandLaw) : (match x with
      | some q => k q
      | none => s).demandLaw := by
  cases x with
  | none => exact h
  | some q => exact hk q

/-- The expiry of a timer of a run. -/
theorem runExpiry_demandLaw {s : State} (h : s.demandLaw) {t : Timer} {limit : Nat} {act : State → Sequence → State}
    (hd : ∀ u q, (act u q).dar = u.dar) (hs : ∀ u q, (act u q).sst.settings = u.sst.settings) :
    (s.expire t limit (fun u => match u.cdc.seq with
      | some q => act u q
      | none => u)).demandLaw :=
  expire_demandLaw h (fun u hu => onRecord_demandLaw hu (fun q => demandLaw_of_frame hu (hd u q) (hs u q)))

/-- The demand commands, WRITE-CONFIG, the second timer, resets and the start-up touch the demands or the CONFIG; every
other command leaves both as they were. -/
theorem exec_demandLaw {s : State} (h : s.demandLaw) (i : Instr) : ∃ t, exec i s = .next t ∧ t.demandLaw := by
  have frame {t : State} (hd : t.dar = s.dar) (hs : t.sst.settings = s.sst.settings) : t.demandLaw :=
    demandLaw_of_frame h hd hs
  have timer {t : Timer} {limit : Nat} {act : State → State} (hd : ∀ u, (act u).dar = u.dar)
      (hs : ∀ u, (act u).sst.settings = u.sst.settings) : (s.expire t limit act).demandLaw :=
    expire_demandLaw_of_frame h hd hs
  cases i with
  -- supply, resets and store
  | powerOn => exact ⟨_, rfl, powerOn_demandLaw h⟩
  | powerLoss o => exact ⟨_, rfl, powerLoss_demandLaw h o⟩
  | resetnAssert o => exact ⟨_, rfl, resetnAssert_demandLaw h o⟩
  | resetnRelease => exact ⟨_, rfl, resetnRelease_demandLaw h⟩
  | regionReadTimeout r => exact ⟨_, rfl, regionReadTimeout_demandLaw h r⟩
  | storeReadEnd failed => exact ⟨_, rfl, storeReadEnd_demandLaw h failed⟩
  | storeWriteEnd failed => exact ⟨_, rfl, frame (by simp) (by simp)⟩
  | warmReset => exact ⟨_, rfl, warmReset_demandLaw h⟩
  | restartHandoverTimeout => exact ⟨_, rfl, timer (by simp) (by simp)⟩
  -- demands
  | darSecondTimer => exact ⟨_, rfl, whenUp_demandLaw h (expire_demandLaw h (fun _ => darSecond_demandLaw))⟩
  -- readings, conversions, edges and pulses: no timer
  | particleFrame | gasReadEnd | roomReadEnd | coilConversion | probeConversion | fantachPulse | tagReadEnd =>
    exact ⟨_, rfl, whenUp_demandLaw h (frame (by simp) (by simp))⟩
  | switchInputEdge sw b => exact ⟨_, rfl, frame (by simp) (by simp)⟩
  -- timers that run whenever they are running
  | particleWarmupEnd | privateBusSecond | busTransactionTimeout | switchChangeAccepted | fanSpeedWindowEnd
  | regulationBoundary | stallOffTimer | tagReadTime | tagReadAbandon | minuteTimer =>
    exact ⟨_, rfl, whenUp_demandLaw h (timer (by simp) (by simp))⟩
  | particleTimeout | gasTimeout =>
    refine ⟨_, rfl, whenUp_demandLaw h (timer (fun u => ?_) (fun u => ?_))⟩ <;> dsimp only <;> split <;> simp
  -- timers with a guard
  | accountingTick | slotSettleEnd | pulldownCheckExpiry | minimumRunEnd | postRunEnd | frostDetected
  | defrostSuccess | defrostTimeout | tankSettleEnd  =>
    exact ⟨_, rfl, whenUp_demandLaw h (ite_demandLaw (timer (by simp) (by simp)) h)⟩
  | fullReleaseTimer => exact ⟨_, rfl, whenUp_demandLaw h (ite_demandLaw h (timer (by simp) (by simp)))⟩
  | offTimerPassed =>
    refine ⟨_, rfl, whenUp_demandLaw h ?_⟩
    unfold State.offTimerPassed
    split
    · next e _ => exact demandLaw_of_frame (advance_demandLaw h (Config.offTimerMs - e)) (by simp) (by simp)
    · exact h
  -- the timers of a run
  | pumpSample =>
    exact ⟨_, rfl, whenUp_demandLaw h (onRecord_demandLaw h (fun _ => ite_demandLaw (timer (by simp) (by simp)) h))⟩
  | flowTimerPass | highReleaseEnd | transferTimeout =>
    exact ⟨_, rfl, whenUp_demandLaw h (onRecord_demandLaw h (fun _ => runExpiry_demandLaw h (by simp) (by simp)))⟩
  | verifyEnd =>
    refine ⟨_, rfl, whenUp_demandLaw h (onRecord_demandLaw h (fun _ => runExpiry_demandLaw h (fun u q => ?_)
      (fun u q => ?_)))⟩ <;> split <;> simp
  | primeTimeout =>
    exact ⟨_, rfl, whenUp_demandLaw h (onRecord_demandLaw h (fun _ =>
      ite_demandLaw h (runExpiry_demandLaw h (by simp) (by simp))))⟩
  | primeFloatsTimePass =>
    exact ⟨_, rfl, whenUp_demandLaw h (onRecord_demandLaw h (fun _ =>
      ite_demandLaw (runExpiry_demandLaw h (by simp) (by simp)) h))⟩
  -- frames and links
  | readSensors p tag pl | putDemand p tag pl | clearDemand p tag pl | clearAllDemands p tag pl | readPlan p tag pl
  | readDemands p tag pl | loadCurve p tag pl | selectCurve p tag pl | readAirflow p tag pl | readFilters p tag pl
  | resetFilter p tag pl | setStage p tag pl | forgetCartridge p tag pl | readCartridges p tag pl
  | forceDefrost p tag pl | clearLockout p tag pl | readDrying p tag pl | pumpOutNew p tag pl | pumpOutResume p tag pl
  | pumpAbort p tag pl | readTank p tag pl | readLog p tag pl | setCursor p tag pl | setLogJoin p tag pl
  | readEvents p tag pl | setEventMask p tag pl | writeConfig p tag pl | readConfig p tag pl | restart p tag pl
  | badFrame p tag =>
    exact ⟨_, rfl, receive_demandLaw h p _⟩
  | unknownCommand p code tag pl => exact ⟨_, rfl, ite_demandLaw h (receive_demandLaw h p _)⟩
  | frameDiscard p =>
    refine ⟨_, rfl, ite_demandLaw h ?_⟩
    cases p <;> exact h
  | linkGapTimeout => exact ⟨_, rfl, ite_demandLaw (timer (by simp) (by simp)) h⟩
  | linkTransmitEnd => exact ⟨_, rfl, linkTransmitEnd_demandLaw h⟩
  | commandReceptionStart r => exact ⟨_, rfl, receiveBytes_demandLaw h _ _⟩
  | panelFetchWindow n early => exact ⟨_, rfl, ite_demandLaw (frame (by simp) (by simp)) h⟩
  | serviceReadTransaction n early => exact ⟨_, rfl, serviceRead_demandLaw h n early⟩

theorem step_demandLaw {s t : State} (h : s.demandLaw) (hs : step s = .next t) : t.demandLaw := by
  have exec_keeps {s : State} (h : s.demandLaw) {i : Instr} (hi : exec i s = .next t) : t.demandLaw := by
    obtain ⟨u, hu, hlaw⟩ := exec_demandLaw h i
    obtain rfl := Host.Outcome.next.inj (hu.symm.trans hi)
    exact hlaw
  unfold step at hs
  split at hs
  · next c rest _ => exact exec_keeps (s := { s with pending := rest }) h hs
  · unfold stepIdle at hs
    split at hs
    · exact exec_keeps h hs
    · obtain rfl := Host.Outcome.next.inj hs
      exact advance_demandLaw h 1

/-- Settles O60: a resolution establishes the law from a lawful table, every change of the table keeps it lawful, and
nothing else touches the demands or the ranks. -/
theorem demandTableStaysResolved : Obligations.DemandTableStaysResolved :=
  fun _ _ h hs => step_demandLaw h hs

end Sys2Proof.Machine
end

-- The demand commands and the second timer, as their rows answer.
section
namespace Sys2Proof.Machine

/-! ### Entries reported to their origins (R28, R31) -/

/-- The reports touch the flags and the log, so a change of the table commutes with them. -/
theorem reportDropped_setDar (s : State) (x : Dar) (es : List Demand) (ev : DemandRef → Event) :
    (s.setDar x).reportDropped es ev = (s.reportDropped es ev).setDar x := by
  induction es generalizing s with
  | nil => rfl
  | cons e es ih => exact ih ((s.post e.origin .expired).log (ev e.ref))

theorem reportDropped_flagOn {es : List Demand} {e : Demand} (he : e ∈ es) (s : State) (ev : DemandRef → Event) :
    (s.reportDropped es ev).flagOn e.origin .expired :=
  foldl_establishes (P := fun u : State => u.flagOn e.origin .expired)
    (step := fun (u : State) (d : Demand) => (u.post d.origin .expired).log (ev d.ref))
    (fun _ _ h => flagOn_mono (onlyFlags_trans (log_onlyFlags _ _) (raise_onlyFlags _ _)) h) he
    (fun u => flagOn_mono (log_onlyFlags _ _) (post_flagOn u e.origin .expired)) s

theorem resolveTable_handsOn (s : State) (t : List Demand) :
    (s.resolveTable t).handsOn ((s.setDar { s.dar with table := t }).resolve) := settle_handsOn _

/-- A table taken, resolved and handed on raises flags at most. -/
theorem resolved_onlyFlags (s : State) (x : Dar) : (s.setDar x).resolve.settle.onlyFlags s :=
  onlyFlags_trans (settle_onlyFlags _) (onlyFlags_trans (resolve_onlyFlags _) (onlyFlags_of_prt rfl))

/-! ### The second timer (R30, R31) -/

theorem darSecond_counts {s : State} (h : (s.dar.table.map Demand.tick).filter (fun e => e.remaining = some 0) = []) :
    s.darSecond = s.setDar { s.dar with second := some 0, table := s.dar.table.map Demand.tick } :=
  if_pos (List.isEmpty_iff.2 h)

theorem darSecond_expires {s : State}
    (h : (s.dar.table.map Demand.tick).filter (fun e => e.remaining = some 0) ≠ []) :
    s.darSecond = ((s.reportDropped ((s.dar.table.map Demand.tick).filter (fun e => e.remaining = some 0))
      .demandExpired).setDar { s.dar with
        second := some 0
        table := (s.dar.table.map Demand.tick).filter (fun e => e.remaining ≠ some 0) }).resolve.settle := by
  refine (if_neg (fun k => h (List.isEmpty_iff.1 k))).trans ?_
  rw [reportDropped_setDar]
  rfl

/-- Settles O25: an expiry counts every entry down, and reports and resolves where one reached 0. -/
theorem secondTimerCountsDown : Obligations.SecondTimerCountsDown := by
  unfold Obligations.SecondTimerCountsDown
  refine ⟨fun s e hup he => ?_, fun s ev => ⟨rfl, fun e es => rfl⟩⟩
  intro u table gone
  have hrow : exec .darSecondTimer s = .next u.darSecond :=
    exec_of_up rfl hup (expire_running he Config.darSecondMs State.darSecond)
  refine ⟨fun hg => hrow.trans (congrArg _ (darSecond_counts hg)), fun hg => ?_⟩
  rw [darSecond_expires (s := u) hg] at hrow
  exact ⟨_, hrow, settle_handsOn _, fun d hd => flagOn_mono (resolved_onlyFlags _ _) (reportDropped_flagOn hd _ _)⟩

/-! ### Rows of the demand commands -/

/-- A command that a port takes and may send, with its handler's result given. -/
theorem exec_handled {s w : State} {p : Port} {tag : Byte} {i : Instr} {c : Command} {pl : List Byte} {r : Reply}
    (h : s.takes p = true) (hi : exec i s = .next (s.receive p ⟨.known c, tag, pl⟩)) (hf : fits c pl = true)
    (hp : permitted c p (s.rank p) = true) (hy : handle c (s.heard p) p pl = (w, r)) :
    ∃ t, exec i s = .next t ∧ t.answered p tag r.status r.payload ∧ t.onlyAnswers w p := by
  obtain ⟨t, ht, ha, ho⟩ := receive_handled (tag := tag) h hf hp hy
  exact ⟨t, hi.trans (congrArg _ ht), ha, ho⟩

/-! ### CLEAR-DEMAND and CLEAR-ALL-DEMANDS (R26 to R28) -/

theorem cmdClearDemand_beyond (s : State) (p : Port) {pl : List Byte} (h : 3 < arg1 pl 0) :
    cmdClearDemand s p pl = (s, ⟨.badArg, []⟩) := if_pos h

theorem cmdClearDemand_empty {s : State} {p : Port} {pl : List Byte} (h : arg1 pl 0 ≤ 3)
    (he : s.dar.table.any (fun e => e.origin == p && e.slot == arg1 pl 0) = false) :
    cmdClearDemand s p pl = (s, ⟨.notFound, []⟩) := by
  rw [cmdClearDemand, if_neg (Nat.not_lt.2 h), he]
  rfl

theorem cmdClearDemand_held {s : State} {p : Port} {pl : List Byte} (h : arg1 pl 0 ≤ 3)
    (he : s.dar.table.any (fun e => e.origin == p && e.slot == arg1 pl 0) = true) :
    let w := s.resolveTable (s.dar.table.filter (fun e => !(e.origin == p && e.slot == arg1 pl 0)))
    cmdClearDemand s p pl = (w, ⟨.ok, encVersion w⟩) := by
  rw [cmdClearDemand, if_neg (Nat.not_lt.2 h), if_pos he]

theorem clearAll_none {s : State} {c : ClearScope} (h : s.dar.table.filter c.covers = []) (p : Port) :
    s.clearAll p c = (s, ⟨.ok, enc1 0 ++ encVersion s⟩) := if_pos (List.isEmpty_iff.2 h)

theorem clearAll_some {s : State} {c : ClearScope} (h : s.dar.table.filter c.covers ≠ []) (p : Port) :
    let gone := s.dar.table.filter c.covers
    let w := (s.reportDropped (gone.filter (fun e => e.origin != p))
      (fun r => .demandDropped r .serviceClear)).resolveTable (s.dar.table.filter (fun e => !c.covers e))
    s.clearAll p c = (w, ⟨.ok, enc1 gone.length ++ encVersion w⟩) :=
  if_neg (fun k => h (List.isEmpty_iff.1 k))

theorem cmdClearAllDemands_unnamed {p : Port} {pl : List Byte} (h : scopeOf p pl = none) (s : State) :
    cmdClearAllDemands s p pl = (s, ⟨.badArg, []⟩) := by
  rw [cmdClearAllDemands, h]

theorem cmdClearAllDemands_allowed {p : Port} {pl : List Byte} {c : ClearScope} (h : scopeOf p pl = some c)
    (hc : p = .service ∨ c = .one p) (s : State) : cmdClearAllDemands s p pl = s.clearAll p c := by
  rw [cmdClearAllDemands, h]
  exact if_pos hc

theorem cmdClearAllDemands_refused {p : Port} {pl : List Byte} {c : ClearScope} (h : scopeOf p pl = some c)
    (hc : ¬(p = .service ∨ c = .one p)) (s : State) : cmdClearAllDemands s p pl = (s, ⟨.notPermitted, []⟩) := by
  rw [cmdClearAllDemands, h]
  exact if_neg hc

/-- Settles O24: each branch of the two handlers, run as its port's row. -/
theorem clearCommandsRemoveEntries : Obligations.ClearCommandsRemoveEntries := by
  unfold Obligations.ClearCommandsRemoveEntries
  refine ⟨fun s p tag b ht hr => ?_, fun s p tag pl ht hr hl => ?_⟩
  · intro mine r
    have hp : permitted .clearDemand p (s.rank p) = true := by simpa [permitted] using hr
    refine ⟨fun hb hm => ?_, fun hb hm => ?_, fun hb => ?_⟩
    · obtain ⟨t, hrow, hans, honly⟩ :=
        exec_handled (i := .clearDemand p tag [b]) ht rfl rfl hp (cmdClearDemand_held (s := r) hb hm)
      exact ⟨_, t, resolveTable_handsOn r _, hrow, hans, honly⟩
    · exact exec_read ht rfl rfl hp (cmdClearDemand_empty (s := r) hb hm)
    · exact exec_read ht rfl rfl hp (cmdClearDemand_beyond r p hb)
  · have hp : permitted .clearAllDemands p (s.rank p) = true := by simpa [permitted] using hr
    have hf : fits .clearAllDemands pl = true := by simpa [fits] using hl
    refine ⟨fun c hc hallowed => ?_, fun c hc hs hone => ?_, fun hc => ?_⟩
    · intro gone r told
      have hcmd := cmdClearAllDemands_allowed hc hallowed r
      refine ⟨fun hg => ?_, fun hg => ?_⟩
      · obtain ⟨t, hrow, hans, honly⟩ :=
          exec_handled (i := .clearAllDemands p tag pl) ht rfl hf hp (hcmd.trans (clearAll_some (s := r) hg p))
        refine ⟨_, t, ?_, hrow, hans, honly, fun e he hne => ?_⟩
        · have hands := resolveTable_handsOn told (s.dar.table.filter (fun e => !c.covers e))
          rw [show told.dar = r.dar by simp [told]] at hands
          exact hands
        · exact flagOn_mono (resolved_onlyFlags _ _)
            (reportDropped_flagOn (List.mem_filter.2 ⟨he, by simpa using hne⟩) _ _)
      · exact exec_read ht rfl hf hp (hcmd.trans (clearAll_none (s := r) hg p))
    · exact exec_read ht rfl hf hp (cmdClearAllDemands_refused hc (not_or.2 ⟨hs, hone⟩) _)
    · exact exec_read ht rfl hf hp (cmdClearAllDemands_unnamed hc _)

/-! ### PUT-DEMAND (R21 to R25, R182) -/

theorem cmdPutDemand_taken {s : State} {p : Port} {pl : List Byte} {ask : Ask} {rem : Option Nat} {c1 c2 : Bool}
    (hk : arg1 pl 1 ≤ 3) (hs : arg1 pl 0 ≤ 3) (ha : askOf pl = .taken ask c1) (hd : durationOf pl = .taken rem c2) :
    let w := s.resolveTable (putEntry s.dar.table ⟨p, arg1 pl 0, ask, rem, s.rank p, .outranked⟩)
    cmdPutDemand s p pl = (w, ⟨if c1 || c2 then .adjusted else .ok,
      encVersion w ++ encOpt1 ((w.standingAt p (arg1 pl 0)).map (·.code))⟩) := by
  rw [cmdPutDemand, if_neg (Nat.not_lt.2 hk), if_neg (Nat.not_lt.2 hs), ha, hd]

theorem cmdPutDemand_bad {pl : List Byte}
    (h : 3 < arg1 pl 1 ∨ 3 < arg1 pl 0 ∨ askOf pl = .bad ∨ durationOf pl = .bad) (s : State) (p : Port) :
    cmdPutDemand s p pl = (s, ⟨.badArg, []⟩) := by
  unfold cmdPutDemand
  split
  · rfl
  · split
    · rfl
    · split
      · simp_all
      · rfl

theorem askOf_step (slot n lo hi : Byte) : askOf [slot, 0, 0, n, lo, hi] =
    if n = 0 then .bad else .taken (.air (.step (min 10 n.toNat))) (decide (10 < n.toNat)) := by
  simp only [byte_eq_zero_iff]
  rfl

/-- AIR and DRY know two forms. -/
theorem askOf_badForm {kind form : Byte} (hk : kind.toNat < 2) (hf : 2 ≤ form.toNat) (slot n lo hi : Byte) :
    askOf [slot, kind, form, n, lo, hi] = .bad := by
  obtain ⟨m, hm⟩ := Nat.exists_eq_add_of_le' hf
  unfold askOf
  simp only [show arg1 [slot, kind, form, n, lo, hi] 1 = kind.toNat from rfl,
    show arg1 [slot, kind, form, n, lo, hi] 2 = form.toNat from rfl, hm]
  have hkind : kind.toNat = 0 ∨ kind.toNat = 1 := by omega
  rcases hkind with h | h
  · rw [h]
    rfl
  · rw [h]
    rfl

theorem askOf_quiet (slot n b lo hi : Byte) : askOf [slot, 2, n, b, lo, hi] =
    if 2 ≤ b.toNat ∨ n = 0 then .bad
    else .taken (.quiet (min 10 n.toNat) (decide (b = 1))) (decide (10 < n.toNat)) := by
  have hask : askOf [slot, 2, n, b, lo, hi] = match yesNoOf b.toNat with
      | some c => if n.toNat = 0 then .bad else .taken (.quiet (min 10 n.toNat) c) (decide (10 < n.toNat))
      | none => .bad := rfl
  have hone : b = 1 ↔ b.toNat = 1 := BitVec.toNat_eq
  rw [hask, yesNoOf_eq]
  by_cases hb : 2 ≤ b.toNat
  · rw [if_pos (show 1 < b.toNat from hb), if_pos (Or.inl hb)]
  · rw [if_neg (show ¬1 < b.toNat from hb)]
    simp only [hb, false_or, byte_eq_zero_iff, hone]

/-- What a duration field of `d` minutes asks for (R182). -/
def durationFrom (d : Nat) : Checked (Option Nat) :=
  if d = 65535 then .taken none false else if d = 0 then .bad
  else .taken (some (60 * min 1440 d)) (decide (1440 < d))

theorem durationOf_eq (pl : List Byte) :
    durationOf pl = durationFrom (arg2 pl (if arg1 pl 1 = 3 then 2 else 4)) := rfl

theorem durationOf_ask {kind : Byte} (h : kind ≠ 3) (slot a b lo hi : Byte) :
    durationOf [slot, kind, a, b, lo, hi] = durationFrom (lo.toNat + 256 * hi.toNat) := by
  have hk : arg1 [slot, kind, a, b, lo, hi] 1 ≠ 3 := fun e => h (BitVec.toNat_eq.2 e)
  rw [durationOf_eq, if_neg hk, arg2_eq_bytes]
  rfl

theorem durationOf_halt (slot lo hi : Byte) :
    durationOf [slot, 3, lo, hi] = durationFrom (lo.toNat + 256 * hi.toNat) := by
  rw [durationOf_eq, if_pos (show arg1 [slot, 3, lo, hi] 1 = 3 from rfl), arg2_eq_bytes]
  rfl

/-- Settles O23: the judgement of each byte, and the two outcomes of the handler, run as its port's row. -/
theorem putDemandIsCheckedAndResolved : Obligations.PutDemandIsCheckedAndResolved := by
  unfold Obligations.PutDemandIsCheckedAndResolved
  refine ⟨⟨askOf_step, fun slot n lo hi => rfl, fun slot n lo hi => rfl, fun slot n lo hi => rfl,
    fun slot kind form n lo hi hk hf => askOf_badForm hk hf slot n lo hi, askOf_quiet, fun slot lo hi => rfl,
    fun slot kind a b lo hi hk => durationOf_ask hk slot a b lo hi, durationOf_halt⟩, fun s p tag pl ht hr hf => ?_⟩
  have hp : permitted .putDemand p (s.rank p) = true := by simpa [permitted] using hr
  refine ⟨fun ask rem c1 c2 hk hs ha hd => ?_, fun hbad => exec_read ht rfl hf hp (cmdPutDemand_bad hbad _ p)⟩
  intro r kept e
  obtain ⟨t, hrow, hans, honly⟩ :=
    exec_handled (i := .putDemand p tag pl) ht rfl hf hp (cmdPutDemand_taken (s := r) hk hs ha hd)
  exact ⟨_, t, resolveTable_handsOn r _, hrow, hans, honly⟩

end Sys2Proof.Machine
end

-- FILTER events of a change of accounts, and the commands that change one account or the recent list.
section
namespace Sys2Proof.Machine

/-! ### FILTER events of a change of accounts (R67) -/

/-- The FILTER event of a stage whose state in `before` became its state in `t`, told to `u`. -/
def State.tellsFilter (t before u : State) (st : Stage) : State :=
  let new := t.stageState st
  if new = before.stageState st then u
  else
    let y := (u.postAll .filter).log (.filterState st new)
    if new = .worn ∨ new = .exhausted then y.request (.single .filters) else y

theorem tellsFilter_same {t before : State} {st : Stage} (h : t.stageState st = before.stageState st) (u : State) :
    t.tellsFilter before u st = u := if_pos h

/-- Where no slot changed, no stage comes or goes, and a change of state is one that R67 names. -/
theorem postFilter_eq_tellsFilter {t before : State} (hc : t.crd = before.crd) (u : State) (st : Stage) :
    u.postFilter st (before.stageState st) (t.stageState st) = t.tellsFilter before u st := by
  have habsent : t.stageState st = .absent ↔ before.stageState st = .absent := by
    rw [stageState_absent_iff, stageState_absent_iff, State.stagePresent, State.stagePresent, hc]
  unfold State.postFilter State.tellsFilter
  dsimp only
  by_cases h : t.stageState st = before.stageState st
  · rw [if_pos (Or.inl h.symm), if_pos h]
  · have hchange : ¬(before.stageState st = t.stageState st ∨ before.stageState st = .absent ∨
        t.stageState st = .absent) := by
      rintro (k | k | k)
      · exact h k.symm
      · exact h ((habsent.2 k).trans k.symm)
      · exact h (k.trans (habsent.1 k).symm)
    rw [if_neg hchange, if_neg h]

theorem tellsFilter_sameBasis {t before : State} (hc : t.crd = before.crd) (u : State) (st : Stage) :
    (t.tellsFilter before u st).sameBasis u := by
  rw [← postFilter_eq_tellsFilter hc]
  exact postFilter_sameBasis _ _ _ _

/-- The FILTER events follow one another in stage order, each about the accounts as the change left them. -/
theorem filterEvents_eq_foldl {t before : State} (hc : t.crd = before.crd) :
    t.filterEvents before = [Stage.pre, .carb, .fine].foldl (t.tellsFilter before) t := by
  have hstep : ∀ u : State, u.sameBasis t → ∀ st,
      u.postFilter st (before.stageState st) (u.stageState st) = t.tellsFilter before u st := fun u hu st => by
    rw [stageState_congr hu, postFilter_eq_tellsFilter hc]
  have h1 := tellsFilter_sameBasis hc t .pre
  have h2 := sameBasis_trans (tellsFilter_sameBasis hc _ .carb) h1
  simp only [State.filterEvents, List.foldl_cons, List.foldl_nil]
  rw [hstep t (sameBasis_refl t), hstep _ h1, hstep _ h2]

/-- A change that leaves the state of every other stage has the FILTER event of that one stage at most. -/
theorem filterEvents_one {t before : State} (hc : t.crd = before.crd) {st : Stage}
    (h : ∀ st', st' ≠ st → t.stageState st' = before.stageState st') :
    t.filterEvents before = t.tellsFilter before t st := by
  rw [filterEvents_eq_foldl hc]
  simp only [List.foldl_cons, List.foldl_nil]
  cases st with
  | pre => rw [tellsFilter_same (h .fine (by decide)), tellsFilter_same (h .carb (by decide))]
  | carb => rw [tellsFilter_same (h .fine (by decide)), tellsFilter_same (h .pre (by decide))]
  | fine => rw [tellsFilter_same (h .carb (by decide)), tellsFilter_same (h .pre (by decide))]

/-! ### A command at one account (R81) -/

/-- The part with one account changed, before anything is told. -/
def State.withAccount (s : State) (st : Stage) (a : Account) : State :=
  s.setFau { s.fau with accounts := s.fau.accounts.set st a, dirty := true }

theorem withAccount_stageState {s : State} {st st' : Stage} (h : st' ≠ st) (a : Account) :
    (s.withAccount st a).stageState st' = s.stageState st' := by
  unfold State.stageState
  rw [show (s.withAccount st a).fau.accounts.get st' = s.fau.accounts.get st' from
    PerStage.get_set_other s.fau.accounts st st' a h]
  rfl

theorem withAccount_filterEvents (s : State) (st : Stage) (a : Account) :
    (s.withAccount st a).filterEvents s = (s.withAccount st a).tellsFilter s (s.withAccount st a) st :=
  filterEvents_one (show (s.withAccount st a).crd = s.crd from rfl) (fun _ hst => withAccount_stageState hst a)

theorem changeAccount_handsOn (s : State) (st : Stage) (a : Account) :
    (s.changeAccount st a).handsOn
      (((s.withAccount st a).tellsFilter s (s.withAccount st a) st).request (.single .filters)) := by
  rw [← withAccount_filterEvents]
  exact settle_handsOn (((s.withAccount st a).filterEvents s).request (.single .filters))

theorem changeAccount_asked (s : State) (st : Stage) (a : Account) :
    (s.changeAccount st a).asked (.single .filters) :=
  asked_of_sst (settle_sst _) (request_asked _ _)

/-- A stage is PRESENT while its slot is TAGGED or UNTAGGED (R87). -/
theorem stagePresent_iff (s : State) (st : Stage) :
    s.stagePresent st = true ↔ (s.slot st).state = .tagged ∨ (s.slot st).state = .untagged := by
  simp only [State.stagePresent, Slot.present, State.slot, Bool.or_eq_true, beq_iff_eq]

/-! ### RESET-FILTER (R81, R97) -/

theorem cmdResetFilter_noStage {pl : List Byte} (h : stageOf (arg1 pl 0) = none) (s : State) (p : Port) :
    cmdResetFilter s p pl = (s, ⟨.badArg, []⟩) := by
  rw [cmdResetFilter, h]

theorem cmdResetFilter_absent {s : State} {pl : List Byte} {st : Stage} (h : stageOf (arg1 pl 0) = some st)
    (ha : s.stagePresent st = false) (p : Port) : cmdResetFilter s p pl = (s, ⟨.notFound, []⟩) := by
  rw [cmdResetFilter, h]
  exact if_pos (by rw [ha]; rfl)

theorem cmdResetFilter_notWashable {s : State} {pl : List Byte} {st : Stage} (h : stageOf (arg1 pl 0) = some st)
    (hp : s.stagePresent st = true) (ht : (s.slot st).state = .tagged ∧ (s.fau.accounts.get st).washable = false)
    (p : Port) : cmdResetFilter s p pl = (s, ⟨.wrongState, []⟩) := by
  rw [cmdResetFilter, h]
  exact (if_neg (by rw [hp]; decide)).trans (if_pos ht)

theorem cmdResetFilter_taken {s : State} {pl : List Byte} {st : Stage} (h : stageOf (arg1 pl 0) = some st)
    (hp : s.stagePresent st = true) (ht : ¬((s.slot st).state = .tagged ∧ (s.fau.accounts.get st).washable = false))
    (p : Port) :
    let a := (s.fau.accounts.get st).reset
    let w := s.changeAccount st a
    cmdResetFilter s p pl = (w, ⟨.ok, enc1 a.wash ++ enc1 (w.stageState st).code⟩) := by
  rw [cmdResetFilter, h]
  exact (if_neg (by rw [hp]; decide)).trans (if_neg ht)

/-! ### SET-STAGE (R81, R98) -/

theorem cmdSetStage_noStage {pl : List Byte} (h : stageOf (arg1 pl 0) = none) (s : State) (p : Port) :
    cmdSetStage s p pl = (s, ⟨.badArg, []⟩) := by
  rw [cmdSetStage, h]

theorem cmdSetStage_absent {s : State} {pl : List Byte} {st : Stage} (h : stageOf (arg1 pl 0) = some st)
    (ha : s.stagePresent st = false) (p : Port) : cmdSetStage s p pl = (s, ⟨.notFound, []⟩) := by
  rw [cmdSetStage, h]
  exact if_pos (by rw [ha]; rfl)

theorem cmdSetStage_tagged {s : State} {pl : List Byte} {st : Stage} (h : stageOf (arg1 pl 0) = some st)
    (ht : (s.slot st).state = .tagged) (p : Port) : cmdSetStage s p pl = (s, ⟨.wrongState, []⟩) := by
  have hp : s.stagePresent st = true := (stagePresent_iff s st).2 (.inl ht)
  rw [cmdSetStage, h]
  exact (if_neg (by rw [hp]; decide)).trans (if_pos ht)

theorem cmdSetStage_taken {s : State} {pl : List Byte} {st : Stage} (h : stageOf (arg1 pl 0) = some st)
    (ht : (s.slot st).state = .untagged) (p : Port) :
    let c := max 1 (min 65535 (arg2 pl 1))
    let e := min 1000 (arg2 pl 3)
    let k := min 1000 (arg2 pl 5)
    cmdSetStage s p pl = (s.changeAccount st ((s.fau.accounts.get st).setParameters c e k),
      ⟨if c = arg2 pl 1 ∧ e = arg2 pl 3 ∧ k = arg2 pl 5 then .ok else .adjusted, []⟩) := by
  intro c e k
  have hp : s.stagePresent st = true := (stagePresent_iff s st).2 (.inr ht)
  have hc : clampTo 1 65535 (arg2 pl 1) = (c, decide (c ≠ arg2 pl 1)) := clampTo_eq (by decide) _
  have he : clampTo 0 1000 (arg2 pl 3) = (e, decide (e ≠ arg2 pl 3)) := by
    rw [clampTo_eq (by decide), Nat.zero_max]
  have hk : clampTo 0 1000 (arg2 pl 5) = (k, decide (k ≠ arg2 pl 5)) := by
    rw [clampTo_eq (by decide), Nat.zero_max]
  have hst : (if (decide (c ≠ arg2 pl 1) || decide (e ≠ arg2 pl 3) || decide (k ≠ arg2 pl 5)) = true
      then Status.adjusted else .ok) = if c = arg2 pl 1 ∧ e = arg2 pl 3 ∧ k = arg2 pl 5 then .ok else .adjusted := by
    rw [← ite_not]
    simp only [Bool.or_eq_true, decide_eq_true_eq, ne_eq, not_or, Decidable.not_not, and_assoc]
  rw [cmdSetStage, h]
  simp only [hp, ht, hc, he, hk, hst, Bool.not_true, Bool.false_eq_true, if_false, reduceCtorEq]

/-! ### FORGET-CARTRIDGE (R94, R99) -/

/-- A serial argument is its four bytes, the least significant first. -/
theorem arg4_serial (b0 b1 b2 b3 : Byte) : BitVec.ofNat 32 (arg4 [b0, b1, b2, b3] 0) = b3 ++ b2 ++ b1 ++ b0 := by
  apply BitVec.eq_of_toNat_eq
  simp only [BitVec.toNat_append, BitVec.toNat_ofNat, arg4, List.drop_zero, List.take, ofLe]
  have h0 := b0.isLt
  have h1 := b1.isLt
  have h2 := b2.isLt
  rw [← Nat.shiftLeft_add_eq_or_of_lt h2, ← Nat.shiftLeft_add_eq_or_of_lt h1, ← Nat.shiftLeft_add_eq_or_of_lt h0]
  simp only [Nat.shiftLeft_eq]
  have h3 := b3.isLt
  omega

theorem cmdForgetCartridge_zero {pl : List Byte} (h : BitVec.ofNat 32 (arg4 pl 0) = 0) (s : State) (p : Port) :
    cmdForgetCartridge s p pl = (s, ⟨.badArg, []⟩) := if_pos h

theorem cmdForgetCartridge_unlisted {s : State} {pl : List Byte} (h : BitVec.ofNat 32 (arg4 pl 0) ≠ 0)
    (hl : s.findRecent (BitVec.ofNat 32 (arg4 pl 0)) = none) (p : Port) :
    cmdForgetCartridge s p pl = (s, ⟨.notFound, []⟩) := by
  rw [cmdForgetCartridge, if_neg h, hl]

theorem cmdForgetCartridge_listed {s : State} {pl : List Byte} {x : RecentEntry}
    (h : BitVec.ofNat 32 (arg4 pl 0) ≠ 0) (hl : s.findRecent (BitVec.ofNat 32 (arg4 pl 0)) = some x) (p : Port) :
    cmdForgetCartridge s p pl =
      (((s.removeRecent (BitVec.ofNat 32 (arg4 pl 0))).postCartridge x.stage
        (.forgotten (BitVec.ofNat 32 (arg4 pl 0)))).request (.single .recent), ⟨.ok, []⟩) := by
  rw [cmdForgetCartridge, if_neg h, hl]

/-- No entry is found exactly when no entry has the serial. -/
theorem findRecent_eq_none_iff (s : State) (n : BitVec 32) :
    s.findRecent n = none ↔ ∀ x ∈ s.crd.recent, x.serial ≠ n := by
  simp only [State.findRecent, List.find?_eq_none, beq_iff_eq, ne_eq]

/-- Settles O35: each branch of the three handlers, run as its port's row. -/
theorem filterCommandsChangeOneAccount : Obligations.FilterCommandsChangeOneAccount := by
  unfold Obligations.FilterCommandsChangeOneAccount
  intro taken reported
  refine ⟨fun s p tag b ht hr => ?_, fun s tag pl ht hl => ?_, fun s tag b0 b1 b2 b3 ht => ?_⟩
  · have hp : permitted .resetFilter p (s.rank p) = true := by simpa [permitted] using hr
    intro r
    refine ⟨fun hst => exec_read ht rfl rfl hp (cmdResetFilter_noStage (pl := [b]) hst r p), fun st hst => ?_⟩
    intro a wash x
    refine ⟨fun ha => exec_read ht rfl rfl hp (cmdResetFilter_absent (s := r) (pl := [b]) hst ha p),
      fun hpres htag hw => exec_read ht rfl rfl hp (cmdResetFilter_notWashable (s := r) (pl := [b]) hst hpres ⟨htag, hw⟩ p),
      fun hpres hw => ?_⟩
    obtain ⟨t, hrow, hans, honly⟩ := exec_handled (i := .resetFilter p tag [b]) ht rfl rfl hp
      (cmdResetFilter_taken (s := r) (pl := [b]) hst hpres (fun k => Bool.false_ne_true (k.2.symm.trans (hw k.1))) p)
    exact ⟨_, t, changeAccount_handsOn r st a.reset, changeAccount_asked r st _, hrow, hans, honly⟩
  · intro r
    have hf : fits .setStage pl = true := by simpa [fits] using hl
    refine ⟨fun hst => exec_read ht rfl hf rfl (cmdSetStage_noStage hst r .service), fun st hst => ?_⟩
    intro a c e k x
    refine ⟨fun ha => exec_read ht rfl hf rfl (cmdSetStage_absent (s := r) hst ha .service),
      fun htag => exec_read ht rfl hf rfl (cmdSetStage_tagged (s := r) hst htag .service), fun hun => ?_⟩
    obtain ⟨t, hrow, hans, honly⟩ := exec_handled (i := .setStage .service tag pl) ht rfl hf rfl
      (cmdSetStage_taken (s := r) hst hun .service)
    exact ⟨_, t, changeAccount_handsOn r st (a.setParameters c e k), changeAccount_asked r st _, hrow, hans, honly⟩
  · intro r pl serial
    have hs : BitVec.ofNat 32 (arg4 pl 0) = serial := arg4_serial b0 b1 b2 b3
    refine ⟨fun h0 => exec_read ht rfl rfl rfl (cmdForgetCartridge_zero (hs.trans h0) r .service),
      fun h0 hl => exec_read ht rfl rfl rfl (cmdForgetCartridge_unlisted (s := r) (hs ▸ h0)
        (hs ▸ (findRecent_eq_none_iff r serial).2 hl) .service), fun x h0 hx => ?_⟩
    have hcmd := cmdForgetCartridge_listed (s := r) (pl := pl) (hs ▸ h0) (hs ▸ hx) .service
    rw [hs] at hcmd
    exact exec_handled (i := .forgetCartridge .service tag pl) ht rfl rfl rfl hcmd

end Sys2Proof.Machine
end

-- Verdicts on a cartridge: what each binds, and how a tag read ends in it.
section
namespace Sys2Proof.Machine

/-! ### Tag data (R89) -/

/-- The words of a tag that are clamped are clamped as R89 says. -/
theorem good_eq_some_iff (raw : RawTag) (tag : TagData) :
    RawTag.good raw = some tag ↔
      raw.serial ≠ 0 ∧ raw.stageType = some tag.stageType ∧ tag =
        { serial := raw.serial, stageType := tag.stageType
          c := if raw.capacity = 0 then 1 else raw.capacity.toNat
          e := min 1000 raw.efficiency.toNat, k := min 1000 raw.restriction.toNat, washable := raw.washable } := by
  have hc : max 1 raw.capacity.toNat = if raw.capacity = 0 then 1 else raw.capacity.toNat := by
    split
    · next h => rw [h]; rfl
    · next h =>
      have hne : raw.capacity.toNat ≠ 0 := fun k => h (BitVec.eq_of_toNat_eq k)
      omega
  unfold RawTag.good
  rw [hc]
  cases raw.stageType with
  | none => simp
  | some ty =>
    by_cases h : raw.serial = 0
    · simp [h]
    · simp only [h, if_false, Option.some.injEq, ne_eq, not_false_eq_true, true_and]
      exact ⟨fun e => e ▸ ⟨rfl, rfl⟩, fun e => e.1 ▸ e.2.symm⟩

/-! ### Slots -/

@[simp] theorem setSlot_self (s : State) (st : Stage) : s.setSlot st (s.slot st) = s := by cases st <;> rfl

@[simp] theorem settle_slot (s : State) (st : Stage) : s.settle.slot st = s.slot st := by simp [State.slot]

theorem postCartridge_flagOnAll (s : State) (st : Stage) (v : CartridgeValue) :
    (s.postCartridge st v).flagOnAll .cartridge :=
  flagOnAll_mono (log_onlyFlags _ _) _ (postAll_flagOnAll s .cartridge)

/-- No account and no entry of the recent list changed. -/
def State.sameBindings (t s : State) : Prop := t.fau.accounts = s.fau.accounts ∧ t.crd.recent = s.crd.recent

/-! ### Bindings (R80, R92 to R95) -/

/-- The recent list `l` after the outgoing account `a` of a stage: a TAGGED one joins it at its front. -/
def Account.joins (a : Account) (st : Stage) (l : List RecentEntry) : List RecentEntry :=
  match a.serial with
  | some n => ⟨n, st, a.load, a.wash⟩ :: (if 4 ≤ l.length then l.dropLast else l)
  | none => l

theorem keepOutgoing_crd (s : State) (st : Stage) : (s.keepOutgoing st).crd =
    { s.crd with recent := (s.fau.accounts.get st).joins st s.crd.recent } := by
  unfold State.keepOutgoing Account.joins
  dsimp only
  cases (s.fau.accounts.get st).serial with
  | none => rfl
  | some n => exact addRecent_recent s _

/-- `t` is `s` after its stage was bound to a new account, the outgoing one having joined the recent list `l`. -/
structure State.Rebound (t s : State) (st : Stage) (a : Account) (l : List RecentEntry) : Prop where
  accounts : t.fau.accounts = s.fau.accounts.set st a
  crd : t.crd = { s.crd with recent := (s.fau.accounts.get st).joins st l }
  asked : t.asked ⟨false, true, true, false⟩
  flag : t.flagOnAll .cartridge

/-- The new account, the list and the checkpoint of a binding. -/
def State.bound (t s : State) (st : Stage) (a : Account) (l : List RecentEntry) : Prop :=
  t.fau.accounts = s.fau.accounts.set st a ∧ t.crd.recent = (s.fau.accounts.get st).joins st l ∧
  t.asked ⟨false, true, true, false⟩

/-- A binding in a slot with the verdict `x`, and the hand-overs after it. -/
theorem State.Rebound.settled {t s : State} {st : Stage} {x : Slot} {a : Account} {l : List RecentEntry}
    (h : t.Rebound (s.setSlot st x) st a l) :
    t.settle.slot st = x ∧ t.settle.flagOnAll .cartridge ∧ t.settle.bound s st a l := by
  obtain ⟨haccounts, hcrd, hasked, hflag⟩ := h
  refine ⟨?_, settle_flagOnAll hflag, (settle_accounts t).trans haccounts, ?_, asked_of_sst (settle_sst t) hasked⟩
  · rw [settle_slot, State.slot, hcrd]
    exact setSlot_slot s st x
  · rw [show t.settle.crd = t.crd by simp, hcrd]
    rfl

/-- A cartridge that goes on with its account in a slot with the verdict `x`, and the hand-overs after it. -/
theorem resumed_settled (s : State) (st : Stage) (x : Slot) :
    let t := ((s.setSlot st x).postCartridge st .resumed).settle
    t.slot st = x ∧ t.flagOnAll .cartridge ∧ t.sameBindings s :=
  ⟨(settle_slot _ st).trans (setSlot_slot s st x), settle_flagOnAll (postCartridge_flagOnAll _ st _),
    settle_accounts _, by simp [State.setSlot]⟩

section
variable {v s : State} {l : List RecentEntry} (hf : v.fau = s.fau) (hc : v.crd = { s.crd with recent := l })
include hf hc

/-- Every new binding keeps the outgoing account and then binds. -/
theorem bind_rebound (st : Stage) (a : Account) (c : CartridgeValue) :
    ((v.keepOutgoing st).bind st a c).Rebound s st a l where
  accounts := by simp [hf]
  crd := by simp [keepOutgoing_crd, hf, hc]
  asked := request_asked _ _
  flag := bind_flagOnAll _ _ _ _

theorem bindNewTagged_rebound (st : Stage) (tag : TagData) :
    (v.bindNewTagged st tag).Rebound s st
      (newTaggedAccount tag (lostAfterNew (s.fau.accounts.get st) (s.slot st).removed)) l := by
  have h := bind_rebound hf hc st
    (newTaggedAccount tag (lostAfterNew (v.fau.accounts.get st) (v.slot st).removed)) .newTagged
  rw [hf, show v.slot st = s.slot st by rw [State.slot, hc]; rfl] at h
  unfold State.bindNewTagged
  rw [hf, show v.slot st = s.slot st by rw [State.slot, hc]; rfl]
  exact h

end

/-- With no serial twice in a list, an entry of it is the one found by its serial. -/
theorem find_serial_of_mem {l : List RecentEntry} (hn : (l.map (·.serial)).Nodup) {x : RecentEntry} (hx : x ∈ l) :
    l.find? (fun e => e.serial == x.serial) = some x := by
  induction l with
  | nil => cases hx
  | cons y ys ih =>
    obtain ⟨hy, hys⟩ := List.nodup_cons.1 hn
    rcases List.mem_cons.1 hx with rfl | hmem
    · exact List.find?_cons_of_pos (beq_iff_eq.2 rfl)
    · have hne : y.serial ≠ x.serial := fun h => hy (List.mem_map.2 ⟨x, hmem, h.symm⟩)
      rw [List.find?_cons_of_neg (p := fun e : RecentEntry => e.serial == x.serial) (fun h => hne (beq_iff_eq.1 h))]
      exact ih hys hmem

theorem findRecent_of_mem {s : State} (hn : (s.crd.recent.map (·.serial)).Nodup) {x : RecentEntry}
    (hx : x ∈ s.crd.recent) : s.findRecent x.serial = some x := find_serial_of_mem hn hx

/-- The account that a tag is bound to when the recent list holds its serial. -/
def listedOrNew (st : Stage) (tag : TagData) (lost : Bool) (x : RecentEntry) : Account :=
  if x.stage = st then listedAccount tag x else newTaggedAccount tag lost

/-! ### The binding of a verdict (R92, R93) -/

/-- The stage's own cartridge goes on. -/
theorem bindTagged_own {s : State} {st : Stage} {tag : TagData} (h : (s.fau.accounts.get st).serial = some tag.serial) :
    s.bindTagged st tag = s.postCartridge st .resumed := if_pos h

/-- A cartridge that is neither the stage's own nor listed is new. -/
theorem bindTagged_new {s : State} {st : Stage} {tag : TagData} (h : (s.fau.accounts.get st).serial ≠ some tag.serial)
    (hnone : s.findRecent tag.serial = none) :
    (s.bindTagged st tag).Rebound s st
      (newTaggedAccount tag (lostAfterNew (s.fau.accounts.get st) (s.slot st).removed)) s.crd.recent := by
  have ht : s.bindTagged st tag = s.bindNewTagged st tag := by
    simp only [State.bindTagged]
    rw [if_neg h, hnone]
  rw [ht]
  exact bindNewTagged_rebound rfl rfl st tag

/-- A listed cartridge leaves the list; one listed for another stage is new. -/
theorem bindTagged_listed {s : State} {st : Stage} {tag : TagData} {x : RecentEntry}
    (h : (s.fau.accounts.get st).serial ≠ some tag.serial) (hsome : s.findRecent tag.serial = some x) :
    (s.bindTagged st tag).Rebound s st
      (listedOrNew st tag (lostAfterNew (s.fau.accounts.get st) (s.slot st).removed) x)
      (s.crd.recent.filter (fun y => y.serial != tag.serial)) := by
  let u := s.removeRecent tag.serial
  by_cases hst : x.stage = st
  · have ht : s.bindTagged st tag = (u.keepOutgoing st).bind st (listedAccount tag x) .listed := by
      simp only [State.bindTagged]
      rw [if_neg h, hsome]
      exact if_pos hst
    rw [ht, listedOrNew, if_pos hst]
    exact bind_rebound (v := u) (s := s) rfl rfl st _ _
  · have ht : s.bindTagged st tag = (u.postCartridge x.stage (.forgotten tag.serial)).bindNewTagged st tag := by
      simp only [State.bindTagged]
      rw [if_neg h, hsome]
      exact if_neg hst
    rw [ht, listedOrNew, if_neg hst]
    exact bindNewTagged_rebound (v := u.postCartridge x.stage (.forgotten tag.serial)) (s := s) rfl rfl st tag

/-- An untagged account goes on. -/
theorem bindUntagged_own {s : State} {st : Stage} (h : (s.fau.accounts.get st).serial = none) :
    s.bindUntagged st = s.postCartridge st .resumed := by
  simp only [State.bindUntagged, h]

/-- The untagged defaults take a tagged account's place. -/
theorem bindUntagged_new {s : State} {st : Stage} (h : (s.fau.accounts.get st).serial ≠ none) :
    (s.bindUntagged st).Rebound s st
      (newUntaggedAccount (s.sst.settings.untagged.get st)
        (lostAfterNew (s.fau.accounts.get st) (s.slot st).removed)) s.crd.recent := by
  obtain ⟨n, hn⟩ := Option.ne_none_iff_exists'.1 h
  simp only [State.bindUntagged, hn]
  exact bind_rebound rfl rfl st _ _

/-! ### Verdicts (R90, R91) -/

theorem serialElsewhere_iff (s : State) (st : Stage) (n : BitVec 32) :
    s.serialElsewhere st n = true ↔ ∃ st', st' ≠ st ∧ (s.fau.accounts.get st').serial = some n := by
  simp only [State.serialElsewhere, Bool.or_eq_true, Bool.and_eq_true, bne_iff_ne, beq_iff_eq]
  constructor
  · rintro ((⟨h, k⟩ | ⟨h, k⟩) | ⟨h, k⟩)
    · exact ⟨.pre, h.symm, k⟩
    · exact ⟨.carb, h.symm, k⟩
    · exact ⟨.fine, h.symm, k⟩
  · rintro ⟨st', h, k⟩
    cases st' with
    | pre => exact .inl (.inl ⟨h.symm, k⟩)
    | carb => exact .inl (.inr ⟨h.symm, k⟩)
    | fine => exact .inr ⟨h.symm, k⟩

/-- A slot enters MISMATCH with its cause, and CARTRIDGE says so unless it stood there (R90). -/
theorem enterMismatch_spec (s : State) (st : Stage) (c : MismatchCause) :
    let t := s.enterMismatch st c
    t.slot st = { s.slot st with state := .mismatch, cause := some c } ∧ t.sameBindings s ∧
    ((s.slot st).state ≠ .mismatch → t.flagOnAll .cartridge) := by
  intro t
  let x := s.setSlot st { s.slot st with state := .mismatch, cause := some c }
  have hslot : x.slot st = { s.slot st with state := .mismatch, cause := some c } := setSlot_slot _ _ _
  by_cases h : (s.slot st).state = .mismatch
  · have ht : t = x.settle := if_pos h
    rw [ht]
    exact ⟨(settle_slot x st).trans hslot, ⟨settle_accounts x, by simp [x, State.setSlot]⟩, fun k => absurd h k⟩
  · have ht : t = (x.postCartridge st (.mismatch c)).settle := if_neg h
    rw [ht]
    exact ⟨(settle_slot _ st).trans hslot, ⟨settle_accounts _, by simp [x, State.setSlot]⟩,
      fun _ => settle_flagOnAll (postCartridge_flagOnAll x st _)⟩

/-- The state in which a good tag is judged: the tag is taken and the failed reads are over. -/
def State.withTag (s : State) (st : Stage) (tag : TagData) : State :=
  s.setSlot st { s.slot st with fails := 0, tag := some tag }

theorem judgeGood_wrongType {st : Stage} {tag : TagData} (h : tag.stageType ≠ st) (s : State) :
    s.judgeGood st tag = (s.withTag st tag).enterMismatch st .wrongType := if_pos h

theorem judgeGood_duplicate {s : State} {st : Stage} {tag : TagData} (h : tag.stageType = st)
    (he : ∃ st', st' ≠ st ∧ (s.fau.accounts.get st').serial = some tag.serial) :
    s.judgeGood st tag = (s.withTag st tag).enterMismatch st .duplicateSerial :=
  (if_neg (not_not_intro h)).trans (if_pos ((serialElsewhere_iff s st tag.serial).2 he))

theorem judgeGood_tagged {s : State} {st : Stage} {tag : TagData} (h : tag.stageType = st)
    (he : ¬∃ st', st' ≠ st ∧ (s.fau.accounts.get st').serial = some tag.serial) :
    s.judgeGood st tag = ((s.setSlot st { s.slot st with
      fails := 0, tag := some tag, state := .tagged, cause := none }).bindTagged st tag).settle := by
  have hw : (s.withTag st tag).setSlot st { (s.withTag st tag).slot st with state := .tagged, cause := none } =
      s.setSlot st { s.slot st with fails := 0, tag := some tag, state := .tagged, cause := none } := by
    simp [State.withTag]
  rw [← hw]
  exact (if_neg (not_not_intro h)).trans (if_neg fun k => he ((serialElsewhere_iff s st tag.serial).1 k))

/-- The slot of a good read's verdict: its tag, no failed reads, and the state and cause of the verdict. -/
def Slot.verdict (x : Slot) (tag : TagData) (state : SlotState) (cause : Option MismatchCause) : Slot :=
  { x with fails := 0, tag := some tag, state := state, cause := cause }

/-- A verdict of MISMATCH (R90): no account changes. -/
theorem judgeGood_mismatch {s : State} {st : Stage} {tag : TagData} {c : MismatchCause}
    (h : s.judgeGood st tag = (s.withTag st tag).enterMismatch st c) :
    let t := s.judgeGood st tag
    t.slot st = (s.slot st).verdict tag .mismatch (some c) ∧ t.sameBindings s ∧
    ((s.slot st).state ≠ .mismatch → t.flagOnAll .cartridge) := by
  intro t
  have hspec := enterMismatch_spec (s.withTag st tag) st c
  rw [← h, show (s.withTag st tag).slot st = _ from setSlot_slot _ _ _] at hspec
  exact hspec

/-- A verdict of TAGGED (R90, R92): the slot, and the binding with the hand-overs after it. -/
theorem judgeGood_bound {s : State} {st : Stage} {tag : TagData} (h : tag.stageType = st)
    (he : ¬∃ st', st' ≠ st ∧ (s.fau.accounts.get st').serial = some tag.serial) :
    let t := s.judgeGood st tag
    let a := s.fau.accounts.get st
    let lost := lostAfterNew a (s.slot st).removed
    (t.slot st = (s.slot st).verdict tag .tagged none ∧ t.flagOnAll .cartridge) ∧
    (a.serial = some tag.serial → t.sameBindings s) ∧
    (a.serial ≠ some tag.serial → s.findRecent tag.serial = none →
      t.bound s st (newTaggedAccount tag lost) s.crd.recent) ∧
    (∀ x, a.serial ≠ some tag.serial → s.findRecent tag.serial = some x →
      t.bound s st (listedOrNew st tag lost x) (s.crd.recent.filter (fun y => y.serial != tag.serial))) := by
  intro t a lost
  let x := (s.slot st).verdict tag .tagged none
  let u := s.setSlot st x
  have ht : t = (u.bindTagged st tag).settle := judgeGood_tagged h he
  have hslot : u.slot st = x := setSlot_slot s st x
  have own (ha : a.serial = some tag.serial) : t.slot st = x ∧ t.flagOnAll .cartridge ∧ t.sameBindings s := by
    rw [ht, bindTagged_own (s := u) ha]
    exact resumed_settled s st x
  have new (ha : a.serial ≠ some tag.serial) (hf : s.findRecent tag.serial = none) := by
    have hb := State.Rebound.settled (bindTagged_new (s := u) ha hf)
    rwa [← ht, hslot] at hb
  have listed (y : RecentEntry) (ha : a.serial ≠ some tag.serial) (hf : s.findRecent tag.serial = some y) := by
    have hb := State.Rebound.settled (bindTagged_listed (s := u) ha hf)
    rwa [← ht, hslot] at hb
  have hverdict : t.slot st = x ∧ t.flagOnAll .cartridge := by
    by_cases ha : a.serial = some tag.serial
    · exact ⟨(own ha).1, (own ha).2.1⟩
    · cases hf : s.findRecent tag.serial with
      | none => exact ⟨(new ha hf).1, (new ha hf).2.1⟩
      | some y => exact ⟨(listed y ha hf).1, (listed y ha hf).2.1⟩
  exact ⟨hverdict, fun ha => (own ha).2.2, fun ha hf => (new ha hf).2.2, fun y ha hf => (listed y ha hf).2.2⟩

/-! ### Tag reads (R89 to R91) -/

/-- The part when the read in progress of a slot has ended. -/
def State.readOver (s : State) (st : Stage) : State := s.setSlot st { s.slot st with reading := none }

@[simp] theorem readOver_slot (s : State) (st : Stage) :
    (s.readOver st).slot st = { s.slot st with reading := none } := setSlot_slot s st _

theorem tagReadEnd_good {s : State} {st : Stage} {e : Nat} {raw : RawTag} {tag : TagData}
    (hr : (s.slot st).reading = some e) (hg : RawTag.good raw = some tag) :
    s.tagReadEnd st (some raw) = (s.readOver st).goodRead st tag := by
  simp only [State.tagReadEnd, hr, Option.bind_some, hg]
  rfl

theorem tagReadEnd_failed {s : State} {st : Stage} {e : Nat} (hr : (s.slot st).reading = some e) :
    s.tagReadEnd st none = (s.readOver st).failedRead st := by
  simp only [State.tagReadEnd, hr, Option.bind_none]
  rfl

/-- A good read of a cartridge without a verdict, or with one that may be given again, is judged. -/
theorem goodRead_judged {s : State} {st : Stage}
    (h : (s.slot st).state = .identifying ∨ (s.slot st).state = .untagged ∨ (s.slot st).state = .mismatch)
    (tag : TagData) : s.goodRead st tag = s.judgeGood st tag := by
  rcases h with h | h | h <;> simp only [State.goodRead, h]

/-- The bound tag read again. -/
theorem goodRead_again {s : State} {st : Stage} {tag : TagData} (h : (s.slot st).state = .tagged)
    (hs : (s.fau.accounts.get st).serial = some tag.serial) (ht : tag.stageType = st) :
    s.goodRead st tag = s.withTag st tag := by
  simp only [State.goodRead, h]
  rw [if_pos ⟨hs, ht⟩, ← h]
  rfl

/-- A removal as a TAGGED slot's read of another tag shows it, before its hand-overs. -/
def State.foundRemoved (s : State) (st : Stage) : State :=
  (s.setSlot st { s.slot st with state := .identifying, fails := 0, removed := true }).postCartridge st .removed

/-- Another tag in a TAGGED slot: the removal is handed on, and the tag is judged (log 26). -/
theorem goodRead_other {s : State} {st : Stage} {tag : TagData} (h : (s.slot st).state = .tagged)
    (ho : (s.fau.accounts.get st).serial ≠ some tag.serial ∨ tag.stageType ≠ st) :
    s.goodRead st tag = (s.foundRemoved st).settle.judgeGood st tag := by
  have hremoved : (s.setSlot st { s.slot st with state := .identifying, fails := 0 }).postRemoved st =
      s.foundRemoved st := by
    simp only [State.postRemoved, State.foundRemoved, setSlot_slot, setSlot_setSlot]
  simp only [State.goodRead, h]
  rw [if_neg (fun k => ho.elim (fun n => n k.1) (fun n => n k.2)), hremoved]

/-- A third failed read in IDENTIFYING (R90, R93): the slot is UNTAGGED, and the binding is handed on. -/
theorem failedRead_third {s : State} {st : Stage} (h : (s.slot st).state = .identifying) (hf : 2 ≤ (s.slot st).fails) :
    let t := s.failedRead st
    let a := s.fau.accounts.get st
    (t.slot st = { s.slot st with fails := 3, state := .untagged, cause := none } ∧ t.flagOnAll .cartridge) ∧
    (a.serial = none → t.sameBindings s) ∧
    (a.serial ≠ none → t.bound s st (newUntaggedAccount (s.sst.settings.untagged.get st)
      (lostAfterNew a (s.slot st).removed)) s.crd.recent) := by
  intro t a
  let x : Slot := { s.slot st with fails := 3, state := .untagged, cause := none }
  have ht : t = ((s.setSlot st x).bindUntagged st).settle := by
    simp only [t, State.failedRead, h, setSlot_setSlot]
    exact if_pos (show 3 ≤ (s.slot st).fails + 1 by omega)
  have own (ha : a.serial = none) : t.slot st = x ∧ t.flagOnAll .cartridge ∧ t.sameBindings s := by
    rw [ht, bindUntagged_own (s := s.setSlot st x) ha]
    exact resumed_settled s st x
  have new (ha : a.serial ≠ none) := by
    have hb := State.Rebound.settled (bindUntagged_new (s := s.setSlot st x) ha)
    rwa [← ht, show (s.setSlot st x).slot st = x from setSlot_slot s st x] at hb
  have hverdict : t.slot st = x ∧ t.flagOnAll .cartridge := by
    by_cases ha : a.serial = none
    · exact ⟨(own ha).1, (own ha).2.1⟩
    · exact ⟨(new ha).1, (new ha).2.1⟩
  exact ⟨hverdict, fun ha => (own ha).2.2, fun ha => (new ha).2.2⟩

/-- A tag read changes the parts of a verdict and its hand-overs at most. -/
theorem tagReadEnd_parts (s : State) (st : Stage) (answer : Option RawTag) :
    (s.tagReadEnd st answer).sameBut s [.fau, .afc, .crd, .drc, .sst, .tlg, .prt] :=
  fun b hb => tagReadEnd_sameBut s st answer b (by cases b <;> first | rfl | exact hb)

/-- A TAGGED slot that reads another tag is a removal, handed on, and then a read of a cartridge without a verdict. -/
theorem tagReadEnd_other {s : State} {st : Stage} {e : Nat} {raw : RawTag} {tag : TagData}
    (hr : (s.slot st).reading = some e) (hg : RawTag.good raw = some tag) (h : (s.slot st).state = .tagged)
    (ho : (s.fau.accounts.get st).serial ≠ some tag.serial ∨ tag.stageType ≠ st) :
    let w := ((s.readOver st).foundRemoved st).settle
    s.tagReadEnd st (some raw) = (w.setSlot st { w.slot st with reading := some 0 }).tagReadEnd st (some raw) := by
  intro w
  have hw : w.slot st = { s.slot st with reading := none, state := .identifying, fails := 0, removed := true } := by
    rw [settle_slot, State.foundRemoved, readOver_slot]
    exact setSlot_slot _ st _
  have hover : (w.setSlot st { w.slot st with reading := some 0 }).readOver st = w := by
    have hnone : ({ w.slot st with reading := none } : Slot) = w.slot st := by rw [hw]
    simp only [State.readOver, setSlot_slot, setSlot_setSlot]
    rw [hnone, setSlot_self]
  have hread : ((w.setSlot st { w.slot st with reading := some 0 }).slot st).reading = some 0 := by
    rw [setSlot_slot]
  rw [tagReadEnd_good hr hg, tagReadEnd_good hread hg, hover, goodRead_judged (s := w) (.inl (by rw [hw])),
    goodRead_other (s := s.readOver st) (by rw [readOver_slot]; exact h) ho]

@[simp] theorem settle_up (s : State) : s.settle.up = s.up := by simp [State.up, State.live, settle_sst]

@[simp] theorem setSlot_up (s : State) (st : Stage) (x : Slot) : (s.setSlot st x).up = s.up := rfl

@[simp] theorem foundRemoved_up (s : State) (st : Stage) : (s.foundRemoved st).up = s.up := rfl

theorem exec_tagReadEnd {s : State} (h : s.up = true) (st : Stage) (answer : Option RawTag) :
    exec (.tagReadEnd st answer) s = .next (s.tagReadEnd st answer) := exec_of_up rfl h rfl

/-- What a verdict on a read that is over leaves in its slot. -/
theorem verdict_slot {t s : State} {st : Stage} {tag : TagData} {state : SlotState} {cause : Option MismatchCause}
    (h : t.slot st = ((s.readOver st).slot st).verdict tag state cause) :
    (t.slot st).tag = some tag ∧ (t.slot st).fails = 0 ∧ (t.slot st).reading = none ∧ (t.slot st).state = state ∧
      (t.slot st).cause = cause := by
  rw [h, readOver_slot]
  exact ⟨rfl, rfl, rfl, rfl, rfl⟩

/-- Settles O37: the verdict on a good read is MISMATCH for one of two causes, or TAGGED with one of three bindings;
a read of another tag is a removal before it; and a third failed read makes the slot UNTAGGED. -/
theorem tagVerdictsBindTheirAccounts : Obligations.TagVerdictsBindTheirAccounts := by
  unfold Obligations.TagVerdictsBindTheirAccounts
  refine ⟨fun s st e hup hlaw hr => ?_, good_eq_some_iff⟩
  obtain ⟨-, hnodup, hcurrent, -⟩ := hlaw
  intro a lost joined bound kept
  refine ⟨fun raw tag hg => ?_, fun hst hfails => ?_⟩
  · intro elsewhere blank
    let t := s.tagReadEnd st (some raw)
    have hrow : exec (.tagReadEnd st (some raw)) s = .next t := exec_tagReadEnd hup st _
    refine ⟨fun hst => ?_, fun hst hs hty => ?_, fun hst ho => ?_⟩
    · have ht : t = (s.readOver st).judgeGood st tag :=
        (tagReadEnd_good hr hg).trans (goodRead_judged (by rw [readOver_slot]; exact hst) tag)
      have hparts : t.sameBut s _ := tagReadEnd_parts s st (some raw)
      have hstate : ((s.readOver st).slot st).state = (s.slot st).state := by rw [readOver_slot]
      refine ⟨t, hrow, ?_⟩
      by_cases hty : tag.stageType = st
      · by_cases he : elsewhere
        · obtain ⟨hslot, hkept, hflag⟩ := judgeGood_mismatch (judgeGood_duplicate (s := s.readOver st) hty he)
          rw [← ht] at hslot hkept hflag
          rw [hstate] at hflag
          obtain ⟨htag, hfails, hreading, hmis, hcause⟩ := verdict_slot hslot
          exact ⟨htag, hfails, hreading, hparts, hflag, fun k => absurd hty k,
            fun _ _ => ⟨hkept, hmis, hcause⟩, fun _ k => absurd he k⟩
        · obtain ⟨⟨hslot, hflag⟩, hown, hnew, hlisted⟩ := judgeGood_bound (s := s.readOver st) hty he
          rw [← ht] at hslot hflag hown hnew hlisted
          rw [readOver_slot] at hnew hlisted
          obtain ⟨htag, hfails, hreading, htagged, hcause⟩ := verdict_slot hslot
          refine ⟨htag, hfails, hreading, hparts, fun _ => hflag, fun k => absurd hty k, fun _ k => absurd k he,
            fun _ _ => ⟨htagged, hcause, hflag, hown, fun ha hl => hnew ha ((findRecent_eq_none_iff _ _).2 hl),
              fun x hx hserial => ?_⟩⟩
          have ha : a.serial ≠ some tag.serial := hserial ▸ hcurrent x hx st
          exact hlisted x ha (hserial ▸ findRecent_of_mem hnodup hx)
      · obtain ⟨hslot, hkept, hflag⟩ := judgeGood_mismatch (judgeGood_wrongType hty (s.readOver st))
        rw [← ht] at hslot hkept hflag
        rw [hstate] at hflag
        obtain ⟨htag, hfails, hreading, hmis, hcause⟩ := verdict_slot hslot
        exact ⟨htag, hfails, hreading, hparts, hflag, fun _ => ⟨hkept, hmis, hcause⟩,
          fun k => absurd k hty, fun k => absurd k hty⟩
    · have ht : t = (s.readOver st).withTag st tag :=
        (tagReadEnd_good hr hg).trans (goodRead_again (by rw [readOver_slot]; exact hst) hs hty)
      rw [hrow, ht]
      simp only [State.withTag, State.readOver, setSlot_slot, setSlot_setSlot]
    · refine ⟨((s.readOver st).foundRemoved st).settle, ?_, ?_⟩
      · have hh := settle_handsOn ((s.readOver st).foundRemoved st)
        simp only [State.foundRemoved, State.readOver, setSlot_slot, setSlot_setSlot] at hh
        simp only [State.foundRemoved, State.readOver, setSlot_slot, setSlot_setSlot]
        exact hh
      · have hother := tagReadEnd_other hr hg hst ho
        rw [exec_tagReadEnd hup, exec_tagReadEnd (by simpa [State.readOver] using hup), hother]
  · have ht := tagReadEnd_failed hr
    obtain ⟨⟨hslot, hflag⟩, hown, hnew⟩ := failedRead_third (s := s.readOver st) (st := st) (by simpa using hst) (by simpa using hfails)
    rw [← ht] at hslot hflag hown hnew
    refine ⟨_, exec_tagReadEnd hup st none, ?_, ?_, hflag, tagReadEnd_parts _ _ _, hown, fun ha => ?_⟩
    · rw [hslot]
    · rw [hslot]
    · have hb := hnew ha
      rw [readOver_slot] at hb
      exact hb

end Sys2Proof.Machine
end

-- The accounting tick: its masses, the FILTER events after it, and the checkpoints it asks for.
section
namespace Sys2Proof.Machine

/-! ### What one stage captures and books (R72 to R75) -/

theorem capture_conserves {a : Account} (h : a.lawful) (present : Bool) (m : Nat) :
    (a.capture present m).captured.getD 0 + (a.capture present m).passed = m := by
  obtain ⟨-, he, -, -, hrem⟩ := h
  cases present with
  | false => exact Nat.zero_add m
  | true =>
    have hle : m * a.e ≤ m * 1000 := Nat.mul_le_mul_left m he
    have hcap : (m * a.e + a.rem) / 1000 ≤ m := by omega
    exact Nat.add_sub_cancel' hcap

theorem capture_present (a : Account) (m : Nat) :
    (a.capture true m).captured.isSome = true ∧
    1000 * (a.capture true m).captured.getD 0 + (a.capture true m).rem = m * a.e + a.rem ∧
    (a.capture true m).rem < 1000 :=
  ⟨rfl, Nat.div_add_mod _ _, Nat.mod_lt _ (by decide)⟩

theorem book_conserves (a : Account) (n : Nat) : (a.book n).1 + (a.book n).2 = a.load + n := by
  simp only [Account.book]
  omega

/-! ### The results of a tick (R70 to R75) -/

/-- The mass that reaches a stage: what the stages before it passed on. -/
def State.tickReach (u : State) : Stage → Nat
  | .pre => u.tickResult.record.mIn
  | .carb => (u.fau.accounts.pre.capture (u.stagePresent .pre) u.tickResult.record.mIn).passed
  | .fine => (u.fau.accounts.carb.capture (u.stagePresent .carb)
      (u.fau.accounts.pre.capture (u.stagePresent .pre) u.tickResult.record.mIn).passed).passed

/-- What a stage does in the tick. -/
def State.tickCapture (u : State) (st : Stage) : Capture :=
  (u.fau.accounts.get st).capture (u.stagePresent st) (u.tickReach st)

/-- What the tick adds to a stage's load: gas at CARB, captured mass at the others. -/
def State.tickAmount (u : State) : Stage → Nat
  | .carb => u.tickResult.record.gas.getD 0
  | st => (u.tickResult.record.captured.get st).getD 0

theorem tickResult_captured (u : State) (st : Stage) :
    u.tickResult.record.captured.get st = (u.tickCapture st).captured := by cases st <;> rfl

theorem tickResult_account (u : State) (st : Stage) :
    u.tickResult.accounts.get st = { u.fau.accounts.get st with
      rem := (u.tickCapture st).rem
      load := if u.stagePresent st then ((u.fau.accounts.get st).book (u.tickAmount st)).1
        else (u.fau.accounts.get st).load } := by cases st <;> rfl

theorem tickResult_discarded (u : State) (st : Stage) :
    u.tickResult.record.discarded.get st =
      if u.stagePresent st then some ((u.fau.accounts.get st).book (u.tickAmount st)).2 else none := by
  cases st <;> rfl

/-- The mass in, with the remainder (R71). -/
theorem tickResult_massIn (u : State) :
    240 * u.tickResult.record.mIn + u.tickResult.rIn = u.tickResult.record.pm * u.tickResult.record.q + u.fau.rIn ∧
    u.tickResult.rIn < 240 :=
  ⟨Nat.div_add_mod _ _, Nat.mod_lt _ (by decide)⟩

section
variable {u : State} (h : u.accountLaw)
include h

/-- A stage passes on what reaches it less what it captures, the last one to the escaped mass (R72). -/
theorem tickReach_eq :
    let r := u.tickResult.record
    let cap := fun st => (r.captured.get st).getD 0
    u.tickReach .carb = r.mIn - cap .pre ∧ u.tickReach .fine = r.mIn - cap .pre - cap .carb ∧
    r.mIn = cap .pre + cap .carb + cap .fine + r.escaped := by
  intro r cap
  obtain ⟨hlaw, -⟩ := h
  have conserved (st : Stage) : cap st + (u.tickCapture st).passed = u.tickReach st := by
    simp only [cap, r, tickResult_captured]
    exact capture_conserves (hlaw st) _ _
  have hpre : cap .pre + u.tickReach .carb = r.mIn := conserved .pre
  have hcarb : cap .carb + u.tickReach .fine = u.tickReach .carb := conserved .carb
  have hfine : cap .fine + r.escaped = u.tickReach .fine := conserved .fine
  omega

theorem tickResult_lawful (st : Stage) : (u.tickResult.accounts.get st).lawful := by
  obtain ⟨hlaw, -⟩ := h
  obtain ⟨hc, he, hk, hload, hrem⟩ := hlaw st
  rw [tickResult_account]
  refine ⟨hc, he, hk, ?_, ?_⟩
  · dsimp only
    split
    · exact Nat.min_le_left _ _
    · exact hload
  · change (u.tickCapture st).rem < 1000
    rw [State.tickCapture]
    cases u.stagePresent st with
    | true => exact (capture_present _ _).2.2
    | false => exact hrem

end

theorem tickResult_present {u : State} {st : Stage} (hp : u.stagePresent st = true) :
    (u.tickResult.record.captured.get st).isSome = true ∧
    1000 * (u.tickResult.record.captured.get st).getD 0 + (u.tickResult.accounts.get st).rem =
      u.tickReach st * (u.fau.accounts.get st).e + (u.fau.accounts.get st).rem ∧
    (u.tickResult.accounts.get st).rem < 1000 := by
  rw [tickResult_captured, tickResult_account, State.tickCapture, hp]
  exact capture_present _ _

theorem tickResult_absent {u : State} {st : Stage} (hp : u.stagePresent st = false) :
    u.tickResult.record.captured.get st = none ∧ u.tickResult.record.discarded.get st = none ∧
    u.tickResult.accounts.get st = u.fau.accounts.get st := by
  rw [tickResult_captured, tickResult_discarded, tickResult_account, State.tickCapture, hp]
  exact ⟨rfl, rfl, rfl⟩

/-- A load saturates at 2000 × C, and the rest is discarded (R75). -/
theorem tickResult_load {u : State} {st : Stage} (hp : u.stagePresent st = true) :
    let a := u.fau.accounts.get st
    let load := (u.tickResult.accounts.get st).load
    load = min (2000 * a.c) (a.load + u.tickAmount st) ∧
    load + (u.tickResult.record.discarded.get st).getD 0 = a.load + u.tickAmount st := by
  rw [tickResult_discarded, tickResult_account, hp]
  exact ⟨rfl, book_conserves _ _⟩

/-- The gas mass of a PRESENT carbon stage, with the remainder (R74). -/
theorem tickResult_gas {u : State} (hp : u.stagePresent .carb = true) :
    ∃ g, u.tickResult.record.gas = some g ∧
      6000 * g + u.tickResult.rG = u.tickResult.record.v * u.tickResult.record.q + u.fau.rG ∧
      u.tickResult.rG < 6000 := by
  simp only [State.tickResult, hp, if_true]
  exact ⟨_, rfl, Nat.div_add_mod _ _, Nat.mod_lt _ (by decide)⟩

theorem tickResult_noGas {u : State} (hp : u.stagePresent .carb = false) :
    u.tickResult.record.gas = none ∧ u.tickResult.rG = u.fau.rG := by
  simp only [State.tickResult, hp, Bool.false_eq_true, if_false, and_self]

theorem loadsChanged_iff (x y : PerStage Account) :
    loadsChanged x y = true ↔ ∃ st, (y.get st).load ≠ (x.get st).load := by
  simp only [loadsChanged, Bool.or_eq_true, bne_iff_ne]
  constructor
  · rintro ((h | h) | h)
    · exact ⟨.pre, h.symm⟩
    · exact ⟨.carb, h.symm⟩
    · exact ⟨.fine, h.symm⟩
  · rintro ⟨st, h⟩
    cases st with
    | pre => exact .inl (.inl h.symm)
    | carb => exact .inl (.inr h.symm)
    | fine => exact .inr h.symm

/-! ### Requests and the dirty mark (R84, R188) -/

/-- Between `u` and `t` nothing touched the FAU but checkpoint requests, which clear the dirty mark only where they
begin a write. -/
structure State.Requested (t u : State) : Prop where
  fau : t.fau = { u.fau with dirty := t.fau.dirty }
  writing : u.sst.writing ≠ none → t.sst.writing = u.sst.writing
  dirty : t.sst.writing = u.sst.writing → t.fau.dirty = u.fau.dirty

theorem State.Requested.of_eq {t u : State} (hf : t.fau = u.fau) (hs : t.sst.writing = u.sst.writing) :
    t.Requested u where
  fau := by rw [hf]
  writing _ := hs
  dirty _ := by rw [hf]

theorem State.Requested.trans {t v u : State} (h : t.Requested v) (k : v.Requested u) : t.Requested u where
  fau := by
    rw [h.fau, k.fau]
  writing hu := by
    have hv := k.writing hu
    exact (h.writing (hv ▸ hu)).trans hv
  dirty hw := by
    have hv : v.sst.writing = u.sst.writing := by
      by_cases hu : u.sst.writing = none
      · by_cases hn : v.sst.writing = none
        · rw [hn, hu]
        · exact (h.writing hn).symm.trans hw
      · exact k.writing hu
    exact (h.dirty (hw.trans hv.symm)).trans (k.dirty hv)

theorem request_requested (s : State) (rs : RegionSet) : (s.request rs).Requested s := by
  unfold State.request
  split
  · next hw =>
    split
    · exact State.Requested.of_eq rfl rfl
    · exact ⟨rfl, fun h => absurd hw h, fun h => by simp [State.beginWrite, hw] at h⟩
  · exact State.Requested.of_eq rfl rfl

/-! ### The FILTER events of a tick (R67) -/

theorem tellsFilter_requested (t before u : State) (st : Stage) : (t.tellsFilter before u st).Requested u := by
  unfold State.tellsFilter
  dsimp only
  repeat' split
  · exact State.Requested.of_eq rfl rfl
  · exact (request_requested _ _).trans (State.Requested.of_eq rfl rfl)
  · exact State.Requested.of_eq rfl rfl

theorem tellsFilter_keeps_stillAsked (t before : State) {u : State} {rs : RegionSet} (h : u.stillAsked rs)
    (st : Stage) : (t.tellsFilter before u st).stillAsked rs := by
  have hy : ((u.postAll .filter).log (.filterState st (t.stageState st))).stillAsked rs :=
    stillAsked_of_sst (by simp) h
  unfold State.tellsFilter
  dsimp only
  repeat' split
  · exact h
  · exact request_keeps_stillAsked hy _
  · exact hy

/-- What a changed stage's FILTER event posts. -/
def State.tellsState (t x : State) (st : Stage) : State := (x.postAll .filter).log (.filterState st (t.stageState st))

theorem tellsFilter_told (t before : State) {u x : State} (hp : u.prt = x.prt) (ht : u.tlg = x.tlg) (st : Stage)
    (h : t.stageState st ≠ before.stageState st) :
    (t.tellsFilter before u st).prt = (t.tellsState x st).prt ∧
    (t.tellsFilter before u st).tlg = (t.tellsState x st).tlg := by
  have hy : (t.tellsState u st).prt = (t.tellsState x st).prt ∧ (t.tellsState u st).tlg = (t.tellsState x st).tlg :=
    ⟨log_prt (postAll_prt hp _) ht _, log_tlg ht _⟩
  rw [State.tellsFilter, if_neg h]
  split
  · simp only [request_frame]
    exact hy
  · exact hy

/-- Requests aside, the FILTER events of a list of stages post what the changed ones of them post. -/
theorem foldl_tellsFilter_told (t before : State) {c : Stage → Bool}
    (hc : ∀ st, c st = true ↔ t.stageState st ≠ before.stageState st) (l : List Stage) {u x : State}
    (hp : u.prt = x.prt) (ht : u.tlg = x.tlg) :
    (l.foldl (t.tellsFilter before) u).prt = ((l.filter c).foldl t.tellsState x).prt ∧
    (l.foldl (t.tellsFilter before) u).tlg = ((l.filter c).foldl t.tellsState x).tlg := by
  induction l generalizing u x with
  | nil => exact ⟨hp, ht⟩
  | cons st sts ih =>
    by_cases h : t.stageState st = before.stageState st
    · rw [List.filter_cons_of_neg (fun k => (hc st).1 k h), List.foldl_cons, tellsFilter_same h]
      exact ih hp ht
    · obtain ⟨hp', ht'⟩ := tellsFilter_told t before hp ht st h
      rw [List.filter_cons_of_pos ((hc st).2 h)]
      exact ih hp' ht'

section
variable {t before : State} (hc : t.crd = before.crd)
include hc

theorem filterEvents_requested : (t.filterEvents before).Requested t := by
  rw [filterEvents_eq_foldl hc]
  have one := tellsFilter_requested t before
  exact (one _ .fine).trans ((one _ .carb).trans (one t .pre))

/-- A stage that enters WORN or EXHAUSTED leaves FILTERS asked for. -/
theorem filterEvents_worn {st : Stage} (h : t.stageState st ≠ before.stageState st)
    (hw : t.stageState st = .worn ∨ t.stageState st = .exhausted) :
    (t.filterEvents before).stillAsked (.single .filters) := by
  rw [filterEvents_eq_foldl hc]
  refine foldl_establishes (P := fun u => u.stillAsked (.single .filters))
    (fun u x hu => tellsFilter_keeps_stillAsked t before hu x) (mem_stages st) (fun u => ?_) t
  rw [State.tellsFilter, if_neg h, if_pos hw]
  exact request_stillAsked _ _

/-- Where no stage enters one of them, nothing is asked for. -/
theorem filterEvents_notWorn
    (h : ∀ st, t.stageState st ≠ before.stageState st → ¬(t.stageState st = .worn ∨ t.stageState st = .exhausted)) :
    (t.filterEvents before).sst = t.sst ∧ (t.filterEvents before).fau = t.fau := by
  have one (u : State) (st : Stage) :
      ((t.tellsFilter before u st).sst, (t.tellsFilter before u st).fau) = (u.sst, u.fau) := by
    by_cases hst : t.stageState st = before.stageState st
    · rw [tellsFilter_same hst]
    · rw [State.tellsFilter, if_neg hst, if_neg (h st hst)]
      rfl
  rw [filterEvents_eq_foldl hc]
  exact Prod.ext_iff.1 (foldl_keeps (fun u : State => (u.sst, u.fau)) _ one [Stage.pre, .carb, .fine] t)

end

/-! ### The count of ticks (R79, R84) -/

/-- The part with a tick counted and recorded, before its checkpoint. -/
def State.counted (s : State) (r : LastTick) : State :=
  s.setFau { s.fau with
    tickCount := r.number, lastTick := some r, periodic := if s.fau.periodic + 1 < 40 then s.fau.periodic + 1 else 0 }

theorem countTick_eq (s : State) (r : LastTick) :
    s.countTick r = if 39 ≤ s.fau.periodic ∧ s.fau.dirty = true then (s.counted r).request (.single .filters)
      else s.counted r := by
  unfold State.countTick State.counted
  by_cases h : s.fau.periodic + 1 < 40
  · simp only [h, if_true, show ¬39 ≤ s.fau.periodic by omega, false_and, if_false]
  · simp only [h, if_false, show 39 ≤ s.fau.periodic by omega, true_and]
    rfl

theorem countTick_requested (s : State) (r : LastTick) : (s.countTick r).Requested (s.counted r) := by
  rw [countTick_eq]
  split
  · exact request_requested _ _
  · exact State.Requested.of_eq rfl rfl

theorem counted_requested {t u : State} (h : t.Requested u) (r : LastTick) : (t.counted r).Requested (u.counted r) where
  fau := by
    simp only [State.counted, setFau_fau]
    rw [h.fau]
  writing := h.writing
  dirty := h.dirty

theorem countTick_keeps_stillAsked {s : State} {rs : RegionSet} (h : s.stillAsked rs) (r : LastTick) :
    (s.countTick r).stillAsked rs := by
  have hk : (s.counted r).stillAsked rs := stillAsked_of_sst rfl h
  rw [countTick_eq]
  split
  · exact request_keeps_stillAsked hk _
  · exact hk

/-! ### The tick (Table 4-3) -/

/-- The part with the results of a tick, before anything is told. -/
def State.ticked (u : State) : State :=
  u.setFau { u.fau with
    accounts := u.tickResult.accounts, rIn := u.tickResult.rIn, rG := u.tickResult.rG, period := 0
    dirty := u.fau.dirty || loadsChanged u.fau.accounts u.tickResult.accounts }

/-- The part after a tick, before its hand-overs. -/
def State.tickTold (u : State) : State := (u.ticked.filterEvents u).countTick u.tickResult.record

theorem tick_eq (u : State) : u.tick = u.tickTold.settle := rfl

theorem tickTold_requested (u : State) : u.tickTold.Requested (u.ticked.counted u.tickResult.record) :=
  (countTick_requested _ _).trans (counted_requested (filterEvents_requested (t := u.ticked) (before := u) rfl) _)

/-- What the FAU holds after a tick. -/
theorem tick_fau (u : State) : u.tick.fau = { (u.ticked.counted u.tickResult.record).fau with
    dirty := u.tickTold.fau.dirty, d := u.tickTold.derating, running := u.tickTold.afc.isRunning } := by
  rw [tick_eq, (settle_handsOn u.tickTold).2.1]
  exact congrArg (fun f : Fau => { f with d := u.tickTold.derating, running := u.tickTold.afc.isRunning })
    (tickTold_requested u).fau

theorem tick_stageState (u : State) (st : Stage) : u.tick.stageState st = u.ticked.stageState st := by
  have hcrd : u.tick.crd = u.ticked.crd := by simp [State.ticked]
  have hset : u.tick.sst.settings = u.ticked.sst.settings := by simp [State.ticked]
  have hacc : u.tick.fau.accounts = u.ticked.fau.accounts := by
    rw [tick_fau]
    rfl
  simp only [State.stageState, State.stagePresent, hcrd, hset, hacc]

/-! ### What a tick posts and asks for (R67, R76, R84) -/

/-- A stage whose state changed was PRESENT. -/
theorem changed_iff {t before : State} (hc : t.crd = before.crd) (st : Stage) :
    (before.stagePresent st && t.stageState st != before.stageState st) = true ↔
      t.stageState st ≠ before.stageState st := by
  simp only [Bool.and_eq_true, bne_iff_ne, and_iff_right_iff_imp]
  intro h
  refine Bool.of_not_eq_false fun hp => h ?_
  have hp' : t.stagePresent st = false := by rw [State.stagePresent, hc]; exact hp
  rw [(stageState_absent_iff t st).2 hp', (stageState_absent_iff before st).2 hp]

/-- A stage enters WORN or EXHAUSTED in a tick. -/
def State.tickWears (u : State) : Prop :=
  ∃ st, u.ticked.stageState st ≠ u.stageState st ∧
    (u.ticked.stageState st = .worn ∨ u.ticked.stageState st = .exhausted)

theorem ticked_dirty_iff (u : State) : u.ticked.fau.dirty = true ↔
    u.fau.dirty = true ∨ ∃ st, (u.tickResult.accounts.get st).load ≠ (u.fau.accounts.get st).load := by
  rw [← loadsChanged_iff, ← Bool.or_eq_true]
  rfl

theorem tickTold_told {u : State} {c : Stage → Bool}
    (hc : ∀ st, c st = true ↔ u.ticked.stageState st ≠ u.stageState st) :
    u.tickTold.tlg = (([Stage.pre, .carb, .fine].filter c).foldl u.ticked.tellsState u).tlg ∧
    u.tickTold.prt = (([Stage.pre, .carb, .fine].filter c).foldl u.ticked.tellsState u).prt := by
  obtain ⟨hprt, htlg⟩ := foldl_tellsFilter_told u.ticked u hc [.pre, .carb, .fine] (u := u.ticked) (x := u) rfl rfl
  rw [← filterEvents_eq_foldl (t := u.ticked) (before := u) rfl] at hprt htlg
  simp only [State.tickTold, countTick_frame]
  exact ⟨htlg, hprt⟩

theorem tick_asks_of_wears {u : State} (h : u.tickWears) : u.tick.asked (.single .filters) := by
  obtain ⟨st, hne, hw⟩ := h
  obtain ⟨hasked, -⟩ := countTick_keeps_stillAsked
    (filterEvents_worn (t := u.ticked) (before := u) rfl hne hw) u.tickResult.record
  exact asked_of_sst (settle_sst u.tickTold) hasked

/-- Where no stage enters WORN or EXHAUSTED, the tick is counted on the accounts as they are. -/
theorem tickTold_notWears {u : State} (h : ¬u.tickWears) :
    (u.ticked.filterEvents u).sst = u.sst ∧ (u.ticked.filterEvents u).fau = u.ticked.fau :=
  filterEvents_notWorn (t := u.ticked) (before := u) rfl (fun st hne hw => h ⟨st, hne, hw⟩)

/-- Every 40th tick asks for FILTERS while the mark is set; a mark that a worn stage's write cleared is asked for too. -/
theorem tick_asks_periodic {u : State} (hp : 39 ≤ u.fau.periodic) (hd : u.ticked.fau.dirty = true) :
    u.tick.asked (.single .filters) := by
  by_cases h : u.tickWears
  · exact tick_asks_of_wears h
  · obtain ⟨-, hfau⟩ := tickTold_notWears h
    refine asked_of_sst (settle_sst u.tickTold) ?_
    rw [State.tickTold, countTick_eq, hfau, if_pos ⟨hp, hd⟩]
    exact request_asked _ _

theorem tick_asks_nothing {u : State} (h : ¬u.tickWears)
    (hp : u.fau.periodic + 1 < 40 ∨ ¬u.ticked.fau.dirty = true) : u.tick.sst = u.sst := by
  obtain ⟨hsst, hfau⟩ := tickTold_notWears h
  have hno : ¬(39 ≤ u.ticked.fau.periodic ∧ u.ticked.fau.dirty = true) := by
    rintro ⟨h39, hd⟩
    rcases hp with hp | hp
    · exact absurd (show 39 ≤ u.fau.periodic from h39) (by omega)
    · exact hp hd
  rw [tick_eq, settle_sst, State.tickTold, countTick_eq, hfau, if_neg hno]
  exact hsst

theorem tick_dirty {u : State} (h : u.tick.sst.writing = u.sst.writing) : u.tick.fau.dirty = u.ticked.fau.dirty := by
  rw [tick_eq, settle_sst] at h
  rw [tick_fau]
  exact (tickTold_requested u).dirty h

theorem tick_accountLaw {u : State} (h : u.accountLaw) : u.tick.accountLaw := by
  have ⟨_, _, hrG, _⟩ := h
  have hfau := tick_fau u
  refine ⟨fun st => ?_, ?_, ?_, ?_⟩
  · rw [hfau]
    exact tickResult_lawful h st
  · rw [hfau]
    exact (tickResult_massIn u).2
  · rw [hfau]
    change u.tickResult.rG < 6000
    cases hp : u.stagePresent .carb with
    | true =>
      obtain ⟨-, -, -, hlt⟩ := tickResult_gas hp
      exact hlt
    | false =>
      rw [(tickResult_noGas hp).2]
      exact hrG
  · rw [hfau]
    exact Nat.min_le_left _ _

theorem tickTold_parts (u : State) : u.tickTold.sameBut u [.fau, .sst, .tlg, .prt] := by
  intro b hb
  cases b <;> first | (simp [State.sameAt, State.tickTold, State.ticked]; done) | simp at hb

@[simp] theorem advance_stagePresent (s : State) (ms : Nat) (st : Stage) :
    (s.advance ms).stagePresent st = s.stagePresent st := by cases st <;> rfl

@[simp] theorem advance_stageState (s : State) (ms : Nat) (st : Stage) :
    (s.advance ms).stageState st = s.stageState st := by
  simp only [State.stageState, advance_stagePresent]
  rfl

theorem accountingTick_running {s : State} (h : s.fau.running = true) :
    s.accountingTick = (s.advance (15000 - s.fau.period)).tick := if_pos h

/-- Settles O34: the masses are those of the tick's results, the FILTER events and requests follow from the stages
that changed, and the hand-overs add nothing to the accounts. -/
theorem accountingTickConservesMass : Obligations.AccountingTickConservesMass := by
  unfold Obligations.AccountingTickConservesMass
  refine ⟨fun s hup hrun hlaw => ?_, fun s hup hrun => ?_⟩
  · intro u a
    have hpresent (st : Stage) : s.stagePresent st = u.stagePresent st := (advance_stagePresent s _ st).symm
    have hstate (st : Stage) : s.stageState st = u.stageState st := (advance_stageState s _ st).symm
    have hulaw : u.accountLaw := hlaw
    have hfau := tick_fau u
    have hacc : u.tick.fau.accounts = u.tickResult.accounts := congrArg (·.accounts) hfau
    have hrIn : u.tick.fau.rIn = u.tickResult.rIn := congrArg (·.rIn) hfau
    have hrG : u.tick.fau.rG = u.tickResult.rG := congrArg (·.rG) hfau
    obtain ⟨hmass, hmassRem⟩ := tickResult_massIn u
    refine ⟨u.tick, u.tickTold, u.tickResult.record, exec_of_up rfl hup (accountingTick_running hrun),
      settle_handsOn _, congrArg (·.lastTick) hfau, congrArg (·.period) hfau, congrArg (·.tickCount) hfau, rfl, rfl, rfl,
      rfl, rfl, rfl, ?_, ?_, ?_, ?_, ?_, tick_accountLaw hulaw, tickTold_parts u⟩
    · rw [hrIn]
      exact hmass
    · rw [hrIn]
      exact hmassRem
    · simp only [hpresent, hacc, hrG]
      obtain ⟨hcarb, hfine, hall⟩ := tickReach_eq hulaw
      refine ⟨hall, fun st => ⟨fun hp => ?_, fun hp => ?_⟩, tickResult_gas, tickResult_noGas, fun st hp => ?_⟩
      · have h := tickResult_present hp
        cases st with
        | pre => exact h
        | carb => rw [hcarb] at h; exact h
        | fine => rw [hfine] at h; exact h
      · exact tickResult_absent hp
      · have h := tickResult_load hp
        cases st <;> exact h
    · intro st
      have hp : u.tick.stagePresent st = u.stagePresent st := by simp only [State.stagePresent, tick_frame]
      rw [State.stageState, stageState_eq_stateBy, tick_settings, hp, hpresent]
      rfl
    · have hchanged (st : Stage) : (u.stagePresent st && u.ticked.stageState st != u.stageState st) = true ↔
          u.ticked.stageState st ≠ u.stageState st := changed_iff (t := u.ticked) (before := u) rfl st
      have hwears : (∃ st, u.ticked.stageState st ≠ u.stageState st ∧
          (u.ticked.stageState st = .worn ∨ u.ticked.stageState st = .exhausted)) ↔ u.tickWears := Iff.rfl
      have hdirty : u.ticked.fau.dirty = true ↔
          s.fau.dirty = true ∨ ∃ st, (u.tickResult.accounts.get st).load ≠ (a.get st).load := ticked_dirty_iff u
      obtain ⟨htlg, hprt⟩ := tickTold_told hchanged
      simp only [hpresent, hstate, tick_stageState, hacc, List.mem_filter, mem_stages, true_and, hchanged, hwears,
        ← hdirty]
      exact ⟨htlg, hprt, tick_asks_of_wears, congrArg (·.periodic) hfau, tick_asks_periodic (u := u),
        tick_asks_nothing (u := u), fun h => by rw [tick_dirty (u := u) h]⟩
  · exact exec_unchanged rfl (if_neg (by rw [hrun]; decide))

end Sys2Proof.Machine
end

-- Serials stay apart: what the law of the recent list reads, and the operations that leave it as it was.
section
namespace Sys2Proof.Machine

/-! ### The law of the bindings and of the store (R90, R92, R94, R101) -/

/-- The recent list `l` holds at most 4 entries, none with the serial of another or of an account in `a`, and no two
accounts are bound to one serial. -/
def lawfulBindings (a : PerStage Account) (l : List RecentEntry) : Prop :=
  l.length ≤ 4 ∧ (l.map (·.serial)).Nodup ∧ (∀ e ∈ l, ∀ st, (a.get st).serial ≠ some e.serial) ∧ serialsApart a

/-- The accounts stored, and those that the write `w` copies, are bound to different serials. -/
def lawfulStored (x : PerStage Account) (w : Option Copies) : Prop :=
  serialsApart x ∧ ∀ c a, w = some c → c.filters = some a → serialsApart a

theorem recentLaw_iff (s : State) :
    s.recentLaw ↔ lawfulBindings s.fau.accounts s.crd.recent ∧ lawfulStored s.store.filters.contents s.sst.writing := by
  simp only [State.recentLaw, lawfulBindings, lawfulStored, and_assoc]

/-- Accounts with the serials of others that are apart. -/
theorem serialsApart_congr {a b : PerStage Account} (hb : serialsApart b)
    (h : ∀ st, (a.get st).serial = (b.get st).serial) : serialsApart a := fun st st' n hn hn' =>
  hb st st' n ((h st).symm.trans hn) ((h st').symm.trans hn')

theorem lawfulBindings_congr {a b : PerStage Account} {l : List RecentEntry} (hb : lawfulBindings b l)
    (h : ∀ st, (a.get st).serial = (b.get st).serial) : lawfulBindings a l := by
  obtain ⟨hlen, hnodup, hcur, hapart⟩ := hb
  exact ⟨hlen, hnodup, fun e he st => (h st).symm ▸ hcur e he st, serialsApart_congr hapart h⟩

/-- Untagged accounts are bound to no serial. -/
theorem freshAccounts_apart (cfg : Settings) (lost : Bool) : serialsApart (freshAccounts cfg lost) := by
  intro st st' n hn
  simp [freshAccounts, Account.fresh] at hn

/-- A sublist of a lawful list is lawful. -/
theorem lawfulBindings_sublist {a : PerStage Account} {l l' : List RecentEntry} (h : lawfulBindings a l)
    (hs : l'.Sublist l) : lawfulBindings a l' := by
  obtain ⟨hlen, hnodup, hcur, hapart⟩ := h
  exact ⟨Nat.le_trans hs.length_le hlen, hnodup.sublist (hs.map _), fun e he => hcur e (hs.mem he), hapart⟩

/-- A new account takes the place of the one of its stage, which joins the list when it is TAGGED (R92, R93). The new
serial is in neither the list nor an account. -/
theorem lawfulBindings_joins {accounts : PerStage Account} {l : List RecentEntry} (h : lawfulBindings accounts l)
    (st : Stage) {a : Account}
    (ha : ∀ n, a.serial = some n → (∀ e ∈ l, e.serial ≠ n) ∧ ∀ st', (accounts.get st').serial ≠ some n) :
    lawfulBindings (accounts.set st a) ((accounts.get st).joins st l) := by
  have ⟨hlen, hnodup, hcur, hapart⟩ := h
  have hset (st' : Stage) : (st' = st ∧ (accounts.set st a).get st' = a) ∨
      (st' ≠ st ∧ (accounts.set st a).get st' = accounts.get st') := by
    by_cases hst : st' = st
    · exact .inl ⟨hst, hst ▸ PerStage.get_set_same accounts st a⟩
    · exact .inr ⟨hst, PerStage.get_set_other accounts st st' a hst⟩
  have hcurrent : ∀ e ∈ l, ∀ st', ((accounts.set st a).get st').serial ≠ some e.serial := fun e he st' => by
    rcases hset st' with ⟨-, hget⟩ | ⟨-, hget⟩ <;> rw [hget]
    · exact fun hn => (ha _ hn).1 e he rfl
    · exact hcur e he st'
  have hnew : serialsApart (accounts.set st a) := fun st₁ st₂ n h₁ h₂ => by
    rcases hset st₁ with ⟨e₁, g₁⟩ | ⟨-, g₁⟩ <;> rcases hset st₂ with ⟨e₂, g₂⟩ | ⟨-, g₂⟩ <;> rw [g₁] at h₁ <;> rw [g₂] at h₂
    · exact e₁.trans e₂.symm
    · exact absurd h₂ ((ha n h₁).2 st₂)
    · exact absurd h₁ ((ha n h₂).2 st₁)
    · exact hapart st₁ st₂ n h₁ h₂
  unfold Account.joins
  cases hn : (accounts.get st).serial with
  | none => exact ⟨hlen, hnodup, hcurrent, hnew⟩
  | some n =>
    have hsub : (if 4 ≤ l.length then l.dropLast else l).Sublist l := by
      split
      · exact List.dropLast_sublist l
      · exact List.Sublist.refl l
    refine ⟨?_, List.nodup_cons.2 ⟨fun hmem => ?_, hnodup.sublist (hsub.map _)⟩, fun e he st' => ?_, hnew⟩
    · rw [List.length_cons]
      split
      · rw [List.length_dropLast]
        omega
      · omega
    · obtain ⟨e, he, hserial⟩ := List.mem_map.1 hmem
      exact hcur e (hsub.mem he) st (hn.trans (congrArg some hserial.symm))
    · rcases List.mem_cons.1 he with rfl | he
      · rcases hset st' with ⟨-, hget⟩ | ⟨hne, hget⟩ <;> rw [hget]
        · exact fun hsame => (ha n hsame).2 st hn
        · exact fun hsame => hne (hapart st' st n hsame hn)
      · exact hcurrent e (hsub.mem he) st'

/-! ### What keeps the law -/

/-- No account, no entry of the recent list, nothing stored and no write in progress changed. -/
def State.sameSerials (t s : State) : Prop :=
  t.crd.recent = s.crd.recent ∧ t.fau.accounts = s.fau.accounts ∧ t.store = s.store ∧ t.sst.writing = s.sst.writing

theorem recentLaw_of_frame {t s : State} (h : s.recentLaw) (hf : t.sameSerials s) : t.recentLaw := by
  obtain ⟨hr, ha, hs, hw⟩ := hf
  rw [recentLaw_iff, hr, ha, hs, hw]
  exact (recentLaw_iff s).1 h

/-- The accounts change, and not their serials. -/
theorem setFau_recentLaw {s : State} (h : s.recentLaw) {x : Fau}
    (hx : ∀ st, (x.accounts.get st).serial = (s.fau.accounts.get st).serial) : (s.setFau x).recentLaw := by
  obtain ⟨hb, hs⟩ := (recentLaw_iff s).1 h
  exact (recentLaw_iff _).2 ⟨lawfulBindings_congr hb hx, hs⟩

theorem advance_recentLaw {s : State} (h : s.recentLaw) (ms : Nat) : (s.advance ms).recentLaw := h

theorem expire_recentLaw {s : State} {t : Timer} {limit : Nat} {act : State → State} (h : s.recentLaw)
    (hact : ∀ u : State, u.recentLaw → (act u).recentLaw) : (s.expire t limit act).recentLaw := by
  cases t with
  | none => exact h
  | some e => exact hact _ (advance_recentLaw h _)

theorem ite_recentLaw {c : Prop} [Decidable c] {t s : State} (ht : t.recentLaw) (h : s.recentLaw) :
    (if c then t else s).recentLaw := by
  split
  · exact ht
  · exact h

theorem whenUp_recentLaw {s : State} {f : State → State} (h : s.recentLaw) (hf : (f s).recentLaw) :
    (s.whenUp f).recentLaw := ite_recentLaw hf h

/-- An operation on the record of a run, where there is one. -/
theorem onRecord_recentLaw {s : State} (h : s.recentLaw) {x : Option Sequence} {k : Sequence → State}
    (hk : ∀ q, (k q).recentLaw) : (match x with
      | some q => k q
      | none => s).recentLaw := by
  cases x with
  | none => exact h
  | some q => exact hk q

/-! ### Writes and hand-overs (R84, R188) -/

/-- The accounts that a write copies have the serials of the accounts. -/
theorem beginWrite_recentLaw {s : State} (h : s.recentLaw) (rs : RegionSet) : (s.beginWrite rs).recentLaw := by
  obtain ⟨hb, hstored, -⟩ := (recentLaw_iff s).1 h
  have ⟨_, _, _, hapart⟩ := hb
  refine (recentLaw_iff _).2 ⟨hb, hstored, fun c a hc ha => ?_⟩
  obtain rfl : s.copies (rs.union s.sst.unsaved) = c := Option.some.inj hc
  have hcopy : (if (rs.union s.sst.unsaved).filters then some (s.fau.accounts.map (fun _ a => { a with rem := 0 }))
      else none) = some a := ha
  split at hcopy
  · obtain rfl := Option.some.inj hcopy
    exact serialsApart_congr hapart (fun st => by rw [PerStage.get_map])
  · cases hcopy

theorem joinPending_recentLaw {s : State} (h : s.recentLaw) (rs : RegionSet) : (s.joinPending rs).recentLaw := h

theorem request_recentLaw {s : State} (h : s.recentLaw) (rs : RegionSet) : (s.request rs).recentLaw := by
  unfold State.request
  split
  · exact ite_recentLaw (joinPending_recentLaw h rs) (beginWrite_recentLaw h rs)
  · exact joinPending_recentLaw h rs

theorem requestSome_recentLaw {s : State} (h : s.recentLaw) (rs : RegionSet) : (s.requestSome rs).recentLaw :=
  ite_recentLaw h (request_recentLaw h rs)

theorem settle_recentLaw {s : State} (h : s.recentLaw) : s.settle.recentLaw :=
  recentLaw_of_frame h (by simp [State.sameSerials, settle_sst])

/-- Operations that leave the law's parts as they were, and the hand-overs after them. -/
theorem settled_recentLaw {t s : State} (h : s.recentLaw) (hf : t.sameSerials s) : t.settle.recentLaw :=
  settle_recentLaw (recentLaw_of_frame h hf)

/-! ### Drying -/

theorem setDrc_recentLaw {s : State} (h : s.recentLaw) (x : Drc) : (s.setDrc x).recentLaw := h

theorem enterLockout_recentLaw {s : State} (h : s.recentLaw) (r : LockReason) : (s.enterLockout r).recentLaw := by
  unfold State.enterLockout
  extract_lets d t u
  have hu : u.recentLaw := recentLaw_of_frame h (by simp [State.sameSerials, u, t])
  exact ite_recentLaw (request_recentLaw hu _) hu

theorem pulldownFailed_recentLaw {s : State} (h : s.recentLaw) : s.pulldownFailed.recentLaw := by
  unfold State.pulldownFailed
  dsimp only
  split
  · exact settled_recentLaw h (by simp [State.sameSerials])
  · exact settle_recentLaw (enterLockout_recentLaw (setDrc_recentLaw h _) _)

theorem defrostTimedOut_recentLaw {s : State} (h : s.recentLaw) : s.defrostTimedOut.recentLaw := by
  unfold State.defrostTimedOut
  dsimp only
  split
  · exact settle_recentLaw (enterLockout_recentLaw (setDrc_recentLaw h _) _)
  · exact settled_recentLaw h (by simp [State.sameSerials])

theorem clearLockoutNow_recentLaw {s : State} (h : s.recentLaw) (r : LockReason) :
    (s.clearLockoutNow r).recentLaw := by
  unfold State.clearLockoutNow
  dsimp only
  split
  · exact settle_recentLaw (request_recentLaw (recentLaw_of_frame h (by simp [State.sameSerials])) _)
  · exact settled_recentLaw h (by simp [State.sameSerials])

theorem offTimerPassed_recentLaw {s : State} (h : s.recentLaw) : s.offTimerPassed.recentLaw := by
  unfold State.offTimerPassed
  split
  · next e _ => exact settled_recentLaw (advance_recentLaw h (Config.offTimerMs - e)) ⟨rfl, rfl, rfl, rfl⟩
  · exact h

/-! ### Filters -/

theorem postFilter_recentLaw {s : State} (h : s.recentLaw) (st : Stage) (old new : StageState) :
    (s.postFilter st old new).recentLaw := by
  unfold State.postFilter
  extract_lets t
  have ht : t.recentLaw := recentLaw_of_frame h (by simp [State.sameSerials, t])
  exact ite_recentLaw h (ite_recentLaw (request_recentLaw ht _) ht)

theorem filterEvents_recentLaw {s : State} (h : s.recentLaw) (before : State) : (s.filterEvents before).recentLaw :=
  postFilter_recentLaw (postFilter_recentLaw (postFilter_recentLaw h _ _ _) _ _ _) _ _ _

theorem countTick_recentLaw {s : State} (h : s.recentLaw) (r : LastTick) : (s.countTick r).recentLaw := by
  have hc : (s.counted r).recentLaw := setFau_recentLaw h (fun _ => rfl)
  rw [countTick_eq]
  exact ite_recentLaw (request_recentLaw hc _) hc

/-- A tick changes loads and remainders. -/
theorem tick_recentLaw {s : State} (h : s.recentLaw) : s.tick.recentLaw := by
  have ht : s.ticked.recentLaw := setFau_recentLaw h (fun st => by rw [tickResult_account])
  exact settle_recentLaw (countTick_recentLaw (filterEvents_recentLaw ht s) _)

/-- A command at one account keeps its serial (R81). -/
theorem changeAccount_recentLaw {s : State} (h : s.recentLaw) {st : Stage} {a : Account}
    (ha : a.serial = (s.fau.accounts.get st).serial) : (s.changeAccount st a).recentLaw := by
  have hw : (s.withAccount st a).recentLaw := setFau_recentLaw h (fun st' => by
    by_cases hst : st' = st
    · rw [hst, PerStage.get_set_same, ha]
    · rw [PerStage.get_set_other _ _ _ _ hst])
  exact settle_recentLaw (request_recentLaw (filterEvents_recentLaw hw s) _)

/-! ### Demands, airflow and the CONFIG in force -/

theorem setDar_recentLaw {s : State} (h : s.recentLaw) (x : Dar) : (s.setDar x).recentLaw := h

theorem resolveTable_recentLaw {s : State} (h : s.recentLaw) (t : List Demand) : (s.resolveTable t).recentLaw :=
  settled_recentLaw h (by simp [State.sameSerials])

theorem reportDropped_recentLaw {s : State} (h : s.recentLaw) (es : List Demand) (ev : DemandRef → Event) :
    (s.reportDropped es ev).recentLaw :=
  recentLaw_of_frame h (by simp [State.sameSerials])

theorem darSecond_recentLaw {s : State} (h : s.recentLaw) : s.darSecond.recentLaw := by
  unfold State.darSecond
  dsimp only
  split
  · exact setDar_recentLaw h _
  · exact resolveTable_recentLaw (reportDropped_recentLaw (setDar_recentLaw h _) _ _) _

/-- A swap of the curve bank publishes D. -/
@[simp] theorem applySwap_accounts (s : State) : s.applySwap.fau.accounts = s.fau.accounts := by
  unfold State.applySwap
  split
  · rfl
  · simp [State.publish]

theorem boundary_recentLaw {s : State} (h : s.recentLaw) : s.boundary.recentLaw :=
  settled_recentLaw h (by simp [State.sameSerials])

theorem takeRanks_recentLaw {s : State} (h : s.recentLaw) : s.takeRanks.recentLaw := by
  unfold State.takeRanks
  extract_lets gone kept t
  exact ite_recentLaw h (recentLaw_of_frame h (by simp [State.sameSerials, t]))

theorem regrouped_recentLaw {s : State} (h : s.recentLaw) (new : Settings) : (s.regrouped new).recentLaw := by
  unfold State.regrouped
  have hu : (s.withConfig new).recentLaw := h
  extract_lets old t u v w
  have hu : u.recentLaw := ite_recentLaw hu (takeRanks_recentLaw hu)
  have hv : v.recentLaw := ite_recentLaw hu (recentLaw_of_frame hu (by simp [State.sameSerials]))
  have hw : w.recentLaw := ite_recentLaw hv (recentLaw_of_frame hv (by simp [State.sameSerials]))
  exact ite_recentLaw hw (filterEvents_recentLaw hw s)

theorem applyConfig_recentLaw {s : State} (h : s.recentLaw) (new : Settings) : (s.applyConfig new).recentLaw := by
  by_cases hn : new = s.sst.settings
  · rw [hn, applyConfig_same]
    exact h
  · rw [applyConfig_changed hn]
    exact request_recentLaw (settle_recentLaw (regrouped_recentLaw h new)) _

/-! ### Sensing and the tank -/

theorem setSfe_recentLaw {s : State} (h : s.recentLaw) (x : Sfe) : (s.setSfe x).recentLaw := h

theorem roomFailed_recentLaw {s : State} (h : s.recentLaw) : s.roomFailed.recentLaw := by
  unfold State.roomFailed
  dsimp only
  split
  · exact settle_recentLaw (ite_recentLaw (setSfe_recentLaw h _) (recentLaw_of_frame h (by simp [State.sameSerials])))
  · exact setSfe_recentLaw h _

theorem roomGood_recentLaw {s : State} (h : s.recentLaw) (r : RoomRead) : (s.roomGood r).recentLaw := by
  unfold State.roomGood
  dsimp only
  exact settle_recentLaw (ite_recentLaw (recentLaw_of_frame h (by simp [State.sameSerials])) (setSfe_recentLaw h _))

theorem afterGas_recentLaw {s : State} (h : s.recentLaw) : s.afterGas.recentLaw := h

theorem busFailed_recentLaw {s : State} (h : s.recentLaw) : s.busFailed.recentLaw := by
  unfold State.busFailed
  split
  · exact h
  · exact afterGas_recentLaw h
  · exact roomFailed_recentLaw (s := s.busFree) h

theorem busSecond_recentLaw {s : State} (h : s.recentLaw) : s.busSecond.recentLaw := by
  unfold State.busSecond
  extract_lets t
  have ht : t.recentLaw := by
    unfold t
    split
    · exact roomFailed_recentLaw (s := s.busFree) h
    · exact h
  exact ht

theorem gasReadEnd_recentLaw {s : State} (h : s.recentLaw) (i : Option Nat) : (s.gasReadEnd i).recentLaw := by
  unfold State.gasReadEnd
  refine ite_recentLaw ?_ h
  cases i with
  | none => exact busFailed_recentLaw h
  | some n => exact recentLaw_of_frame h (by simp [State.sameSerials])

theorem roomReadEnd_recentLaw {s : State} (h : s.recentLaw) (r : Option RoomRead) : (s.roomReadEnd r).recentLaw := by
  unfold State.roomReadEnd
  refine ite_recentLaw ?_ h
  cases r with
  | none => exact busFailed_recentLaw h
  | some r => exact roomGood_recentLaw (s := s.busFree) h r

theorem coilConversion_recentLaw {s : State} (h : s.recentLaw) (n : Int) : (s.coilConversion n).recentLaw := by
  unfold State.coilConversion
  dsimp only
  split
  · refine settled_recentLaw h ?_
    split <;> simp [State.sameSerials]
  · split
    · refine settled_recentLaw h ?_
      split <;> simp [State.sameSerials]
    · exact setSfe_recentLaw h _

theorem levelPublished_recentLaw {s : State} (h : s.recentLaw) (b : Option Nat) : (s.levelPublished b).recentLaw :=
  ite_recentLaw h (settled_recentLaw h (by simp [State.sameSerials]))

theorem probeConversion_recentLaw {s : State} (h : s.recentLaw) (n : Int) : (s.probeConversion n).recentLaw := by
  unfold State.probeConversion
  dsimp only
  refine ite_recentLaw h ?_
  split
  · refine levelPublished_recentLaw (recentLaw_of_frame h ?_) _
    split <;> simp [State.sameSerials]
  · split
    · refine levelPublished_recentLaw (recentLaw_of_frame h ?_) _
      split <;> simp [State.sameSerials]
    · exact setSfe_recentLaw h _

theorem tankOpened_recentLaw {s : State} (h : s.recentLaw) : s.tankOpened.recentLaw := by
  unfold State.tankOpened
  dsimp only
  split
  · exact settled_recentLaw h (by simp [State.sameSerials])
  · exact recentLaw_of_frame h ⟨rfl, rfl, rfl, rfl⟩

theorem floatTaken_recentLaw {s : State} (h : s.recentLaw) (f : MfFunction) (level changed : Bool) :
    (s.floatTaken f level changed).recentLaw := by
  unfold State.floatTaken
  extract_lets t
  have ht : t.recentLaw := ite_recentLaw h (ite_recentLaw (recentLaw_of_frame h (by simp [State.sameSerials]))
    (recentLaw_of_frame h (by simp [State.sameSerials])))
  exact settled_recentLaw ht (by simp [State.sameSerials])

theorem functionTaken_recentLaw {s : State} (h : s.recentLaw) (f : MfFunction) (level changed : Bool) :
    (s.functionTaken f level changed).recentLaw := by
  cases f with
  | floatHigh | floatFull => exact floatTaken_recentLaw h _ _ _
  | pumpFlow => exact ite_recentLaw (recentLaw_of_frame h (by simp [State.sameSerials])) h
  | powerFailWarn => exact ite_recentLaw (request_recentLaw h _) h
  | none | probe => exact h

end Sys2Proof.Machine
end

-- Serials stay apart: bindings and verdicts, commands, the store's writes, resets and the start-up.
section
namespace Sys2Proof.Machine

/-! ### Slots and bindings (R88, R92 to R95) -/

theorem setSlot_recentLaw {s : State} (h : s.recentLaw) (st : Stage) (x : Slot) : (s.setSlot st x).recentLaw := h

theorem postCartridge_recentLaw {s : State} (h : s.recentLaw) (st : Stage) (v : CartridgeValue) :
    (s.postCartridge st v).recentLaw := h

theorem removeRecent_recentLaw {s : State} (h : s.recentLaw) (n : BitVec 32) : (s.removeRecent n).recentLaw := by
  obtain ⟨hb, hs⟩ := (recentLaw_iff s).1 h
  exact (recentLaw_iff _).2 ⟨lawfulBindings_sublist hb List.filter_sublist, hs⟩

/-- The serial is neither listed nor that of a current account. -/
def State.freeSerial (s : State) (n : BitVec 32) : Prop :=
  (∀ e ∈ s.crd.recent, e.serial ≠ n) ∧ ∀ st, (s.fau.accounts.get st).serial ≠ some n

/-- A binding to a serial that neither the list nor an account holds, or to none. -/
theorem keepOutgoing_bind_recentLaw {s : State} (h : s.recentLaw) (st : Stage) {a : Account}
    (ha : ∀ n, a.serial = some n → s.freeSerial n) (v : CartridgeValue) :
    ((s.keepOutgoing st).bind st a v).recentLaw := by
  obtain ⟨hb, hs⟩ := (recentLaw_iff s).1 h
  unfold State.bind
  refine request_recentLaw (postCartridge_recentLaw ((recentLaw_iff _).2 ⟨?_, ?_⟩) st v) _
  · simp only [setFau_fau, setFau_crd, keepOutgoing_crd, keepOutgoing_frame]
    exact lawfulBindings_joins hb st ha
  · simp only [setFau_store, setFau_sst, keepOutgoing_frame]
    exact hs

theorem bindNewTagged_recentLaw {s : State} (h : s.recentLaw) (st : Stage) {tag : TagData}
    (hf : s.freeSerial tag.serial) : (s.bindNewTagged st tag).recentLaw :=
  keepOutgoing_bind_recentLaw h st (a := newTaggedAccount tag _) (fun _ hn => Option.some.inj hn ▸ hf) _

/-- A serial that is listed is free once its entry has left the list. -/
theorem removeRecent_freeSerial {s : State} {n : BitVec 32} (h : ∀ st, (s.fau.accounts.get st).serial ≠ some n) :
    (s.removeRecent n).freeSerial n :=
  ⟨fun _ he => by simpa using (List.mem_filter.1 he).2, h⟩

theorem bindTagged_recentLaw {s : State} (h : s.recentLaw) {st : Stage} {tag : TagData}
    (he : ¬∃ st', st' ≠ st ∧ (s.fau.accounts.get st').serial = some tag.serial) : (s.bindTagged st tag).recentLaw := by
  unfold State.bindTagged
  dsimp only
  split
  · exact postCartridge_recentLaw h _ _
  · next hown =>
    have hcur : ∀ st', (s.fau.accounts.get st').serial ≠ some tag.serial := fun st' hn => by
      by_cases hst : st' = st
      · exact hown (hst ▸ hn)
      · exact he ⟨st', hst, hn⟩
    split
    · next x _ =>
      have hr := removeRecent_recentLaw h tag.serial
      have hfree := removeRecent_freeSerial hcur
      split
      · exact keepOutgoing_bind_recentLaw hr st (a := listedAccount tag x) (fun _ hn => Option.some.inj hn ▸ hfree) _
      · exact bindNewTagged_recentLaw (postCartridge_recentLaw hr _ _) st hfree
    · next hnone => exact bindNewTagged_recentLaw h st ⟨(findRecent_eq_none_iff s _).1 hnone, hcur⟩

theorem bindUntagged_recentLaw {s : State} (h : s.recentLaw) (st : Stage) : (s.bindUntagged st).recentLaw := by
  unfold State.bindUntagged
  dsimp only
  split
  · exact postCartridge_recentLaw h _ _
  · exact keepOutgoing_bind_recentLaw h st (fun _ hn => by cases hn) _

/-! ### Verdicts and slot events (R88 to R91) -/

theorem enterMismatch_recentLaw {s : State} (h : s.recentLaw) (st : Stage) (c : MismatchCause) :
    (s.enterMismatch st c).recentLaw :=
  ite_recentLaw (settle_recentLaw (setSlot_recentLaw h _ _))
    (settle_recentLaw (postCartridge_recentLaw (setSlot_recentLaw h _ _) _ _))

theorem judgeGood_recentLaw {s : State} (h : s.recentLaw) (st : Stage) (tag : TagData) :
    (s.judgeGood st tag).recentLaw := by
  have hw : (s.withTag st tag).recentLaw := h
  by_cases hty : tag.stageType = st
  · by_cases he : ∃ st', st' ≠ st ∧ (s.fau.accounts.get st').serial = some tag.serial
    · rw [judgeGood_duplicate hty he]
      exact enterMismatch_recentLaw hw _ _
    · rw [judgeGood_tagged hty he]
      exact settle_recentLaw (bindTagged_recentLaw (setSlot_recentLaw h _ _) he)
  · rw [judgeGood_wrongType hty]
    exact enterMismatch_recentLaw hw _ _

theorem foundRemoved_recentLaw {s : State} (h : s.recentLaw) (st : Stage) : (s.foundRemoved st).recentLaw := h

theorem goodRead_recentLaw {s : State} (h : s.recentLaw) (st : Stage) (tag : TagData) :
    (s.goodRead st tag).recentLaw := by
  cases hst : (s.slot st).state with
  | identifying | untagged | mismatch =>
    rw [goodRead_judged (by simp [hst])]
    exact judgeGood_recentLaw h st tag
  | tagged =>
    by_cases hsame : (s.fau.accounts.get st).serial = some tag.serial ∧ tag.stageType = st
    · rw [goodRead_again hst hsame.1 hsame.2]
      exact setSlot_recentLaw h _ _
    · rw [goodRead_other hst (Classical.not_and_iff_not_or_not.1 hsame)]
      exact judgeGood_recentLaw (settle_recentLaw (foundRemoved_recentLaw h st)) st tag
  | empty | settling =>
    simp only [State.goodRead, hst]
    exact h

theorem failedRead_recentLaw {s : State} (h : s.recentLaw) (st : Stage) : (s.failedRead st).recentLaw := by
  unfold State.failedRead
  dsimp only
  split
  · exact ite_recentLaw (settle_recentLaw (bindUntagged_recentLaw (setSlot_recentLaw (setSlot_recentLaw h _ _) _ _) st))
      (setSlot_recentLaw h _ _)
  · exact setSlot_recentLaw h _ _
  all_goals exact h

theorem tagReadEnd_recentLaw {s : State} (h : s.recentLaw) (st : Stage) (answer : Option RawTag) :
    (s.tagReadEnd st answer).recentLaw := by
  have hover := setSlot_recentLaw h st { s.slot st with reading := none }
  unfold State.tagReadEnd
  split
  · exact h
  · dsimp only
    split
    · exact goodRead_recentLaw hover st _
    · exact failedRead_recentLaw hover st

theorem slotOpened_recentLaw {s : State} (h : s.recentLaw) (st : Stage) : (s.slotOpened st).recentLaw := by
  unfold State.slotOpened
  dsimp only
  split
  case h_1 | h_2 | h_3 =>
    exact settle_recentLaw (postCartridge_recentLaw (setSlot_recentLaw (setSlot_recentLaw h _ _) _ _) _ _)
  all_goals exact setSlot_recentLaw h _ _

theorem switchTaken_recentLaw {s : State} (h : s.recentLaw) (sw : Switch) (level changed : Bool) :
    (s.switchTaken sw level changed).recentLaw := by
  cases sw with
  | tanksw =>
    exact ite_recentLaw h (ite_recentLaw (recentLaw_of_frame h (by simp [State.sameSerials])) (tankOpened_recentLaw h))
  | slot st => exact ite_recentLaw h (ite_recentLaw (ite_recentLaw (setSlot_recentLaw h _ _) h) (slotOpened_recentLaw h st))
  | mf0 | mf1 | mf2 => exact functionTaken_recentLaw h _ _ _

/-! ### Commands -/

theorem cmdResetFilter_recentLaw {s : State} (h : s.recentLaw) (p : Port) (pl : List Byte) :
    (cmdResetFilter s p pl).1.recentLaw := by
  unfold cmdResetFilter
  dsimp only
  repeat' split
  all_goals first | exact h | exact changeAccount_recentLaw h rfl

theorem cmdSetStage_recentLaw {s : State} (h : s.recentLaw) (p : Port) (pl : List Byte) :
    (cmdSetStage s p pl).1.recentLaw := by
  unfold cmdSetStage
  repeat' split
  all_goals first | exact h | exact changeAccount_recentLaw h rfl

theorem cmdForgetCartridge_recentLaw {s : State} (h : s.recentLaw) (p : Port) (pl : List Byte) :
    (cmdForgetCartridge s p pl).1.recentLaw := by
  unfold cmdForgetCartridge
  dsimp only
  split
  · exact h
  · split
    · exact h
    · exact request_recentLaw (postCartridge_recentLaw (removeRecent_recentLaw h _) _ _) _

theorem cmdPutDemand_recentLaw {s : State} (h : s.recentLaw) (p : Port) (pl : List Byte) :
    (cmdPutDemand s p pl).1.recentLaw := by
  unfold cmdPutDemand
  repeat' split
  all_goals first | exact h | exact resolveTable_recentLaw h _

theorem cmdClearDemand_recentLaw {s : State} (h : s.recentLaw) (p : Port) (pl : List Byte) :
    (cmdClearDemand s p pl).1.recentLaw := by
  unfold cmdClearDemand
  dsimp only
  repeat' split
  all_goals first | exact h | exact resolveTable_recentLaw h _

theorem clearAll_recentLaw {s : State} (h : s.recentLaw) (p : Port) (c : ClearScope) : (s.clearAll p c).1.recentLaw := by
  unfold State.clearAll
  dsimp only
  split
  · exact h
  · exact resolveTable_recentLaw (reportDropped_recentLaw h _ _) _

theorem cmdClearAllDemands_recentLaw {s : State} (h : s.recentLaw) (p : Port) (pl : List Byte) :
    (cmdClearAllDemands s p pl).1.recentLaw := by
  unfold cmdClearAllDemands
  repeat' split
  all_goals first | exact h | exact clearAll_recentLaw h _ _

theorem cmdWriteConfig_recentLaw {s : State} (h : s.recentLaw) (p : Port) (pl : List Byte) :
    (cmdWriteConfig s p pl).1.recentLaw := by
  unfold cmdWriteConfig
  repeat' split
  all_goals first | exact h | exact applyConfig_recentLaw h _

theorem cmdClearLockout_recentLaw {s : State} (h : s.recentLaw) (p : Port) (pl : List Byte) :
    (cmdClearLockout s p pl).1.recentLaw := by
  unfold cmdClearLockout
  repeat' split
  all_goals first | exact h | exact clearLockoutNow_recentLaw h _

theorem cmdForceDefrost_recentLaw {s : State} (h : s.recentLaw) (p : Port) (pl : List Byte) :
    (cmdForceDefrost s p pl).1.recentLaw := by
  unfold cmdForceDefrost
  split
  · exact settled_recentLaw h (by simp [State.sameSerials])
  · exact h

theorem handle_recentLaw {s : State} (h : s.recentLaw) (c : Command) (p : Port) (pl : List Byte) :
    (handle c s p pl).1.recentLaw := by
  cases c with
  | resetFilter => exact cmdResetFilter_recentLaw h p pl
  | setStage => exact cmdSetStage_recentLaw h p pl
  | forgetCartridge => exact cmdForgetCartridge_recentLaw h p pl
  | putDemand => exact cmdPutDemand_recentLaw h p pl
  | clearDemand => exact cmdClearDemand_recentLaw h p pl
  | clearAllDemands => exact cmdClearAllDemands_recentLaw h p pl
  | writeConfig => exact cmdWriteConfig_recentLaw h p pl
  | clearLockout => exact cmdClearLockout_recentLaw h p pl
  | forceDefrost => exact cmdForceDefrost_recentLaw h p pl
  | readSensors | readPlan | readDemands | readDrying | readEvents | setEventMask | restart | readLog => exact h
  | readAirflow | readFilters | readCartridges | readTank | readConfig | setLogJoin | loadCurve | selectCurve
  | setCursor =>
    simp only [handle, cmdReadAirflow, cmdReadFilters, cmdReadCartridges, cmdReadTank, cmdReadConfig, cmdSetLogJoin,
      cmdLoadCurve, cmdSelectCurve, cmdSetCursor]
    repeat' split
    all_goals exact h
  | pumpOut | pumpAbort =>
    refine recentLaw_of_frame h ?_
    simp only [handle, cmdPumpOut, State.pumpOutNew, State.pumpOutResume, cmdPumpAbort]
    repeat' split
    all_goals simp [State.sameSerials]

/-! ### Frames and links -/

theorem judge_recentLaw {s : State} (h : s.recentLaw) (p : Port) (f : Frame) : (judge s p f).1.recentLaw := by
  unfold judge judgeKnown
  repeat' split
  all_goals first | exact h | exact handle_recentLaw h _ _ _

theorem takeFrame_recentLaw {s : State} (h : s.recentLaw) (p : Port) (f : Frame) : (s.takeFrame p f).recentLaw :=
  recentLaw_of_frame (judge_recentLaw h p f) (by simp [State.sameSerials, State.takeFrame])

theorem setPrt_recentLaw {s : State} (h : s.recentLaw) (x : Prt) : (s.setPrt x).recentLaw := h

theorem setRx_recentLaw {s : State} (h : s.recentLaw) (p : Port) (rx : Option (List Byte)) :
    (s.setRx p rx).recentLaw := h

theorem setOut_recentLaw {s : State} (h : s.recentLaw) (p : Port) (bytes : List Byte) :
    (s.setOut p bytes).recentLaw := h

theorem linkFrame_recentLaw {s : State} (h : s.recentLaw) (f : Frame) : (s.linkFrame f).recentLaw := by
  unfold State.linkFrame
  repeat' split
  · exact setPrt_recentLaw h _
  · exact h
  · exact takeFrame_recentLaw h _ _

theorem receive_recentLaw {s : State} (h : s.recentLaw) (p : Port) (f : Frame) : (s.receive p f).recentLaw := by
  have hrx := setRx_recentLaw h p none
  refine ite_recentLaw h ?_
  cases p with
  | panel => exact setOut_recentLaw (takeFrame_recentLaw hrx _ _) _ _
  | link => exact linkFrame_recentLaw hrx f
  | service => exact ite_recentLaw hrx (takeFrame_recentLaw hrx _ _)

theorem linkReceive_recentLaw {s : State} (h : s.recentLaw) (b : Byte) : (s.linkReceive b).recentLaw := by
  unfold State.linkReceive
  split
  · exact h
  · exact setRx_recentLaw h _ _
  · exact setRx_recentLaw h _ _
  · exact receive_recentLaw h _ _

theorem panelReceive_recentLaw {s : State} (h : s.recentLaw) (bytes : List Byte) : (s.panelReceive bytes).recentLaw := by
  unfold State.panelReceive
  dsimp only
  repeat' split
  all_goals exact h

theorem receiveBytes_recentLaw {s : State} (h : s.recentLaw) (p : Port) (bytes : List Byte) :
    (s.receiveBytes p bytes).recentLaw := by
  refine ite_recentLaw ?_ h
  cases p with
  | link => exact List.foldlRecOn bytes State.linkReceive h (fun _ hu b _ => linkReceive_recentLaw hu b)
  | panel => exact panelReceive_recentLaw h bytes
  | service => exact setRx_recentLaw h _ _

theorem linkTransmitEnd_recentLaw {s : State} (h : s.recentLaw) : s.linkTransmitEnd.recentLaw := by
  unfold State.linkTransmitEnd
  dsimp only
  refine ite_recentLaw ?_ h
  split
  · exact takeFrame_recentLaw (setPrt_recentLaw h _) _ _
  · exact setPrt_recentLaw h _

theorem handOver_recentLaw {s : State} (h : s.recentLaw) : s.handOver.recentLaw := h

theorem serviceRead_recentLaw {s : State} (h : s.recentLaw) (n : Nat) (early : Bool) :
    (s.serviceRead n early).recentLaw := by
  have hread : (s.readPort .service n early).recentLaw := recentLaw_of_frame h (by simp [State.sameSerials])
  exact ite_recentLaw (ite_recentLaw (handOver_recentLaw hread) hread) h

/-! ### Writes that end and writes cut off (R183, R189) -/

/-- A region after a write holds what it held or the copy. -/
theorem after_contents {α : Type} (old : Stored α) (copy : Option α) (failed : Bool) :
    (old.after copy failed).contents = old.contents ∨ copy = some (old.after copy failed).contents := by
  unfold Stored.after
  cases copy with
  | none => exact .inl rfl
  | some c => cases failed <;> simp

/-- A region of a write cut off holds what it held or the copy. -/
theorem cut_contents {α : Type} (old : Stored α) (copy : Option α) (n : Nat) (failed : Bool) (x : CutOff) :
    (old.cut copy n failed x).contents = old.contents ∨ copy = some (old.cut copy n failed x).contents := by
  unfold Stored.cut
  split
  · exact after_contents old copy failed
  · split
    · unfold Stored.torn
      cases copy <;> cases x.torn <;> simp
    · exact .inl rfl

theorem lawfulStored_of_copied {x y : PerStage Account} {c : Copies} (h : lawfulStored x (some c))
    (hy : y = x ∨ c.filters = some y) : serialsApart y := by
  obtain ⟨hx, hc⟩ := h
  rcases hy with rfl | hy
  · exact hx
  · exact hc c y rfl hy

theorem postStoreAll_recentLaw {s : State} (h : s.recentLaw) (rs : RegionSet) (v : StoreValue) :
    (s.postStoreAll rs v).recentLaw :=
  recentLaw_of_frame h (by simp [State.sameSerials])

theorem nextWrite_recentLaw {s : State} (h : s.recentLaw) : s.nextWrite.recentLaw := by
  unfold State.nextWrite
  split
  · exact ite_recentLaw h (beginWrite_recentLaw h _)
  · exact ite_recentLaw h (beginWrite_recentLaw (s := s.setSst { s.sst with restart := .lastWrite }) h _)
  · exact h
  · exact h

theorem storeWriteEnd_recentLaw {s : State} (h : s.recentLaw) (failed : RegionSet) :
    (s.storeWriteEnd failed).recentLaw := by
  obtain ⟨hb, hs⟩ := (recentLaw_iff s).1 h
  unfold State.storeWriteEnd
  split
  · exact h
  · next c hw =>
    rw [hw] at hs
    have hstored : serialsApart (s.store.after c failed).filters.contents :=
      lawfulStored_of_copied hs (after_contents s.store.filters c.filters failed.filters)
    refine nextWrite_recentLaw (postStoreAll_recentLaw ?_ _ _)
    rw [recentLaw_iff]
    exact ⟨hb, hstored, fun _ _ hn => by cases hn⟩

theorem cutOff_stored {s : State} (h : s.recentLaw) (o : CutOff) : serialsApart (s.cutOff o).store.filters.contents := by
  obtain ⟨-, hs⟩ := (recentLaw_iff s).1 h
  unfold State.cutOff
  split
  · next c hw =>
    rw [hw] at hs
    simp only [postStoreAll_frame, setStore_store]
    exact lawfulStored_of_copied hs (cut_contents s.store.filters c.filters _ _ o)
  · exact hs.1

/-! ### Resets and the start-up (R101, R190, R191) -/

/-- A reset leaves untagged accounts and an empty list. -/
theorem cleared_recentLaw {s : State} (h : serialsApart s.store.filters.contents) (log : Tlg) (k : ResetKind) :
    (s.cleared log k).recentLaw :=
  (recentLaw_iff _).2 ⟨⟨Nat.zero_le _, List.nodup_nil, List.forall_mem_nil _, freshAccounts_apart _ _⟩,
    h, fun _ _ hn => by cases hn⟩

theorem stored_apart {s : State} (h : s.recentLaw) : serialsApart s.store.filters.contents := by
  obtain ⟨-, hs, -⟩ := (recentLaw_iff s).1 h
  exact hs

theorem setSst_recentLaw {s : State} (h : s.recentLaw) {x : Sst} (hx : x.writing = s.sst.writing) :
    (s.setSst x).recentLaw := recentLaw_of_frame h ⟨rfl, rfl, rfl, hx⟩

theorem beginRead_recentLaw {s : State} (h : s.recentLaw) : s.beginRead.recentLaw := ite_recentLaw h h

theorem powerOn_recentLaw {s : State} (h : s.recentLaw) : s.powerOn.recentLaw := by
  refine ite_recentLaw h (beginRead_recentLaw ?_)
  exact cleared_recentLaw (stored_apart h) .idle .powerOn

theorem powerLoss_recentLaw {s : State} (h : s.recentLaw) (o : CutOff) : (s.powerLoss o).recentLaw := by
  refine ite_recentLaw ?_ h
  exact cleared_recentLaw (cutOff_stored h o) .idle s.kind

theorem resetnAssert_recentLaw {s : State} (h : s.recentLaw) (o : CutOff) : (s.resetnAssert o).recentLaw := by
  refine ite_recentLaw h (ite_recentLaw ?_ h)
  exact cleared_recentLaw (cutOff_stored h o) (s.cutOff o).tlg.kept .resetn

theorem resetnRelease_recentLaw {s : State} (h : s.recentLaw) : s.resetnRelease.recentLaw :=
  ite_recentLaw (beginRead_recentLaw (s := { s with resetnLow := false }) h) h

theorem warmReset_recentLaw {s : State} (h : s.recentLaw) : s.warmReset.recentLaw :=
  ite_recentLaw (beginRead_recentLaw (cleared_recentLaw (stored_apart h) _ _)) h

/-- The cleaned list is a part of the loaded one, with no serial of a current account, none seen before it, and none
twice (R101). -/
theorem cleanRecent_spec (a : PerStage Account) (seen : List (BitVec 32)) (l : List RecentEntry) :
    (cleanRecent a seen l).Sublist l ∧ ((cleanRecent a seen l).map (·.serial)).Nodup ∧
    ∀ e ∈ cleanRecent a seen l, (∀ st, (a.get st).serial ≠ some e.serial) ∧ e.serial ∉ seen := by
  induction l generalizing seen with
  | nil => exact ⟨List.Sublist.refl _, List.nodup_nil, fun _ he => by cases he⟩
  | cons x xs ih =>
    unfold cleanRecent
    split
    · obtain ⟨hsub, hnodup, hfree⟩ := ih seen
      exact ⟨hsub.cons x, hnodup, hfree⟩
    · next hx =>
      obtain ⟨hpre, hcarb, hfine, hseen⟩ : ¬_ ∧ ¬_ ∧ ¬_ ∧ ¬_ := by simpa only [not_or] using hx
      obtain ⟨hsub, hnodup, hfree⟩ := ih (x.serial :: seen)
      refine ⟨hsub.cons_cons x, List.nodup_cons.2 ⟨fun hmem => ?_, hnodup⟩, fun e he => ?_⟩
      · obtain ⟨e, he, hserial⟩ := List.mem_map.1 hmem
        exact (hfree e he).2 (hserial ▸ List.mem_cons_self)
      · rcases List.mem_cons.1 he with rfl | he
        · refine ⟨fun st => ?_, hseen⟩
          cases st with
          | pre => exact hpre
          | carb => exact hcarb
          | fine => exact hfine
        · obtain ⟨hfreeCur, hfreeSeen⟩ := hfree e he
          exact ⟨hfreeCur, fun hmem => hfreeSeen (List.mem_cons_of_mem _ hmem)⟩

theorem load_accounts_apart {x : Store} (h : serialsApart x.filters.contents) (bad : RegionSet) :
    serialsApart (x.load bad).accounts := by
  unfold Store.load
  dsimp only
  split
  · exact freshAccounts_apart _ _
  · exact serialsApart_congr h (fun st => by rw [PerStage.get_map])

/-- A list of more than 4 entries breaks the region's rule, and is replaced (R183). -/
theorem load_recent_length (x : Store) (failed unreadable : RegionSet) :
    (x.load (x.failing failed unreadable)).recent.length ≤ 4 := by
  unfold Store.load
  dsimp only
  split
  · exact Nat.zero_le _
  · next hbad =>
    refine Nat.le_trans (List.length_filterMap_le _ _) ?_
    simp only [Store.failing, Bool.or_eq_true, not_or, Bool.not_eq_true', Bool.and_eq_false_iff,
      decide_eq_false_iff_not, Decidable.not_not] at hbad
    exact hbad.2.1

/-- The blocks start with the accounts loaded and the list cleaned (R101). -/
theorem startBlocks_recentLaw {s : State} {l : Loaded} (hs : lawfulStored s.store.filters.contents s.sst.writing)
    (ha : serialsApart l.accounts) (hl : l.recent.length ≤ 4) : (s.startBlocks l).recentLaw := by
  obtain ⟨hsub, hnodup, hfree⟩ := cleanRecent_spec l.accounts [] l.recent
  exact (recentLaw_iff _).2 ⟨⟨Nat.le_trans hsub.length_le hl, hnodup, fun e he => (hfree e he).1, ha⟩, hs⟩

theorem startTold_recentLaw {s : State} (h : s.recentLaw) (r : Option StoredReason) :
    (s.startLog.postRestored r).recentLaw :=
  recentLaw_of_frame h (by simp [State.sameSerials])

theorem startUp_recentLaw {s : State} (h : s.recentLaw) {bad : RegionSet} (hl : (s.store.load bad).recent.length ≤ 4) :
    (s.startUp bad).recentLaw := by
  obtain ⟨-, hs⟩ := (recentLaw_iff s).1 h
  unfold State.startUp
  dsimp only
  refine settle_recentLaw (requestSome_recentLaw (postStoreAll_recentLaw (requestSome_recentLaw
    (startTold_recentLaw ?_ _) _) _ _) _)
  refine startBlocks_recentLaw ?_ (load_accounts_apart hs.1 bad) hl
  exact hs

theorem storeReadEnd_recentLaw {s : State} (h : s.recentLaw) (failed : RegionSet) : (s.storeReadEnd failed).recentLaw :=
  ite_recentLaw (startUp_recentLaw h (load_recent_length _ _ _)) h

theorem regionUnread_recentLaw {s : State} (h : s.recentLaw) (r : Region) : (s.regionUnread r).recentLaw := by
  unfold State.regionUnread
  dsimp only
  have ht : (s.setSst { s.sst with
      unreadable := s.sst.unreadable.union (.single r), reading := r.next
      readTimer := r.next.map (fun _ => 0) }).recentLaw := setSst_recentLaw h rfl
  split
  · exact storeReadEnd_recentLaw ht _
  · exact ht

theorem regionReadTimeout_recentLaw {s : State} (h : s.recentLaw) (r : Region) : (s.regionReadTimeout r).recentLaw :=
  ite_recentLaw (expire_recentLaw h (fun _ hu => regionUnread_recentLaw hu r)) h

end Sys2Proof.Machine
end

section
namespace Sys2Proof.Machine

/-! ### Every command keeps the law -/

/-- Bindings, commands at the recent list, writes, resets and the start-up touch the serials; every other command leaves
the accounts' serials, the list and the store as they were. -/
theorem exec_recentLaw {s : State} (h : s.recentLaw) (i : Instr) : ∃ t, exec i s = .next t ∧ t.recentLaw := by
  have timer {t : Timer} {limit : Nat} {act : State → State} (hact : ∀ u, (act u).sameSerials u) :
      (s.expire t limit act).recentLaw := expire_recentLaw h (fun u hu => recentLaw_of_frame hu (hact u))
  have settled {t : Timer} {limit : Nat} {act : State → State} (hact : ∀ u, (act u).sameSerials u) :
      (s.expire t limit (fun u => (act u).settle)).recentLaw :=
    expire_recentLaw h (fun u hu => settled_recentLaw hu (hact u))
  have run {t : Timer} {limit : Nat} {act : State → Sequence → State} (hact : ∀ u q, (act u q).sameSerials u) :
      (s.expire t limit (fun u => match u.cdc.seq with
        | some q => act u q
        | none => u)).recentLaw :=
    expire_recentLaw h (fun u hu => onRecord_recentLaw hu (fun q => recentLaw_of_frame hu (hact u q)))
  cases i with
  -- supply, resets and store
  | powerOn => exact ⟨_, rfl, powerOn_recentLaw h⟩
  | powerLoss o => exact ⟨_, rfl, powerLoss_recentLaw h o⟩
  | resetnAssert o => exact ⟨_, rfl, resetnAssert_recentLaw h o⟩
  | resetnRelease => exact ⟨_, rfl, resetnRelease_recentLaw h⟩
  | regionReadTimeout r => exact ⟨_, rfl, regionReadTimeout_recentLaw h r⟩
  | storeReadEnd failed => exact ⟨_, rfl, storeReadEnd_recentLaw h failed⟩
  | storeWriteEnd failed => exact ⟨_, rfl, storeWriteEnd_recentLaw h failed⟩
  | warmReset => exact ⟨_, rfl, warmReset_recentLaw h⟩
  | restartHandoverTimeout => exact ⟨_, rfl, expire_recentLaw h (fun _ => handOver_recentLaw)⟩
  -- cartridges and accounts
  | tagReadEnd st answer => exact ⟨_, rfl, whenUp_recentLaw h (tagReadEnd_recentLaw h st answer)⟩
  | tagReadAbandon st =>
    exact ⟨_, rfl, whenUp_recentLaw h (expire_recentLaw h (fun _ hu =>
      failedRead_recentLaw (setSlot_recentLaw hu _ _) st))⟩
  | tagReadTime st => exact ⟨_, rfl, whenUp_recentLaw h (expire_recentLaw h (fun _ hu => setSlot_recentLaw hu _ _))⟩
  | slotSettleEnd st =>
    exact ⟨_, rfl, whenUp_recentLaw h (ite_recentLaw (expire_recentLaw h (fun _ hu => setSlot_recentLaw hu _ _)) h)⟩
  | switchChangeAccepted sw =>
    exact ⟨_, rfl, whenUp_recentLaw h (expire_recentLaw h (fun _ hu =>
      switchTaken_recentLaw (setSfe_recentLaw hu _) _ _ _))⟩
  | accountingTick =>
    exact ⟨_, rfl, whenUp_recentLaw h (ite_recentLaw (expire_recentLaw h (fun _ => tick_recentLaw)) h)⟩
  -- readings, conversions, edges and pulses
  | gasReadEnd i => exact ⟨_, rfl, whenUp_recentLaw h (gasReadEnd_recentLaw h i)⟩
  | roomReadEnd r => exact ⟨_, rfl, whenUp_recentLaw h (roomReadEnd_recentLaw h r)⟩
  | coilConversion n => exact ⟨_, rfl, whenUp_recentLaw h (coilConversion_recentLaw h n)⟩
  | probeConversion n => exact ⟨_, rfl, whenUp_recentLaw h (probeConversion_recentLaw h n)⟩
  | particleFrame | fantachPulse =>
    exact ⟨_, rfl, whenUp_recentLaw h (recentLaw_of_frame h (by simp [State.sameSerials]))⟩
  | switchInputEdge sw b => exact ⟨_, rfl, recentLaw_of_frame h (by simp [State.sameSerials])⟩
  -- timers of the sensor front end, the demands, the fan and the log
  | privateBusSecond => exact ⟨_, rfl, whenUp_recentLaw h (expire_recentLaw h (fun _ => busSecond_recentLaw))⟩
  | busTransactionTimeout => exact ⟨_, rfl, whenUp_recentLaw h (expire_recentLaw h (fun _ => busFailed_recentLaw))⟩
  | darSecondTimer => exact ⟨_, rfl, whenUp_recentLaw h (expire_recentLaw h (fun _ => darSecond_recentLaw))⟩
  | regulationBoundary => exact ⟨_, rfl, whenUp_recentLaw h (expire_recentLaw h (fun _ => boundary_recentLaw))⟩
  | stallOffTimer => exact ⟨_, rfl, whenUp_recentLaw h (settled (by simp [State.sameSerials]))⟩
  | particleWarmupEnd | fanSpeedWindowEnd | minuteTimer =>
    exact ⟨_, rfl, whenUp_recentLaw h (timer (by simp [State.sameSerials]))⟩
  | particleTimeout | gasTimeout =>
    refine ⟨_, rfl, whenUp_recentLaw h (timer (fun u => ?_))⟩
    dsimp only
    split <;> simp [State.sameSerials]
  -- timers of the drying controller
  | offTimerPassed => exact ⟨_, rfl, whenUp_recentLaw h (offTimerPassed_recentLaw h)⟩
  | pulldownCheckExpiry =>
    exact ⟨_, rfl, whenUp_recentLaw h (ite_recentLaw (expire_recentLaw h (fun _ => pulldownFailed_recentLaw)) h)⟩
  | defrostTimeout =>
    exact ⟨_, rfl, whenUp_recentLaw h (ite_recentLaw (expire_recentLaw h (fun _ => defrostTimedOut_recentLaw)) h)⟩
  | minimumRunEnd | postRunEnd | frostDetected | defrostSuccess | tankSettleEnd =>
    exact ⟨_, rfl, whenUp_recentLaw h (ite_recentLaw (settled (by simp [State.sameSerials])) h)⟩
  -- timers of the tank and of a run
  | fullReleaseTimer => exact ⟨_, rfl, whenUp_recentLaw h (ite_recentLaw h (settled (by simp [State.sameSerials])))⟩
  | pumpSample =>
    exact ⟨_, rfl, whenUp_recentLaw h (onRecord_recentLaw h (fun _ =>
      ite_recentLaw (timer (by simp [State.sameSerials])) h))⟩
  | flowTimerPass | highReleaseEnd | transferTimeout =>
    exact ⟨_, rfl, whenUp_recentLaw h (onRecord_recentLaw h (fun _ => run (by simp [State.sameSerials])))⟩
  | verifyEnd =>
    refine ⟨_, rfl, whenUp_recentLaw h (onRecord_recentLaw h (fun _ => run (fun u q => ?_)))⟩
    split <;> simp [State.sameSerials]
  | primeTimeout =>
    exact ⟨_, rfl, whenUp_recentLaw h (onRecord_recentLaw h (fun _ =>
      ite_recentLaw h (run (by simp [State.sameSerials]))))⟩
  | primeFloatsTimePass =>
    exact ⟨_, rfl, whenUp_recentLaw h (onRecord_recentLaw h (fun _ =>
      ite_recentLaw (run (by simp [State.sameSerials])) h))⟩
  -- frames and links
  | readSensors p tag pl | putDemand p tag pl | clearDemand p tag pl | clearAllDemands p tag pl | readPlan p tag pl
  | readDemands p tag pl | loadCurve p tag pl | selectCurve p tag pl | readAirflow p tag pl | readFilters p tag pl
  | resetFilter p tag pl | setStage p tag pl | forgetCartridge p tag pl | readCartridges p tag pl
  | forceDefrost p tag pl | clearLockout p tag pl | readDrying p tag pl | pumpOutNew p tag pl | pumpOutResume p tag pl
  | pumpAbort p tag pl | readTank p tag pl | readLog p tag pl | setCursor p tag pl | setLogJoin p tag pl
  | readEvents p tag pl | setEventMask p tag pl | writeConfig p tag pl | readConfig p tag pl | restart p tag pl
  | badFrame p tag =>
    exact ⟨_, rfl, receive_recentLaw h p _⟩
  | unknownCommand p code tag pl => exact ⟨_, rfl, ite_recentLaw h (receive_recentLaw h p _)⟩
  | frameDiscard p =>
    refine ⟨_, rfl, ite_recentLaw h ?_⟩
    cases p <;> exact h
  | linkGapTimeout => exact ⟨_, rfl, ite_recentLaw (timer (by simp [State.sameSerials])) h⟩
  | linkTransmitEnd => exact ⟨_, rfl, linkTransmitEnd_recentLaw h⟩
  | commandReceptionStart r => exact ⟨_, rfl, receiveBytes_recentLaw h _ _⟩
  | panelFetchWindow n early =>
    exact ⟨_, rfl, ite_recentLaw (recentLaw_of_frame h (by simp [State.sameSerials])) h⟩
  | serviceReadTransaction n early => exact ⟨_, rfl, serviceRead_recentLaw h n early⟩

theorem step_recentLaw {s t : State} (h : s.recentLaw) (hs : step s = .next t) : t.recentLaw := by
  have exec_keeps {s : State} (h : s.recentLaw) {i : Instr} (hi : exec i s = .next t) : t.recentLaw := by
    obtain ⟨u, hu, hlaw⟩ := exec_recentLaw h i
    obtain rfl := Host.Outcome.next.inj (hu.symm.trans hi)
    exact hlaw
  unfold step at hs
  split at hs
  · next c rest _ => exact exec_keeps (s := { s with pending := rest }) h hs
  · unfold stepIdle at hs
    split at hs
    · exact exec_keeps h hs
    · obtain rfl := Host.Outcome.next.inj hs
      exact advance_recentLaw h 1

/-- Settles O59: a binding takes a serial that neither the list nor another account holds and moves the outgoing one to
the list, a write copies the accounts as they are, and the start-up cleans the list it loads; nothing else touches a
serial. -/
theorem serialsStayApart : Obligations.SerialsStayApart :=
  fun _ _ h hs => step_recentLaw h hs

end Sys2Proof.Machine
end

-- Slots: a cartridge taken out, the end of settling, read times and failed reads.
section
namespace Sys2Proof.Machine

/-! ### A cartridge is taken out (R65, R87, R88, R95) -/

/-- A slot without its cartridge: nothing of it is left but the mark and the cycle of read times. -/
def Slot.emptied (x : Slot) : Slot :=
  { x with state := .empty, settle := none, fails := 0, reading := none, tag := none, cause := none }

/-- Taken out while its presence counted: the removal is marked, posted and handed on. -/
theorem slotOpened_taken {s : State} {st : Stage}
    (h : (s.slot st).state = .tagged ∨ (s.slot st).state = .untagged ∨ (s.slot st).state = .mismatch) :
    s.slotOpened st =
      ((s.setSlot st { (s.slot st).emptied with removed := true }).postCartridge st .removed).settle := by
  have hremoved : (s.setSlot st (s.slot st).emptied).postRemoved st =
      (s.setSlot st { (s.slot st).emptied with removed := true }).postCartridge st .removed := by
    simp only [State.postRemoved, setSlot_slot, setSlot_setSlot]
  rw [← hremoved]
  rcases h with h | h | h <;> simp only [State.slotOpened, h, Slot.emptied]

/-- Taken out before it had a verdict: nothing is posted. -/
theorem slotOpened_unjudged {s : State} {st : Stage}
    (h : (s.slot st).state = .settling ∨ (s.slot st).state = .identifying) :
    s.slotOpened st = s.setSlot st (s.slot st).emptied := by
  rcases h with h | h <;> simp only [State.slotOpened, h, Slot.emptied]

/-- An accepted opening of a slot switch reaches the slot. -/
theorem switchChangeAccepted_slotOpened {s : State} {st : Stage} {e : Nat}
    (hst : (s.sfe.slots.get st).steady = some e) (hpin : s.pins.slots.get st = false)
    (hacc : (s.sfe.slots.get st).accepted = true) :
    s.switchChangeAccepted (.slot st) =
      ((s.advance (20 - e)).setSfe { (s.advance (20 - e)).sfe with
        slots := (s.advance (20 - e)).sfe.slots.set st ⟨false, true, none⟩ }).slotOpened st := by
  have hlevel : s.pins.get (.slot st) = false := hpin
  have hwas : (s.sfe.switch (.slot st)).accepted = true := hacc
  rw [switchChangeAccepted_running (sw := .slot st) hst, hlevel, hwas]
  rfl

/-- Settles O22: the opening reaches the slot, which posts and hands on a removal where it had a verdict. -/
theorem removingACartridge : Obligations.RemovingACartridge := by
  unfold Obligations.RemovingACartridge
  intro s st e hup hst hpin hacc u r gone
  have hopened : s.switchChangeAccepted (.slot st) = r.slotOpened st :=
    switchChangeAccepted_slotOpened hst hpin hacc
  have hrow : exec (.switchChangeAccepted (.slot st)) s = .next (r.slotOpened st) := exec_of_up rfl hup hopened
  have hslot : (r.slot st).state = (s.slot st).state := advance_slot_state s (20 - e) st
  rw [← hslot]
  refine ⟨fun h => ?_, fun h => by rw [hrow, slotOpened_unjudged h]; rfl⟩
  let v := (r.setSlot st { gone with removed := true }).postCartridge st .removed
  have hv : r.slotOpened st = v.settle := slotOpened_taken h
  refine ⟨v.settle, hv ▸ hrow, settle_handsOn v, ?_, settle_accounts v, ?_⟩
  · have hempty : (v.settle.slot st).state = .empty := by
      rw [settle_slot]
      exact congrArg Slot.state (setSlot_slot r st { gone with removed := true })
    rw [← Bool.not_eq_true, stagePresent_iff, hempty]
    simp
  · have hcrd : v.settle.crd = v.crd := by simp only [settle_frame]
    exact (congrArg Crd.recent hcrd : v.settle.crd.recent = v.crd.recent)

/-! ### Settling, read times and failed reads (R88 to R91) -/

theorem slotSettleEnd_running {s : State} {st : Stage} {e : Nat} (h : (s.slot st).state = .settling)
    (he : (s.slot st).settle = some e) :
    let u := s.advance (2000 - e)
    s.slotSettleEnd st = u.setSlot st { u.slot st with
      state := .identifying, settle := none, fails := 0, tag := none, cause := none } :=
  (if_pos h).trans (expire_running he _ _)

theorem isRead_iff (x : SlotState) : x.isRead = true ↔ x ≠ .empty ∧ x ≠ .settling := by
  cases x <;> decide

theorem tagReadTime_running {s : State} {st : Stage} {e : Nat} (he : (s.slot st).poll = some e) :
    let u := s.advance (2000 - e)
    s.tagReadTime st = u.setSlot st { u.slot st with
      poll := some 0, reading := if (u.slot st).state.isRead then some 0 else (u.slot st).reading } :=
  expire_running he _ _

/-- A slot after a failed read that leaves its state: IDENTIFYING counts the read, TAGGED counts up to 3, and the others do
not count it (R90, R91; log 47). -/
def Slot.afterFailure (x : Slot) : Slot :=
  match x.state with
  | .identifying => { x with fails := x.fails + 1 }
  | .tagged => { x with fails := min 3 (x.fails + 1) }
  | .untagged | .mismatch | .empty | .settling => x

/-- A failed read short of the third in IDENTIFYING changes its slot alone. -/
theorem failedRead_counted {s : State} {st : Stage} (h : (s.slot st).state ≠ .identifying ∨ (s.slot st).fails < 2) :
    s.failedRead st = s.setSlot st (s.slot st).afterFailure := by
  unfold State.failedRead
  cases hst : (s.slot st).state with
  | identifying =>
    have hfew : ¬3 ≤ (s.slot st).fails + 1 := by
      have := h.resolve_left (not_not_intro hst)
      omega
    simp only [Slot.afterFailure, hst, hfew, if_false]
  | tagged => simp only [Slot.afterFailure, hst]
  | untagged | mismatch | empty | settling => simp only [Slot.afterFailure, hst, setSlot_self]

theorem readOver_setSlot (s : State) (st : Stage) (x : Slot) : (s.readOver st).setSlot st x = s.setSlot st x :=
  setSlot_setSlot s st _ x

/-- A read abandoned is a read that failed when its 80 ms were over. -/
theorem tagReadAbandon_running {s : State} {st : Stage} {e : Nat} (he : (s.slot st).reading = some e) :
    s.tagReadAbandon st = (s.advance (80 - e)).tagReadEnd st none := by
  obtain ⟨e', he'⟩ : ∃ e', ((s.advance (80 - e)).slot st).reading = some e' := by
    refine ⟨min 80 (e + (80 - e)), ?_⟩
    have hadv : ((s.advance (80 - e)).slot st).reading = Timer.adv 80 (80 - e) (s.slot st).reading := by
      cases st <;> rfl
    rw [hadv, he]
    rfl
  rw [tagReadEnd_failed he']
  exact expire_running he _ _

/-- Settles O36: each row's operation, run where its timer or its read is in progress. -/
theorem slotsSettleAndAreRead : Obligations.SlotsSettleAndAreRead := by
  unfold Obligations.SlotsSettleAndAreRead
  refine fun s st hup => ⟨fun e hst he => exec_of_up rfl hup (slotSettleEnd_running hst he), fun e he => ?_,
    fun e he hfew => ?_, fun e he => ?_⟩
  · intro u reads
    have hreads : (u.slot st).state.isRead = true ↔ reads := by
      rw [isRead_iff, advance_slot_state]
    rw [← ite_congr (propext hreads) (fun _ => rfl) (fun _ => rfl)]
    exact exec_of_up rfl hup (tagReadTime_running he)
  · intro read
    rw [exec_tagReadEnd hup, tagReadEnd_failed he, failedRead_counted (by rw [readOver_slot]; exact hfew),
      readOver_slot, readOver_setSlot]
    change Host.Outcome.next (s.setSlot st read.afterFailure) = _
    clear_value read
    unfold Slot.afterFailure
    cases read.state <;> rfl
  · have hup' : (s.advance (80 - e)).up = true := hup
    rw [exec_tagReadEnd hup', ← tagReadAbandon_running he]
    exact exec_of_up rfl hup rfl

end Sys2Proof.Machine
end

-- What a step does to the drying record and to the conditions under which the compressor may be on, said once for every
-- operation: the off-timer's rest and the compressor's law both follow.
section
namespace Sys2Proof.Machine

/-! ### The drying record at one moment (R102, R108) -/

/-- The drying record `y` comes from `x` at one moment: the compressor stopped and the off-timer restarted, or the
off-timer is as it was and the compressor runs on, stays off, or starts with the off-timer PASSED. -/
def Drc.follows (y x : Drc) : Prop :=
  (y.state.on = false ∧ y.off = .counting 0) ∨
  (y.off = x.off ∧ (y.state.on = x.state.on ∨ (x.state.on = false ∧ x.off = .passed)))

theorem Drc.follows_refl (x : Drc) : x.follows x := .inr ⟨rfl, .inl rfl⟩

theorem Drc.follows_trans {z y x : Drc} (h : z.follows y) (k : y.follows x) : z.follows x := by
  rcases h with h | ⟨hoff, hon⟩
  · exact .inl h
  · rcases k with ⟨kon, koff⟩ | ⟨koff, kon⟩
    · rcases hon with hon | ⟨-, hp⟩
      · exact .inl ⟨hon.trans kon, hoff.trans koff⟩
      · rw [koff] at hp
        cases hp
    · refine .inr ⟨hoff.trans koff, ?_⟩
      rcases hon with hon | ⟨hy, hp⟩
      · rw [hon]
        exact kon
      · rcases kon with kon | kon
        · exact .inr ⟨kon ▸ hy, koff ▸ hp⟩
        · exact .inr kon

/-- A record with the same off-timer, the compressor on or off as before. -/
theorem Drc.follows_of_same {y x : Drc} (ho : y.off = x.off) (hs : y.state.on = x.state.on) : y.follows x :=
  .inr ⟨ho, .inl hs⟩

/-- A state that the DRC's rule reaches with the compressor on is the one it had, or follows a start (R108). -/
theorem dryingFrom_on {t : State} {ran : Bool} {x : DryState} (h : (t.dryingFrom ran x).on = true) :
    (x.on = true ∧ t.dryingFrom ran x = x) ∨ (x.on = false ∧ t.canStart = true) := by
  have hchoice : ¬t.choice.on = true := by rw [(choice_resting t).2]; simp
  cases x with
  | off | satisfied | hold | startWait =>
    refine .inr ⟨rfl, ?_⟩
    simp only [State.dryingFrom] at h
    split at h
    · cases h
    · split at h
      · exact (‹t.choice = .startWait ∧ t.canStart = true›).2
      · exact absurd h hchoice
  | pulldown | running =>
    refine .inl ⟨rfl, ?_⟩
    simp only [State.dryingFrom] at h ⊢
    split at h
    · cases h
    · next hready =>
      rw [if_neg hready]
      split at h
      · split at h
        · exact absurd h hchoice
        · cases h
      · next hsafe =>
        rw [if_neg hsafe]
        split at h
        · cases h
        · next hstop => exact if_neg hstop
  | defrost | postRun =>
    simp only [State.dryingFrom] at h
    split at h <;> cases h
  | lockout => cases h

/-- A running compressor's record that moves on to a state with the compressor off restarts the off-timer. -/
theorem movedTo_off {x : Drc} {new : DryState} (hx : x.state.on = true) (hn : new.on = false) (coil : Option Int)
    (r : LockReason) : (x.movedTo new coil r).off = .counting 0 := by
  have hne : new ≠ x.state := fun h => by rw [h, hx] at hn; cases hn
  have hrun : x.state = .pulldown ∨ x.state = .running := by simpa [DryState.on] using hx
  unfold Drc.movedTo
  rw [if_neg hne]
  simp only [if_pos hrun]
  cases new <;> rfl

/-- The hand-overs stop a compressor with its off-timer restarted, and start one whose off-timer is PASSED alone. -/
theorem handsOn_follows {t v : State} (h : t.handsOn v) : t.drc.follows v.drc := by
  obtain ⟨_, _, _, hstate, hrecord, _, _⟩ := h
  generalize hx : ({ v.drc with
    readings := v.drc.readings.after v.rh v.roomTemp v.sfe.coil.temp
    call := nextCall v.dar.plan.dry v.rh v.drc.call
    cold := nextCold v.roomTemp v.drc.cold } : Drc) = x at hrecord
  have hxs : x.state = v.drc.state := by rw [← hx]
  have hxo : x.off = v.drc.off := by rw [← hx]
  by_cases hon : v.drc.state.on = true
  · by_cases hnew : t.drc.state.on = true
    · obtain ⟨-, hkept⟩ | ⟨hoff, -⟩ := dryingFrom_on (hstate ▸ hnew)
      · have hsame : t.drc.state = v.drc.state := hstate.trans hkept
        rw [Drc.movedTo, if_pos (hsame.trans hxs.symm)] at hrecord
        exact Drc.follows_of_same (hrecord ▸ hxo) (congrArg DryState.on hsame)
      · rw [hon] at hoff
        cases hoff
    · rw [Bool.not_eq_true] at hnew
      exact .inl ⟨hnew, hrecord ▸ movedTo_off (hxs ▸ hon) hnew _ _⟩
  · rw [Bool.not_eq_true] at hon
    obtain ⟨-, -, hkeep⟩ := movedTo_marks x t.drc.state v.sfe.coil.temp v.dryingReason
    have hoff : t.drc.off = v.drc.off := by rw [hrecord, hkeep (hxs ▸ hon), hxo]
    by_cases hnew : t.drc.state.on = true
    · obtain ⟨hrun, -⟩ | ⟨-, hstart⟩ := dryingFrom_on (hstate ▸ hnew)
      · rw [hon] at hrun
        cases hrun
      · refine .inr ⟨hoff, .inr ⟨hon, ?_⟩⟩
        simp only [State.canStart, Bool.and_eq_true, beq_iff_eq] at hstart
        exact hoff ▸ hstart.1.1.1
    · rw [Bool.not_eq_true] at hnew
      exact Drc.follows_of_same hoff (hnew.trans hon.symm)

/-! ### The conditions of a running compressor (R102) -/

/-- The conditions under which the compressor may be on. -/
def State.mayRun (s : State) : Prop :=
  s.cdc.presence = .present ∧ s.cdc.full = false ∧ s.level.known = true ∧ s.requiredAbsent = false ∧
  s.afc.stalled = false ∧ s.afc.fault = false

/-- The level is known where the probe has published one, or both floats have had their first level (R8, R131). -/
theorem level_known_iff (s : State) : s.level.known = true ↔
    (s.sst.settings.terminals.method = .probe → (median s.sfe.probe.window).isSome = true) ∧
    (s.sst.settings.terminals.method = .floats → s.sfe.mf0.first = true ∧ s.sfe.mf1.first = true) := by
  have hfloats (high full : Bool) : (floatsLevel high full).known = true := by cases high <;> cases full <;> rfl
  unfold State.level State.probeLevel
  cases s.sst.settings.terminals.method with
  | probe => cases median s.sfe.probe.window <;> simp [Level.known]
  | floats =>
    have hunknown : Level.unknown.known = false := rfl
    cases s.sfe.mf0.first <;> cases s.sfe.mf1.first <;> simp [hunknown, hfloats]

/-- Nothing that the conditions read changed, nor the time, the drying record or the CONFIG. -/
def State.sameConditions (t s : State) : Prop :=
  t.now = s.now ∧ t.drc = s.drc ∧ t.sst.settings = s.sst.settings ∧ t.crd.slots = s.crd.slots ∧
  t.cdc.presence = s.cdc.presence ∧ t.cdc.full = s.cdc.full ∧ t.afc.stalled = s.afc.stalled ∧
  t.afc.fault = s.afc.fault ∧ t.sfe.probe.window = s.sfe.probe.window ∧ t.sfe.mf0.first = s.sfe.mf0.first ∧
  t.sfe.mf1.first = s.sfe.mf1.first

theorem State.sameConditions.mayRun {t s : State} (h : t.sameConditions s) (hs : s.mayRun) : t.mayRun := by
  obtain ⟨_, _, hset, hcrd, hp, hf, hst, hfa, hw, h0, h1⟩ := h
  obtain ⟨rp, rf, rl, rr, rst, rfa⟩ := hs
  refine ⟨hp.trans rp, hf.trans rf, ?_, ?_, hst.trans rst, hfa.trans rfa⟩
  · rwa [level_known_iff, hset, hw, h0, h1, ← level_known_iff]
  · simpa only [State.requiredAbsent, State.stagePresent, hset, hcrd] using rr

/-! ### Operations at one moment -/

/-- `v` comes from `s` at one moment, with its hand-overs still to come: no time passed, the drying record follows, and
the CONFIG is one that the checks accept. -/
structure State.Draft (v s : State) : Prop where
  now : v.now = s.now
  drc : v.drc.follows s.drc
  config : s.configLaw → v.configLaw

/-- `t` comes from `s` at one moment, with the compressor's law kept. -/
structure State.Lawful (t s : State) : Prop extends t.Draft s where
  law : s.compressorLaw → t.compressorLaw

theorem State.Draft.trans {t v s : State} (h : t.Draft v) (k : v.Draft s) : t.Draft s :=
  ⟨h.now.trans k.now, Drc.follows_trans h.drc k.drc, fun hs => h.config (k.config hs)⟩

theorem State.Lawful.trans {t v s : State} (h : t.Lawful v) (k : v.Lawful s) : t.Lawful s :=
  ⟨h.toDraft.trans k.toDraft, fun hs => h.law (k.law hs)⟩

/-- Neither the time nor the drying record nor the CONFIG changed. -/
def State.sameDrying (v s : State) : Prop :=
  v.now = s.now ∧ v.drc = s.drc ∧ v.sst.settings = s.sst.settings

theorem draft_of_record {v s : State} (hn : v.now = s.now) (hd : v.drc.follows s.drc)
    (hs : v.sst.settings = s.sst.settings) : v.Draft s :=
  ⟨hn, hd, fun h => (congrArg Settings.valid hs).trans h⟩

theorem draft_of_frame {v s : State} (h : v.sameDrying s) : v.Draft s := by
  obtain ⟨hn, hd, hs⟩ := h
  exact draft_of_record hn (hd ▸ Drc.follows_refl _) hs

theorem lawful_refl (s : State) : s.Lawful s := ⟨draft_of_frame ⟨rfl, rfl, rfl⟩, id⟩

theorem lawful_of_frame {t s : State} (h : t.sameConditions s) : t.Lawful s := by
  have ⟨hn, hd, hs, _⟩ := h
  exact ⟨draft_of_frame ⟨hn, hd, hs⟩, fun hlaw hon => h.mayRun (hlaw (hd ▸ hon))⟩

/-- The conditions still hold where they held, and the compressor is not started. -/
theorem lawful_of_mayRun {t s : State} (h : t.sameDrying s) (hr : s.mayRun → t.mayRun) : t.Lawful s :=
  ⟨draft_of_frame h, fun hlaw hon => hr (hlaw (h.2.1 ▸ hon))⟩

/-- After its hand-overs a step keeps the law, whatever it did before. -/
theorem settle_lawful {v s : State} (h : v.Draft s) : v.settle.Lawful s where
  toDraft := (draft_of_record (by simp) (handsOn_follows (settle_handsOn v)) (by simp)).trans h
  law := fun _ => settle_compressorLaw v

theorem settled_lawful {v s : State} (h : v.sameDrying s) : v.settle.Lawful s := settle_lawful (draft_of_frame h)

theorem ite_lawful {c : Prop} [Decidable c] {t u s : State} (ht : t.Lawful s) (hu : u.Lawful s) :
    (if c then t else u).Lawful s := by
  split
  · exact ht
  · exact hu

/-- An operation on the record of a run, where there is one. -/
theorem onRecord_lawful {s : State} {x : Option Sequence} {k : Sequence → State} (hk : ∀ q, (k q).Lawful s) :
    (match x with
      | some q => k q
      | none => s).Lawful s := by
  cases x with
  | none => exact lawful_refl s
  | some q => exact hk q

theorem request_lawful (s : State) (rs : RegionSet) : (s.request rs).Lawful s :=
  lawful_of_frame (by simp [State.sameConditions])

end Sys2Proof.Machine
end

-- The compressor's law and the off-timer through every operation: drying, readings, the tank and its runs, slots and
-- bindings, demands, the fan and the CONFIG.
section
namespace Sys2Proof.Machine

/-! ### Drying -/

theorem stopped_follows (x : Drc) {y : Drc} (ho : y.off = .counting 0) (hs : y.state.on = false) : y.follows x :=
  .inl ⟨hs, ho⟩

/-- A new state and other fields of a record whose compressor is off. -/
theorem goto_draft {s : State} {x : Drc} {st : DryState} (h : ({ x with state := st } : Drc).follows s.drc) :
    ((s.setDrc x).goto st).Draft s :=
  draft_of_record (by simp) (by rw [goto_off]; exact h) (by simp)

theorem coilReading_draft (s : State) (n : Int) : (s.coilReading n).Draft s := by
  refine draft_of_record (by simp) ?_ (by simp)
  by_cases hp : s.drc.state = .pulldown
  · unfold State.coilReading
    rw [hp]
    dsimp only
    repeat' split
    · rw [goto_off]
      exact Drc.follows_of_same rfl (by simp [hp, DryState.on])
    all_goals exact Drc.follows_refl _
  by_cases hr : s.drc.state = .running
  · rw [coilReading_running hr]
    exact Drc.follows_of_same rfl rfl
  by_cases hd : s.drc.state = .defrost
  · rw [coilReading_defrost hd]
    exact Drc.follows_of_same rfl rfl
  · rw [coilReading_resting hp hr hd]
    exact Drc.follows_refl _

theorem enterDefrost_draft (s : State) (c : DefrostCause) : (s.enterDefrost c).Draft s :=
  draft_of_record (by simp) (by
    simp only [State.enterDefrost, log_frame, goto_off]
    exact stopped_follows _ rfl rfl) (by simp)

theorem normalStopNow_draft (s : State) : s.normalStopNow.Draft s :=
  draft_of_record (by simp) (by
    simp only [State.normalStopNow, State.enterPostRun, goto_off]
    exact stopped_follows _ rfl rfl) (by simp)

theorem enterLockout_draft (s : State) (r : LockReason) : (s.enterLockout r).Draft s := by
  refine draft_of_record (by simp) ?_ (by simp)
  have hdrc : (s.enterLockout r).drc.state = .lockout ∧
      (s.enterLockout r).drc.off = (if s.drc.state.on then s.drc.stopped else s.drc).off := by
    unfold State.enterLockout
    dsimp only
    split <;> simp [goto_off]
  obtain ⟨hstate, hoff⟩ := hdrc
  have hlock : (s.enterLockout r).drc.state.on = false := by rw [hstate]; rfl
  by_cases hon : s.drc.state.on = true
  · rw [if_pos hon] at hoff
    exact stopped_follows _ hoff hlock
  · rw [if_neg hon] at hoff
    exact Drc.follows_of_same hoff (hlock.trans ((Bool.not_eq_true _).mp hon).symm)

/-- DEFROST and POST-RUN are over with the compressor off. -/
theorem rest_draft {s : State} (h : s.drc.state.on = false) : s.rest.Draft s :=
  goto_draft (Drc.follows_of_same rfl h.symm)

theorem setDrc_draft {s : State} {x : Drc} (ho : x.off = s.drc.off) (hs : x.state = s.drc.state) :
    (s.setDrc x).Draft s :=
  draft_of_record rfl (Drc.follows_of_same ho (congrArg DryState.on hs)) rfl

theorem log_draft (s : State) (e : Event) : (s.log e).Draft s := draft_of_frame (by simp [State.sameDrying])

theorem pulldownFailed_lawful (s : State) : s.pulldownFailed.Lawful s := by
  unfold State.pulldownFailed
  dsimp only
  split
  · refine settle_lawful ((normalStopNow_draft _).trans ?_)
    exact draft_of_record rfl (Drc.follows_of_same rfl rfl) rfl
  · exact settle_lawful ((enterLockout_draft _ _).trans (setDrc_draft rfl rfl))

theorem defrostTimedOut_lawful {s : State} (h : s.drc.state.on = false) : s.defrostTimedOut.Lawful s := by
  unfold State.defrostTimedOut
  dsimp only
  split
  · exact settle_lawful ((enterLockout_draft _ _).trans (setDrc_draft rfl rfl))
  · refine settle_lawful ((rest_draft ?_).trans ((log_draft _ _).trans (setDrc_draft rfl rfl)))
    simpa using h

theorem defrostSucceeded_lawful {s : State} (h : s.drc.state.on = false) :
    ((s.setDrc { s.drc with defrostFails := 0 }).log (.defrost .success)).rest.settle.Lawful s := by
  refine settle_lawful ((rest_draft ?_).trans ((log_draft _ _).trans (setDrc_draft rfl rfl)))
  simpa using h

theorem clearLockoutNow_lawful {s : State} (h : s.drc.state.on = false) (r : LockReason) :
    (s.clearLockoutNow r).Lawful s := by
  unfold State.clearLockoutNow
  dsimp only
  refine settle_lawful (draft_of_record ?_ ?_ ?_)
  · split <;> simp
  · refine Drc.follows_of_same ?_ ?_
    · split <;> simp [goto_off]
    · rw [h]
      split <;> simp [goto_off, DryState.on]
  · split <;> simp

/-! ### Readings (R2 to R9) -/

theorem setSfe_lawful {s : State} {x : Sfe} (hp : x.probe.window = s.sfe.probe.window)
    (h0 : x.mf0.first = s.sfe.mf0.first) (h1 : x.mf1.first = s.sfe.mf1.first) : (s.setSfe x).Lawful s :=
  lawful_of_frame ⟨rfl, rfl, rfl, rfl, rfl, rfl, rfl, rfl, hp, h0, h1⟩

theorem setBus_lawful (s : State) (x : PrivateBus) : (s.setBus x).Lawful s := setSfe_lawful rfl rfl rfl

theorem roomFailed_lawful (s : State) : s.roomFailed.Lawful s := by
  unfold State.roomFailed
  dsimp only
  split
  · refine settled_lawful ?_
    split <;> simp [State.sameDrying]
  · exact setSfe_lawful rfl rfl rfl

theorem roomGood_lawful (s : State) (r : RoomRead) : (s.roomGood r).Lawful s := by
  refine settled_lawful ?_
  split <;> simp [State.sameDrying]

theorem busFailed_lawful (s : State) : s.busFailed.Lawful s := by
  unfold State.busFailed
  split
  · exact lawful_refl s
  · exact setBus_lawful s _
  · exact (roomFailed_lawful _).trans (setBus_lawful s _)

theorem busSecond_lawful (s : State) : s.busSecond.Lawful s := by
  unfold State.busSecond
  extract_lets t
  have ht : t.Lawful s := by
    unfold t
    split
    · exact (roomFailed_lawful _).trans (setBus_lawful s _)
    · exact lawful_refl s
  exact (setBus_lawful t _).trans ht

theorem gasGood_lawful (s : State) (n : Nat) : (s.gasGood n).Lawful s := by
  refine lawful_of_frame ?_
  unfold State.gasGood
  dsimp only
  split <;> simp [State.sameConditions]

theorem gasReadEnd_lawful (s : State) (i : Option Nat) : (s.gasReadEnd i).Lawful s := by
  unfold State.gasReadEnd
  refine ite_lawful ?_ (lawful_refl s)
  cases i with
  | none => exact busFailed_lawful s
  | some n => exact (setBus_lawful _ _).trans (gasGood_lawful s n)

theorem roomReadEnd_lawful (s : State) (r : Option RoomRead) : (s.roomReadEnd r).Lawful s := by
  unfold State.roomReadEnd
  refine ite_lawful ?_ (lawful_refl s)
  cases r with
  | none => exact busFailed_lawful s
  | some r => exact (roomGood_lawful _ r).trans (setBus_lawful s _)

theorem coilConversion_lawful (s : State) (n : Int) : (s.coilConversion n).Lawful s := by
  unfold State.coilConversion
  dsimp only
  split
  · refine settle_lawful ((coilReading_draft _ n).trans (draft_of_frame ?_))
    split <;> simp [State.sameDrying]
  · split
    · refine settled_lawful ?_
      split <;> simp [State.sameDrying]
    · exact setSfe_lawful rfl rfl rfl

/-- A published level that did not change leaves the level held known as it was. -/
theorem levelPublished_lawful {v s : State} (h : v.sameDrying s) (hc : v.crd = s.crd) (hd : v.cdc = s.cdc)
    (ha : v.afc = s.afc) (h0 : v.sfe.mf0 = s.sfe.mf0) (h1 : v.sfe.mf1 = s.sfe.mf1) :
    (v.levelPublished s.probeLevel).Lawful s := by
  have ⟨hn, hdrc, hs⟩ := h
  by_cases hl : v.probeLevel = s.probeLevel
  · rw [levelPublished_of_eq hl]
    refine lawful_of_mayRun h (fun hr => ?_)
    obtain ⟨rp, rf, rl, rr, rst, rfa⟩ := hr
    refine ⟨hd ▸ rp, hd ▸ rf, ?_, ?_, ha ▸ rst, ha ▸ rfa⟩
    · rwa [level_known_iff, hs, h0, h1, show median v.sfe.probe.window = median s.sfe.probe.window from hl,
        ← level_known_iff]
    · simpa only [State.requiredAbsent, State.stagePresent, hs, hc] using rr
  · rw [levelPublished_of_ne hl]
    exact settled_lawful ⟨by simp [hn], by simp [hdrc], by simp [hs]⟩

theorem probeConversion_lawful (s : State) (n : Int) : (s.probeConversion n).Lawful s := by
  unfold State.probeConversion
  dsimp only
  refine ite_lawful (lawful_refl s) ?_
  split
  · split <;> exact levelPublished_lawful ⟨rfl, rfl, rfl⟩ rfl rfl rfl rfl rfl
  · split
    · split <;> exact levelPublished_lawful ⟨rfl, rfl, rfl⟩ rfl rfl rfl rfl rfl
    · exact setSfe_lawful rfl rfl rfl

/-! ### The tank and its runs (R128 to R150) -/

@[simp] theorem enterPhase_tank (s : State) (q : Sequence) (ph : Phase) :
    (s.enterPhase q ph).cdc.presence = s.cdc.presence ∧ (s.enterPhase q ph).cdc.full = s.cdc.full := ⟨rfl, rfl⟩

@[simp] theorem autoStart_tank (s : State) :
    s.autoStart.cdc.presence = s.cdc.presence ∧ s.autoStart.cdc.full = s.cdc.full := by
  unfold State.autoStart State.beginRun
  split <;> simp

@[simp] theorem endRun_tank (s : State) (q : Sequence) (st : SeqStatus) (c : Condition) :
    (s.endRun q st c).cdc.presence = s.cdc.presence ∧ (s.endRun q st c).cdc.full = s.cdc.full := by
  unfold State.endRun
  dsimp only
  split <;> simp

@[simp] theorem pumpSampleTaken_tank (s : State) :
    s.pumpSampleTaken.cdc.presence = s.cdc.presence ∧ s.pumpSampleTaken.cdc.full = s.cdc.full := by
  unfold State.pumpSampleTaken State.samplePrime State.sampleTransfer State.judgeTransfer
  dsimp only
  repeat' split
  all_goals simp

theorem enterPhase_lawful (s : State) (q : Sequence) (ph : Phase) : (s.enterPhase q ph).Lawful s :=
  lawful_of_frame (by simp [State.sameConditions])

theorem beginRun_lawful (s : State) (q : Sequence) (ph : Phase) : (s.beginRun q ph).Lawful s := enterPhase_lawful s _ ph

theorem endRun_lawful (s : State) (q : Sequence) (st : SeqStatus) (c : Condition) : (s.endRun q st c).Lawful s :=
  lawful_of_frame (by simp [State.sameConditions])

theorem setSeq_lawful (s : State) (q : Option Sequence) : (s.setCdc { s.cdc with seq := q }).Lawful s :=
  lawful_of_frame (by simp [State.sameConditions])

/-- Away from PRESENT the law holds with the compressor off alone. -/
theorem lawful_of_absent {t s : State} (h : t.sameDrying s) (hp : s.cdc.presence ≠ .present) : t.Lawful s :=
  lawful_of_mayRun h (fun hr => absurd hr.1 hp)

theorem tankClosed_lawful (s : State) : s.tankClosed.Lawful s := by
  unfold State.tankClosed
  split
  · next hp => exact lawful_of_absent ⟨rfl, rfl, rfl⟩ (by rw [hp]; simp)
  · exact lawful_refl s

theorem tankOpened_lawful (s : State) : s.tankOpened.Lawful s := by
  unfold State.tankOpened
  dsimp only
  split
  · exact settled_lawful (by simp [State.sameDrying])
  · next hp => exact lawful_of_absent ⟨rfl, rfl, rfl⟩ hp

theorem flowChanged_lawful (s : State) (b : Bool) : (s.flowChanged b).Lawful s := by
  unfold State.flowChanged
  split
  · exact ite_lawful (setSeq_lawful s _) (lawful_refl s)
  · exact lawful_refl s

theorem floatTaken_lawful (s : State) (f : MfFunction) (level changed : Bool) :
    (s.floatTaken f level changed).Lawful s := by
  unfold State.floatTaken
  refine settled_lawful ?_
  repeat' split
  all_goals simp [State.sameDrying]

theorem functionTaken_lawful (s : State) (f : MfFunction) (level changed : Bool) :
    (s.functionTaken f level changed).Lawful s := by
  cases f with
  | floatHigh | floatFull => exact floatTaken_lawful s _ _ _
  | pumpFlow => exact ite_lawful (flowChanged_lawful s _) (lawful_refl s)
  | powerFailWarn => exact ite_lawful (request_lawful s _) (lawful_refl s)
  | none | probe => exact lawful_refl s

/-! ### Slots and bindings (R87 to R95) -/

/-- A slot that stays PRESENT or ABSENT leaves the required stages as they were. -/
theorem setSlot_lawful {s : State} {st : Stage} {x : Slot} (h : x.present = (s.slot st).present) :
    (s.setSlot st x).Lawful s := by
  refine lawful_of_mayRun ⟨rfl, rfl, rfl⟩ (fun hr => ?_)
  obtain ⟨rp, rf, rl, rr, rst, rfa⟩ := hr
  refine ⟨rp, rf, rl, ?_, rst, rfa⟩
  have hsame (st' : Stage) : (s.setSlot st x).stagePresent st' = s.stagePresent st' := by
    by_cases hst : st' = st
    · subst hst
      exact (congrArg Slot.present (setSlot_slot s st' x)).trans h
    · exact congrArg Slot.present (PerStage.get_set_other _ _ _ _ hst)
  have hsst : (s.setSlot st x).sst = s.sst := rfl
  simpa only [State.requiredAbsent, hsame, hsst] using rr

/-- A slot's other fields. -/
theorem setSlot_lawful_of_state {s : State} {st : Stage} {x : Slot} (h : x.state = (s.slot st).state) :
    (s.setSlot st x).Lawful s := setSlot_lawful (by simp only [Slot.present, h])

theorem setSlot_draft (s : State) (st : Stage) (x : Slot) : (s.setSlot st x).Draft s := draft_of_frame ⟨rfl, rfl, rfl⟩

theorem enterMismatch_lawful (s : State) (st : Stage) (c : MismatchCause) : (s.enterMismatch st c).Lawful s :=
  ite_lawful (settled_lawful ⟨rfl, rfl, rfl⟩) (settled_lawful ⟨rfl, rfl, rfl⟩)

theorem bindTagged_draft (s : State) (st : Stage) (tag : TagData) : (s.bindTagged st tag).Draft s :=
  draft_of_frame (by simp [State.sameDrying])

theorem judgeGood_lawful (s : State) (st : Stage) (tag : TagData) : (s.judgeGood st tag).Lawful s := by
  have hw : (s.withTag st tag).Lawful s := setSlot_lawful_of_state rfl
  by_cases hty : tag.stageType = st
  · by_cases he : ∃ st', st' ≠ st ∧ (s.fau.accounts.get st').serial = some tag.serial
    · rw [judgeGood_duplicate hty he]
      exact (enterMismatch_lawful _ _ _).trans hw
    · rw [judgeGood_tagged hty he]
      exact settle_lawful ((bindTagged_draft _ _ _).trans (setSlot_draft s _ _))
  · rw [judgeGood_wrongType hty]
    exact (enterMismatch_lawful _ _ _).trans hw

theorem goodRead_lawful (s : State) (st : Stage) (tag : TagData) : (s.goodRead st tag).Lawful s := by
  cases hst : (s.slot st).state with
  | identifying | untagged | mismatch =>
    rw [goodRead_judged (by simp [hst])]
    exact judgeGood_lawful s st tag
  | tagged =>
    by_cases hsame : (s.fau.accounts.get st).serial = some tag.serial ∧ tag.stageType = st
    · rw [goodRead_again hst hsame.1 hsame.2]
      exact setSlot_lawful_of_state rfl
    · rw [goodRead_other hst (Classical.not_and_iff_not_or_not.1 hsame)]
      exact (judgeGood_lawful _ st tag).trans (settled_lawful ⟨rfl, rfl, rfl⟩)
  | empty | settling =>
    simp only [State.goodRead, hst]
    exact lawful_refl s

theorem failedRead_lawful (s : State) (st : Stage) : (s.failedRead st).Lawful s := by
  unfold State.failedRead
  dsimp only
  split
  · exact ite_lawful (settled_lawful (by simp [State.sameDrying])) (setSlot_lawful_of_state rfl)
  · exact setSlot_lawful_of_state rfl
  all_goals exact lawful_refl s

theorem tagReadEnd_lawful (s : State) (st : Stage) (answer : Option RawTag) : (s.tagReadEnd st answer).Lawful s := by
  have hover : (s.setSlot st { s.slot st with reading := none }).Lawful s := setSlot_lawful_of_state rfl
  unfold State.tagReadEnd
  split
  · exact lawful_refl s
  · dsimp only
    split
    · exact (goodRead_lawful _ st _).trans hover
    · exact (failedRead_lawful _ st).trans hover

theorem slotOpened_lawful (s : State) (st : Stage) : (s.slotOpened st).Lawful s := by
  unfold State.slotOpened
  dsimp only
  split
  case h_1 | h_2 | h_3 => exact settled_lawful (by simp [State.sameDrying])
  all_goals
    next hst => exact setSlot_lawful (by simp +decide [Slot.present, hst])

theorem slotClosed_lawful (s : State) (st : Stage) : (s.slotClosed st).Lawful s := by
  unfold State.slotClosed
  split
  · next hst => exact setSlot_lawful (by simp +decide [Slot.present, hst])
  · exact lawful_refl s

theorem switchTaken_lawful (s : State) (sw : Switch) (level changed : Bool) :
    (s.switchTaken sw level changed).Lawful s := by
  cases sw with
  | tanksw => exact ite_lawful (lawful_refl s) (ite_lawful (tankClosed_lawful s) (tankOpened_lawful s))
  | slot st => exact ite_lawful (lawful_refl s) (ite_lawful (slotClosed_lawful s st) (slotOpened_lawful s st))
  | mf0 | mf1 | mf2 => exact functionTaken_lawful s _ _ _

/-- An accepted level makes no level unknown (R10, R131). -/
theorem acceptSwitch_lawful (s : State) (sw : Switch) (b : Bool) :
    (s.setSfe (s.sfe.setSwitch sw ⟨b, true, none⟩)).Lawful s := by
  refine lawful_of_mayRun ⟨rfl, rfl, rfl⟩ (fun hr => ?_)
  obtain ⟨rp, rf, rl, rr, rst, rfa⟩ := hr
  refine ⟨rp, rf, ?_, rr, rst, rfa⟩
  obtain ⟨hprobe, hfloats⟩ := (level_known_iff s).1 rl
  refine (level_known_iff _).2 ⟨fun hm => ?_, fun hm => ?_⟩
  · cases sw <;> exact hprobe hm
  · obtain ⟨h0, h1⟩ := hfloats hm
    cases sw with
    | mf0 => exact ⟨rfl, h1⟩
    | mf1 => exact ⟨h0, rfl⟩
    | tanksw | slot | mf2 => exact ⟨h0, h1⟩

/-! ### Filters, demands and the fan -/

theorem tick_lawful (s : State) : s.tick.Lawful s := settled_lawful (by simp [State.sameDrying])

theorem changeAccount_lawful (s : State) (st : Stage) (a : Account) : (s.changeAccount st a).Lawful s :=
  settled_lawful (by simp [State.sameDrying])

theorem resolveTable_lawful (s : State) (t : List Demand) : (s.resolveTable t).Lawful s :=
  settled_lawful (by simp [State.sameDrying])

theorem reportDropped_lawful (s : State) (es : List Demand) (ev : DemandRef → Event) :
    (s.reportDropped es ev).Lawful s := lawful_of_frame (by simp [State.sameConditions])

theorem setDar_lawful (s : State) (x : Dar) : (s.setDar x).Lawful s :=
  lawful_of_frame (by simp [State.sameConditions])

theorem darSecond_lawful (s : State) : s.darSecond.Lawful s := by
  unfold State.darSecond
  dsimp only
  split
  · exact (setDar_lawful _ _).trans (setDar_lawful s _)
  · exact (resolveTable_lawful _ _).trans ((reportDropped_lawful _ _ _).trans (setDar_lawful s _))

theorem boundary_lawful (s : State) : s.boundary.Lawful s := settled_lawful (by simp [State.sameDrying])

/-! ### The CONFIG (R185, R186) -/

theorem ite_draft {c : Prop} [Decidable c] {t s : State} (h : t.Draft s) : (if c then s else t).Draft s := by
  split
  · exact draft_of_frame ⟨rfl, rfl, rfl⟩
  · exact h

theorem takeRanks_draft (s : State) : s.takeRanks.Draft s := by
  refine draft_of_frame ⟨by simp, ?_, by simp⟩
  rw [takeRanks_eq]
  split
  · rfl
  · simp only [resolve_frame, setDar_drc]
    exact foldl_keeps State.drc _ (fun u e => by simp) _ s

/-- The owners take their groups of a CONFIG with no effect on the drying record. -/
theorem regrouped_draft (s : State) (new : Settings) : (s.regrouped new).Draft (s.withConfig new) := by
  unfold State.regrouped
  exact (ite_draft (draft_of_frame (by simp [State.sameDrying]))).trans
    ((ite_draft (draft_of_frame (by simp [State.sameDrying]))).trans
      ((ite_draft (draft_of_frame (by simp [State.sameDrying]))).trans (ite_draft (takeRanks_draft _))))

theorem applyConfig_lawful {s : State} {new : Settings} (h : s.configLaw → new.valid = true) :
    (s.applyConfig new).Lawful s := by
  by_cases hn : new = s.sst.settings
  · rw [hn, applyConfig_same]
    exact lawful_refl s
  · rw [applyConfig_changed hn]
    have hnew : (s.withConfig new).Draft s := ⟨rfl, Drc.follows_refl _, h⟩
    exact (request_lawful _ _).trans (settle_lawful ((regrouped_draft s new).trans hnew))

end Sys2Proof.Machine
end

-- The compressor's law and the off-timer through commands, frames and links, the store's writes and the start-up.
section
namespace Sys2Proof.Machine

/-! ### Commands -/

theorem cmdResetFilter_lawful (s : State) (p : Port) (pl : List Byte) : (cmdResetFilter s p pl).1.Lawful s := by
  unfold cmdResetFilter
  dsimp only
  repeat' split
  all_goals first | exact lawful_refl s | exact changeAccount_lawful s _ _

theorem cmdSetStage_lawful (s : State) (p : Port) (pl : List Byte) : (cmdSetStage s p pl).1.Lawful s := by
  unfold cmdSetStage
  repeat' split
  all_goals first | exact lawful_refl s | exact changeAccount_lawful s _ _

theorem cmdForgetCartridge_lawful (s : State) (p : Port) (pl : List Byte) : (cmdForgetCartridge s p pl).1.Lawful s := by
  refine lawful_of_frame ?_
  unfold cmdForgetCartridge
  dsimp only
  repeat' split
  all_goals simp [State.sameConditions, State.removeRecent]

theorem cmdPutDemand_lawful (s : State) (p : Port) (pl : List Byte) : (cmdPutDemand s p pl).1.Lawful s := by
  unfold cmdPutDemand
  repeat' split
  all_goals first | exact lawful_refl s | exact resolveTable_lawful s _

theorem cmdClearDemand_lawful (s : State) (p : Port) (pl : List Byte) : (cmdClearDemand s p pl).1.Lawful s := by
  unfold cmdClearDemand
  dsimp only
  repeat' split
  all_goals first | exact lawful_refl s | exact resolveTable_lawful s _

theorem cmdClearAllDemands_lawful (s : State) (p : Port) (pl : List Byte) : (cmdClearAllDemands s p pl).1.Lawful s := by
  unfold cmdClearAllDemands State.clearAll
  dsimp only
  repeat' split
  all_goals first | exact lawful_refl s | exact (resolveTable_lawful _ _).trans (reportDropped_lawful s _ _)

theorem cmdWriteConfig_lawful (s : State) (p : Port) (pl : List Byte) : (cmdWriteConfig s p pl).1.Lawful s := by
  unfold cmdWriteConfig
  split
  · exact lawful_refl s
  · split
    · exact lawful_refl s
    · split
      · exact lawful_refl s
      · next htaken => exact applyConfig_lawful (configOf_taken htaken).valid

theorem cmdClearLockout_lawful (s : State) (p : Port) (pl : List Byte) : (cmdClearLockout s p pl).1.Lawful s := by
  unfold cmdClearLockout
  split
  · next r hstate _ =>
    split
    · exact lawful_refl s
    · exact clearLockoutNow_lawful (by rw [hstate]; rfl) r
  · exact lawful_refl s

theorem cmdForceDefrost_lawful (s : State) (p : Port) (pl : List Byte) : (cmdForceDefrost s p pl).1.Lawful s := by
  unfold cmdForceDefrost
  split
  · exact settle_lawful (enterDefrost_draft s _)
  · exact lawful_refl s

theorem pumpOutNew_lawful (s : State) (p : Port) (max : Option Nat) : (s.pumpOutNew p max).1.Lawful s := by
  unfold State.pumpOutNew
  dsimp only
  repeat' split
  all_goals dsimp only
  all_goals first | exact lawful_refl s | exact beginRun_lawful s _ _ | exact endRun_lawful s _ _ _

theorem pumpOutResume_lawful (s : State) : s.pumpOutResume.1.Lawful s := by
  unfold State.pumpOutResume
  repeat' split
  all_goals dsimp only
  all_goals first | exact lawful_refl s | exact beginRun_lawful s _ _

theorem cmdPumpOut_lawful (s : State) (p : Port) (pl : List Byte) : (cmdPumpOut s p pl).1.Lawful s := by
  unfold cmdPumpOut
  split
  · exact pumpOutNew_lawful s p _
  · split
    · exact lawful_refl s
    · exact pumpOutResume_lawful s
  · exact lawful_refl s

theorem cmdPumpAbort_lawful (s : State) (p : Port) (pl : List Byte) : (cmdPumpAbort s p pl).1.Lawful s := by
  unfold cmdPumpAbort
  dsimp only
  repeat' split
  all_goals dsimp only
  all_goals first | exact lawful_refl s | exact setSeq_lawful s _ | exact endRun_lawful s _ _ _

theorem handle_lawful (s : State) (c : Command) (p : Port) (pl : List Byte) : (handle c s p pl).1.Lawful s := by
  cases c with
  | resetFilter => exact cmdResetFilter_lawful s p pl
  | setStage => exact cmdSetStage_lawful s p pl
  | forgetCartridge => exact cmdForgetCartridge_lawful s p pl
  | putDemand => exact cmdPutDemand_lawful s p pl
  | clearDemand => exact cmdClearDemand_lawful s p pl
  | clearAllDemands => exact cmdClearAllDemands_lawful s p pl
  | writeConfig => exact cmdWriteConfig_lawful s p pl
  | clearLockout => exact cmdClearLockout_lawful s p pl
  | forceDefrost => exact cmdForceDefrost_lawful s p pl
  | pumpOut => exact cmdPumpOut_lawful s p pl
  | pumpAbort => exact cmdPumpAbort_lawful s p pl
  | readSensors | readPlan | readDemands | readDrying => exact lawful_refl s
  | readEvents | setEventMask | restart | readLog =>
    exact lawful_of_frame ⟨rfl, rfl, rfl, rfl, rfl, rfl, rfl, rfl, rfl, rfl, rfl⟩
  | readAirflow | readFilters | readCartridges | readTank | readConfig =>
    simp only [handle, cmdReadAirflow, cmdReadFilters, cmdReadCartridges, cmdReadTank, cmdReadConfig]
    repeat' split
    all_goals exact lawful_refl s
  | setLogJoin | setCursor | selectCurve =>
    refine lawful_of_frame ?_
    simp only [handle, cmdSetLogJoin, cmdSetCursor, cmdSelectCurve]
    repeat' split
    all_goals exact ⟨rfl, rfl, rfl, rfl, rfl, rfl, rfl, rfl, rfl, rfl, rfl⟩
  | loadCurve =>
    have hbank (n : BankName) (b : Bank) :
        (s.afc.setBank n b).stalled = s.afc.stalled ∧ (s.afc.setBank n b).fault = s.afc.fault := by
      cases n <;> exact ⟨rfl, rfl⟩
    refine lawful_of_frame ?_
    simp only [handle, cmdLoadCurve]
    repeat' split
    all_goals simp [State.sameConditions, hbank]

/-! ### Frames and links -/

theorem judge_lawful (s : State) (p : Port) (f : Frame) : (judge s p f).1.Lawful s := by
  unfold judge judgeKnown
  repeat' split
  all_goals first | exact lawful_refl s | exact handle_lawful s _ _ _

theorem takeFrame_lawful (s : State) (p : Port) (f : Frame) : (s.takeFrame p f).Lawful s :=
  State.Lawful.trans (lawful_of_frame (by simp [State.sameConditions, State.takeFrame])) (judge_lawful s p f)

theorem setPrt_lawful (s : State) (x : Prt) : (s.setPrt x).Lawful s :=
  lawful_of_frame (by simp [State.sameConditions])

theorem setRx_lawful (s : State) (p : Port) (rx : Option (List Byte)) : (s.setRx p rx).Lawful s := setPrt_lawful s _

theorem setOut_lawful (s : State) (p : Port) (bytes : List Byte) : (s.setOut p bytes).Lawful s := setPrt_lawful s _

theorem linkFrame_lawful (s : State) (f : Frame) : (s.linkFrame f).Lawful s := by
  unfold State.linkFrame
  repeat' split
  · exact setPrt_lawful s _
  · exact lawful_refl s
  · exact takeFrame_lawful s _ _

theorem receive_lawful (s : State) (p : Port) (f : Frame) : (s.receive p f).Lawful s := by
  have hrx := setRx_lawful s p none
  refine ite_lawful (lawful_refl s) ?_
  cases p with
  | panel => exact (setOut_lawful _ _ _).trans ((takeFrame_lawful _ _ _).trans hrx)
  | link => exact (linkFrame_lawful _ f).trans hrx
  | service => exact ite_lawful hrx ((takeFrame_lawful _ _ _).trans hrx)

theorem linkReceive_lawful (s : State) (b : Byte) : (s.linkReceive b).Lawful s := by
  unfold State.linkReceive
  split
  · exact lawful_refl s
  · exact setRx_lawful s _ _
  · exact setRx_lawful s _ _
  · exact receive_lawful s _ _

theorem panelReceive_lawful (s : State) (bytes : List Byte) : (s.panelReceive bytes).Lawful s := by
  unfold State.panelReceive
  dsimp only
  repeat' split
  all_goals first | exact lawful_refl s | exact (setOut_lawful _ _ _).trans (setRx_lawful s _ _)

theorem receiveBytes_lawful (s : State) (p : Port) (bytes : List Byte) : (s.receiveBytes p bytes).Lawful s := by
  refine ite_lawful ?_ (lawful_refl s)
  cases p with
  | link =>
    exact List.foldlRecOn (motive := fun t => t.Lawful s) bytes State.linkReceive (lawful_refl s)
      (fun u hu b _ => (linkReceive_lawful u b).trans hu)
  | panel => exact panelReceive_lawful s bytes
  | service => exact setRx_lawful s _ _

theorem linkTransmitEnd_lawful (s : State) : s.linkTransmitEnd.Lawful s := by
  unfold State.linkTransmitEnd
  dsimp only
  refine ite_lawful ?_ (lawful_refl s)
  split
  · exact (takeFrame_lawful _ _ _).trans (setPrt_lawful s _)
  · exact setPrt_lawful s _

theorem handOver_lawful (s : State) : s.handOver.Lawful s :=
  lawful_of_frame (by simp [State.sameConditions])

theorem readPort_lawful (s : State) (p : Port) (n : Nat) (early : Bool) : (s.readPort p n early).Lawful s :=
  ite_lawful (setPrt_lawful s _) (setPrt_lawful s _)

theorem serviceRead_lawful (s : State) (n : Nat) (early : Bool) : (s.serviceRead n early).Lawful s :=
  ite_lawful (ite_lawful ((handOver_lawful _).trans (readPort_lawful s _ _ _)) (readPort_lawful s _ _ _))
    (lawful_refl s)

/-! ### Writes and the start-up (R183, R188 to R191) -/

theorem storeWriteEnd_lawful (s : State) (failed : RegionSet) : (s.storeWriteEnd failed).Lawful s :=
  lawful_of_frame (by simp [State.sameConditions])

theorem takeGroups_valid {x y : Settings} {g : Nat} {image : List (List Byte)} (hx : x.valid = true)
    (h : takeGroups x g image = some y) : y.valid = true := by
  induction image generalizing x g with
  | nil =>
    simp only [takeGroups, Option.ite_none_right_eq_some, Option.some.injEq] at h
    exact h.2 ▸ hx
  | cons pl rest ih =>
    unfold takeGroups at h
    split at h
    · next z hz =>
      refine ih ?_ h
      unfold takeGroup at hz
      repeat' split at hz
      · next htaken =>
        obtain rfl := Option.some.inj hz
        exact (configOf_taken htaken).valid hx
      all_goals cases hz
    · cases h

theorem factory_valid : Settings.factory.valid = true := by decide

/-- A CONFIG that was loaded is the factory one or one that a region holds, and valid (R183). -/
theorem load_valid (x : Store) (bad : RegionSet) : (x.load bad).settings.valid = true := by
  unfold Store.load
  dsimp only
  split
  · exact factory_valid
  · cases himage : Settings.ofImage x.config.contents with
    | none => exact factory_valid
    | some y => exact takeGroups_valid factory_valid himage

/-- The blocks start with the compressor off and the off-timer at 0 (R127). -/
theorem startUp_lawful (s : State) (bad : RegionSet) : (s.startUp bad).Lawful s := by
  unfold State.startUp
  dsimp only
  refine settle_lawful ⟨by simp [State.startBlocks], .inl ⟨?_, ?_⟩, fun _ => ?_⟩
  · have hoff (r : Option StoredReason) : (Drc.start r).state.on = false := by cases r <;> rfl
    simp [State.startBlocks, hoff]
  · simp [State.startBlocks, Drc.start]
  · simp [State.configLaw, State.startBlocks, load_valid]

theorem storeReadEnd_lawful (s : State) (failed : RegionSet) : (s.storeReadEnd failed).Lawful s :=
  ite_lawful (startUp_lawful s _) (lawful_refl s)

theorem regionUnread_lawful (s : State) (r : Region) : (s.regionUnread r).Lawful s := by
  unfold State.regionUnread
  dsimp only
  have ht : (s.setSst { s.sst with
      unreadable := s.sst.unreadable.union (.single r), reading := r.next
      readTimer := r.next.map (fun _ => 0) }).Lawful s :=
    lawful_of_frame (by simp [State.sameConditions])
  exact ite_lawful ((storeReadEnd_lawful _ _).trans ht) ht

theorem beginRead_lawful (s : State) : s.beginRead.Lawful s :=
  ite_lawful (lawful_of_frame (by simp [State.sameConditions])) (lawful_refl s)

end Sys2Proof.Machine
end

-- What one step does to the compressor: its rest of three minutes, and the conditions that it keeps (R102, R108).
section
namespace Sys2Proof.Machine

/-! ### The off-timer through a step (R108) -/

/-- The off-timer `y` comes from `x` in `ms` milliseconds: PASSED once 180 s are counted, and counting at most what
passed. -/
def OffTimer.after (y x : OffTimer) (ms : Nat) : Prop :=
  (y = .passed → x = .passed ∨ ∃ e, x = .counting e ∧ 180000 ≤ e + ms) ∧
  ∀ e', y = .counting e' → e' = 0 ∨ ∃ e, x = .counting e ∧ e' ≤ e + ms

theorem OffTimer.after_refl (x : OffTimer) (ms : Nat) : x.after x ms :=
  ⟨.inl, fun e' h => .inr ⟨e', h, Nat.le_add_right _ _⟩⟩

theorem OffTimer.advance_after (x : OffTimer) (ms : Nat) : (x.advance ms).after x ms := by
  cases x with
  | stopped | passed => exact OffTimer.after_refl _ ms
  | counting e =>
    refine ⟨fun h => (by cases h), fun e' h => .inr ⟨e, rfl, ?_⟩⟩
    obtain rfl : min Config.offTimerMs (e + ms) = e' := OffTimer.counting.inj h
    exact Nat.min_le_right _ _

/-- The drying record `y` comes from `x` in a step of `ms` milliseconds: the compressor goes on with the off-timer
PASSED, goes off with it at 0 or with the DRC at its start, and the off-timer counted at most the time that passed. -/
def Drc.restsFrom (y x : Drc) (ms : Nat) : Prop :=
  (x.state.on = false → y.state.on = true → y.off = .passed) ∧
  (x.state.on = true → y.state.on = false → y.off = .counting 0 ∨ y = .idle) ∧ y.off.after x.off ms

/-- First the off-timer counts, then the operations of one moment follow. -/
theorem Drc.follows_restsFrom {z y x : Drc} {ms : Nat} (h : z.follows y) (hs : y.state.on = x.state.on)
    (ho : y.off.after x.off ms) : z.restsFrom x ms := by
  rcases h with ⟨hon, hoff⟩ | ⟨hoff, hon⟩
  · refine ⟨fun _ h => ?_, fun _ _ => .inl hoff, ?_⟩
    · rw [hon] at h
      cases h
    · rw [hoff]
      exact ⟨fun h => (by cases h), fun e' h => .inl (OffTimer.counting.inj h).symm⟩
  · rw [hs] at hon
    refine ⟨fun hx hz => ?_, fun hx hz => ?_, hoff ▸ ho⟩
    · rcases hon with hon | ⟨-, hp⟩
      · rw [hon, hx] at hz
        cases hz
      · exact hoff.trans hp
    · rcases hon with hon | ⟨hx', -⟩
      · rw [hon, hx] at hz
        cases hz
      · rw [hx] at hx'
        cases hx'

/-! ### One step -/

/-- What one step keeps of the compressor: its rest, a CONFIG that the checks accept, and its law. -/
structure State.Dries (t s : State) : Prop where
  rests : t.drc.restsFrom s.drc (t.now - s.now)
  config : s.configLaw → t.configLaw
  law : s.compressorLaw → t.compressorLaw

/-- Some time passes, with the compressor left as it is, before the operations of one moment. -/
theorem dries_of_later {t u s : State} {ms : Nat} (hn : u.now = s.now + ms) (hs : u.drc.state = s.drc.state)
    (ho : u.drc.off.after s.drc.off ms) (hset : u.sst.settings = s.sst.settings) (hr : s.mayRun → u.mayRun)
    (h : t.Lawful u) : t.Dries s where
  rests := by
    have hms : t.now - s.now = ms := by
      have := h.now
      omega
    rw [hms]
    exact Drc.follows_restsFrom h.drc (congrArg DryState.on hs) ho
  config := fun hc => h.config ((congrArg Settings.valid hset).trans hc)
  law := fun hl => h.law (fun hon => hr (hl (hs ▸ hon)))

theorem lawful_dries {t s : State} (h : t.Lawful s) : t.Dries s :=
  dries_of_later (ms := 0) rfl rfl (OffTimer.after_refl _ _) rfl id h

theorem advance_mayRun {s : State} (h : s.mayRun) (ms : Nat) : (s.advance ms).mayRun := h

theorem advance_dries {t s : State} {ms : Nat} (h : t.Lawful (s.advance ms)) : t.Dries s :=
  dries_of_later (u := s.advance ms) rfl rfl (OffTimer.advance_after _ _) rfl (fun hr => advance_mayRun hr ms) h

/-- A reset leaves the drying record at its start and the factory CONFIG in force until the store is read. -/
theorem reset_dries {t s : State} (hd : t.drc = .idle) (hc : t.sst.settings = .factory) : t.Dries s where
  rests := by
    rw [hd]
    exact ⟨fun _ h => (by cases h), fun _ _ => .inr rfl, fun h => (by cases h), fun _ h => (by cases h)⟩
  config := fun _ => (congrArg Settings.valid hc).trans factory_valid
  law := fun _ hon => by
    rw [hd] at hon
    cases hon

theorem ite_dries {c : Prop} [Decidable c] {t u s : State} (ht : t.Dries s) (hu : u.Dries s) :
    (if c then t else u).Dries s := by
  split
  · exact ht
  · exact hu

theorem dries_refl (s : State) : s.Dries s := lawful_dries (lawful_refl s)

theorem whenUp_dries {s : State} {f : State → State} (h : (f s).Dries s) : (s.whenUp f).Dries s :=
  ite_dries h (dries_refl s)

/-- An expiry whose rule keeps the law in the part as it is when the missing time has passed. -/
theorem expire_dries {s : State} {t : Timer} {limit : Nat} {act : State → State}
    (h : ∀ ms, (act (s.advance ms)).Lawful (s.advance ms)) : (s.expire t limit act).Dries s := by
  cases t with
  | none => exact dries_refl s
  | some e => exact advance_dries (h _)

theorem onRecord_dries {s : State} {x : Option Sequence} {k : Sequence → State} (hk : ∀ q, (k q).Dries s) :
    (match x with
      | some q => k q
      | none => s).Dries s := by
  cases x with
  | none => exact dries_refl s
  | some q => exact hk q

/-- The off-timer's own expiry makes it PASSED when its 180 s are counted (R108). -/
theorem offTimerPassed_dries (s : State) : s.offTimerPassed.Dries s := by
  unfold State.offTimerPassed
  split
  · next e hoff =>
    refine dries_of_later (ms := Config.offTimerMs - e)
      (u := (s.advance (Config.offTimerMs - e)).setDrc { (s.advance (Config.offTimerMs - e)).drc with off := .passed })
      rfl rfl ?_ rfl (fun hr => advance_mayRun hr _) (settle_lawful (draft_of_frame ⟨rfl, rfl, rfl⟩))
    refine ⟨fun _ => .inr ⟨e, hoff, ?_⟩, fun _ h => (by cases h)⟩
    show 180000 ≤ e + (180000 - e)
    omega
  · exact dries_refl s

theorem beginRead_dries {u s : State} (hd : u.drc = .idle) (hc : u.sst.settings = .factory) : u.beginRead.Dries s := by
  unfold State.beginRead
  split
  · exact reset_dries hd hc
  · exact reset_dries hd hc

theorem slotSettleEnd_dries (s : State) (st : Stage) : (s.slotSettleEnd st).Dries s := by
  unfold State.slotSettleEnd
  split
  · next hst =>
    refine expire_dries (fun ms => setSlot_lawful ?_)
    have hms : ((s.advance ms).slot st).state = .settling := (advance_slot_state s ms st).trans hst
    simp +decide [Slot.present, hms]
  · exact dries_refl s

theorem particleFrame_lawful (s : State) (reading : Option Nat) : (s.particleFrame reading).Lawful s := by
  refine lawful_of_frame ?_
  unfold State.particleFrame
  dsimp only
  repeat' split
  all_goals simp [State.sameConditions]

/-- An edge starts or ends the wait for a steady level, and changes no level accepted (R10). -/
theorem switchInputEdge_lawful (s : State) (sw : Switch) (b : Bool) : (s.switchInputEdge sw b).Lawful s := by
  unfold State.switchInputEdge
  dsimp only
  repeat' split
  · exact lawful_refl s
  · refine lawful_of_frame ?_
    cases sw <;> exact ⟨rfl, rfl, rfl, rfl, rfl, rfl, rfl, rfl, rfl, rfl, rfl⟩
  · exact lawful_of_frame (by simp [State.sameConditions])

/-- In DEFROST and POST-RUN the compressor is off. -/
theorem drc_off {s : State} {st : DryState} (h : s.drc.state = st) (hst : st.on = false) (ms : Nat) :
    (s.advance ms).drc.state.on = false := (congrArg DryState.on h).trans hst

theorem postRunEnd_dries (s : State) : s.postRunEnd.Dries s := by
  unfold State.postRunEnd
  split
  · next h => exact expire_dries (fun ms => settle_lawful (rest_draft (drc_off h rfl ms)))
  · exact dries_refl s

theorem defrostSuccess_dries (s : State) : s.defrostSuccess.Dries s := by
  unfold State.defrostSuccess
  split
  · next h => exact expire_dries (fun ms => defrostSucceeded_lawful (drc_off h rfl ms))
  · exact dries_refl s

theorem defrostTimeout_dries (s : State) : s.defrostTimeout.Dries s := by
  unfold State.defrostTimeout
  split
  · next h => exact expire_dries (fun ms => defrostTimedOut_lawful (drc_off h rfl ms))
  · exact dries_refl s

/-! ### Every command -/

/-- Drying, resets and the start-up touch the off-timer; the others keep the conditions or hand everything on. -/
theorem exec_dries (s : State) (i : Instr) : ∃ t, exec i s = .next t ∧ t.Dries s := by
  have same {t u : State} (h : t.sameConditions u) : t.Lawful u := lawful_of_frame h
  have run {t : Timer} {limit : Nat} {act : State → Sequence → State} (hact : ∀ u q, (act u q).Lawful u) :
      (s.expire t limit (fun u => match u.cdc.seq with
        | some q => act u q
        | none => u)).Dries s :=
    expire_dries (fun _ => onRecord_lawful (hact _))
  cases i with
  -- supply, resets and store
  | powerOn =>
    exact ⟨_, rfl, ite_dries (dries_refl s) (beginRead_dries rfl rfl)⟩
  | powerLoss o => exact ⟨_, rfl, ite_dries (reset_dries rfl rfl) (dries_refl s)⟩
  | resetnAssert o =>
    exact ⟨_, rfl, ite_dries (dries_refl s) (ite_dries (reset_dries rfl rfl) (lawful_dries (lawful_of_frame
      (by simp [State.sameConditions]))))⟩
  | resetnRelease =>
    refine ⟨_, rfl, ite_dries (lawful_dries ((beginRead_lawful _).trans (lawful_of_frame ?_))) (dries_refl s)⟩
    simp [State.sameConditions]
  | regionReadTimeout r =>
    exact ⟨_, rfl, ite_dries (expire_dries (fun _ => regionUnread_lawful _ r)) (dries_refl s)⟩
  | storeReadEnd failed => exact ⟨_, rfl, lawful_dries (storeReadEnd_lawful s failed)⟩
  | storeWriteEnd failed => exact ⟨_, rfl, lawful_dries (storeWriteEnd_lawful s failed)⟩
  | warmReset => exact ⟨_, rfl, ite_dries (beginRead_dries rfl rfl) (dries_refl s)⟩
  | restartHandoverTimeout => exact ⟨_, rfl, expire_dries (fun _ => handOver_lawful _)⟩
  -- cartridges and accounts
  | tagReadEnd st answer => exact ⟨_, rfl, whenUp_dries (lawful_dries (tagReadEnd_lawful s st answer))⟩
  | tagReadAbandon st =>
    exact ⟨_, rfl, whenUp_dries (expire_dries (fun _ =>
      (failedRead_lawful _ st).trans (setSlot_lawful_of_state rfl)))⟩
  | tagReadTime st => exact ⟨_, rfl, whenUp_dries (expire_dries (fun _ => setSlot_lawful_of_state rfl))⟩
  | slotSettleEnd st => exact ⟨_, rfl, whenUp_dries (slotSettleEnd_dries s st)⟩
  | switchChangeAccepted sw =>
    exact ⟨_, rfl, whenUp_dries (expire_dries (fun _ =>
      (switchTaken_lawful _ _ _ _).trans (acceptSwitch_lawful _ _ _)))⟩
  | accountingTick => exact ⟨_, rfl, whenUp_dries (ite_dries (expire_dries (fun _ => tick_lawful _)) (dries_refl s))⟩
  -- readings, conversions, edges and pulses
  | gasReadEnd i => exact ⟨_, rfl, whenUp_dries (lawful_dries (gasReadEnd_lawful s i))⟩
  | roomReadEnd r => exact ⟨_, rfl, whenUp_dries (lawful_dries (roomReadEnd_lawful s r))⟩
  | coilConversion n => exact ⟨_, rfl, whenUp_dries (lawful_dries (coilConversion_lawful s n))⟩
  | probeConversion n => exact ⟨_, rfl, whenUp_dries (lawful_dries (probeConversion_lawful s n))⟩
  | particleFrame reading => exact ⟨_, rfl, whenUp_dries (lawful_dries (particleFrame_lawful s reading))⟩
  | fantachPulse => exact ⟨_, rfl, whenUp_dries (lawful_dries (setSfe_lawful rfl rfl rfl))⟩
  | switchInputEdge sw b => exact ⟨_, rfl, lawful_dries (switchInputEdge_lawful s sw b)⟩
  -- timers of the sensor front end, the demands, the fan and the log
  | privateBusSecond => exact ⟨_, rfl, whenUp_dries (expire_dries (fun _ => busSecond_lawful _))⟩
  | busTransactionTimeout => exact ⟨_, rfl, whenUp_dries (expire_dries (fun _ => busFailed_lawful _))⟩
  | darSecondTimer => exact ⟨_, rfl, whenUp_dries (expire_dries (fun _ => darSecond_lawful _))⟩
  | regulationBoundary => exact ⟨_, rfl, whenUp_dries (expire_dries (fun _ => boundary_lawful _))⟩
  | stallOffTimer => exact ⟨_, rfl, whenUp_dries (expire_dries (fun _ => settled_lawful ⟨rfl, rfl, rfl⟩))⟩
  | particleWarmupEnd | fanSpeedWindowEnd =>
    exact ⟨_, rfl, whenUp_dries (expire_dries (fun _ => setSfe_lawful rfl rfl rfl))⟩
  | minuteTimer => exact ⟨_, rfl, whenUp_dries (expire_dries (fun _ => same (by simp [State.sameConditions])))⟩
  | particleTimeout | gasTimeout =>
    refine ⟨_, rfl, whenUp_dries (expire_dries (fun _ => same ?_))⟩
    dsimp only
    split <;> simp [State.sameConditions]
  -- timers of the drying controller
  | offTimerPassed => exact ⟨_, rfl, whenUp_dries (offTimerPassed_dries s)⟩
  | pulldownCheckExpiry =>
    exact ⟨_, rfl, whenUp_dries (ite_dries (expire_dries (fun _ => pulldownFailed_lawful _)) (dries_refl s))⟩
  | minimumRunEnd =>
    exact ⟨_, rfl, whenUp_dries (ite_dries (expire_dries (fun _ => settle_lawful (setDrc_draft rfl rfl)))
      (dries_refl s))⟩
  | frostDetected =>
    exact ⟨_, rfl, whenUp_dries (ite_dries (expire_dries (fun _ => settle_lawful (enterDefrost_draft _ _)))
      (dries_refl s))⟩
  | postRunEnd => exact ⟨_, rfl, whenUp_dries (postRunEnd_dries s)⟩
  | defrostSuccess => exact ⟨_, rfl, whenUp_dries (defrostSuccess_dries s)⟩
  | defrostTimeout => exact ⟨_, rfl, whenUp_dries (defrostTimeout_dries s)⟩
  -- timers of the tank and of a run
  | tankSettleEnd =>
    exact ⟨_, rfl, whenUp_dries (ite_dries (expire_dries (fun _ => settled_lawful (by simp [State.sameDrying])))
      (dries_refl s))⟩
  | fullReleaseTimer =>
    exact ⟨_, rfl, whenUp_dries (ite_dries (dries_refl s)
      (expire_dries (fun _ => settled_lawful (by simp [State.sameDrying]))))⟩
  | pumpSample =>
    exact ⟨_, rfl, whenUp_dries (onRecord_dries (fun _ =>
      ite_dries (expire_dries (fun _ => same (by simp [State.sameConditions]))) (dries_refl s)))⟩
  | flowTimerPass | highReleaseEnd =>
    exact ⟨_, rfl, whenUp_dries (onRecord_dries (fun _ => run (fun u q => enterPhase_lawful u q _)))⟩
  | transferTimeout =>
    exact ⟨_, rfl, whenUp_dries (onRecord_dries (fun _ => run (fun u q => endRun_lawful u q _ _)))⟩
  | verifyEnd =>
    exact ⟨_, rfl, whenUp_dries (onRecord_dries (fun _ => run (fun u q =>
      ite_lawful (endRun_lawful u q _ _) (endRun_lawful u q _ _))))⟩
  | primeTimeout =>
    exact ⟨_, rfl, whenUp_dries (onRecord_dries (fun _ =>
      ite_dries (dries_refl s) (run (fun u q => endRun_lawful u q _ _))))⟩
  | primeFloatsTimePass =>
    exact ⟨_, rfl, whenUp_dries (onRecord_dries (fun _ =>
      ite_dries (run (fun u q => enterPhase_lawful u q _)) (dries_refl s)))⟩
  -- frames and links
  | readSensors p tag pl | putDemand p tag pl | clearDemand p tag pl | clearAllDemands p tag pl | readPlan p tag pl
  | readDemands p tag pl | loadCurve p tag pl | selectCurve p tag pl | readAirflow p tag pl | readFilters p tag pl
  | resetFilter p tag pl | setStage p tag pl | forgetCartridge p tag pl | readCartridges p tag pl
  | forceDefrost p tag pl | clearLockout p tag pl | readDrying p tag pl | pumpOutNew p tag pl | pumpOutResume p tag pl
  | pumpAbort p tag pl | readTank p tag pl | readLog p tag pl | setCursor p tag pl | setLogJoin p tag pl
  | readEvents p tag pl | setEventMask p tag pl | writeConfig p tag pl | readConfig p tag pl | restart p tag pl
  | badFrame p tag =>
    exact ⟨_, rfl, lawful_dries (receive_lawful s p _)⟩
  | unknownCommand p code tag pl => exact ⟨_, rfl, ite_dries (dries_refl s) (lawful_dries (receive_lawful s p _))⟩
  | frameDiscard p =>
    refine ⟨_, rfl, ite_dries (dries_refl s) (lawful_dries ?_)⟩
    cases p <;> first | exact setRx_lawful s _ _ | exact (setOut_lawful _ _ _).trans (setRx_lawful s _ _)
  | linkGapTimeout => exact ⟨_, rfl, ite_dries (expire_dries (fun _ => setRx_lawful _ _ _)) (dries_refl s)⟩
  | linkTransmitEnd => exact ⟨_, rfl, lawful_dries (linkTransmitEnd_lawful s)⟩
  | commandReceptionStart r => exact ⟨_, rfl, lawful_dries (receiveBytes_lawful s _ _)⟩
  | panelFetchWindow n early => exact ⟨_, rfl, ite_dries (lawful_dries (readPort_lawful s _ _ _)) (dries_refl s)⟩
  | serviceReadTransaction n early => exact ⟨_, rfl, lawful_dries (serviceRead_lawful s n early)⟩

theorem step_dries {s t : State} (hs : step s = .next t) : t.Dries s := by
  have exec_keeps {s : State} {i : Instr} (hi : exec i s = .next t) : t.Dries s := by
    obtain ⟨u, hu, hd⟩ := exec_dries s i
    obtain rfl := Host.Outcome.next.inj (hu.symm.trans hi)
    exact hd
  unfold step at hs
  split at hs
  · next c rest _ =>
    have ⟨hr, hc, hl⟩ := exec_keeps (s := { s with pending := rest }) hs
    exact ⟨hr, hc, hl⟩
  · unfold stepIdle at hs
    split at hs
    · exact exec_keeps hs
    · obtain rfl := Host.Outcome.next.inj hs
      exact advance_dries (lawful_refl _)

/-- Settles O41: the compressor starts by the DRC's rule alone, which asks for a PASSED off-timer; every stop restarts
the off-timer, and only time counts it on. -/
theorem compressorRestsThreeMinutes : Obligations.CompressorRestsThreeMinutes := by
  intro s t hs
  obtain ⟨hstart, hstop, hpassed, hcounting⟩ := (step_dries hs).rests
  exact ⟨hstart, hstop, hpassed, hcounting⟩

/-- Settles O55: an operation that touches a condition of the compressor hands everything on, and the DRC's rule then
stops a compressor that may not run; the others leave the conditions as they were. -/
theorem compressorNeedsTheTankAndTheFan : Obligations.CompressorNeedsTheTankAndTheFan := by
  intro s t ⟨hconfig, hlaw⟩ hs
  exact ⟨(step_dries hs).config hconfig, (step_dries hs).law hlaw⟩

end Sys2Proof.Machine
end

-- What the drying controller decides by, and what the hand-overs keep of a record whose compressor is off (R102 to
-- R122).
section
namespace Sys2Proof.Machine

/-! ### The call and the cold mark (R104, R105) -/

theorem nextCall_percent (n : Nat) (h : Int) (call : Bool) : nextCall (some (.percent n)) (some h) call =
    if 10 * n + 30 ≤ h then true else if h ≤ 10 * n - 20 then false else call := rfl

theorem nextCold_reading (h : Int) (cold : Bool) :
    nextCold (some h) cold = if h < 50 then true else if 60 ≤ h then false else cold := rfl

/-! ### The hold reasons (R106) -/

theorem level_unknown_iff (x : Level) : x.known = false ↔ x = .unknown := by
  cases x <;> simp [Level.known]

theorem holds_tank_iff (s : State) :
    s.holds.tank = true ↔ s.cdc.presence ≠ .present ∨ s.cdc.full = true ∨ s.level = .unknown := by
  simp only [State.holds, State.holdTank, Bool.or_eq_true, bne_iff_ne, Bool.not_eq_true', level_unknown_iff, or_assoc]

theorem holds_quiet_iff (s : State) : s.holds.quiet = true ↔ s.dar.plan.allowed = false ∨
    ∃ c f, s.dar.plan.ceiling = some c ∧ s.afc.floor = some f ∧ c < f := by
  simp only [State.holds, State.holdQuiet, Bool.or_eq_true, Bool.not_eq_true']
  cases s.dar.plan.ceiling <;> cases s.afc.floor <;> simp

theorem holds_airflow_iff (s : State) : s.holds.airflow = true ↔ s.afc.floor = none := Option.isNone_iff_eq_none

theorem holds_sensor_iff (s : State) : s.holds.sensor = true ↔ s.rh = none ∨ s.sfe.coil.temp = none := by
  simp only [State.holds, Bool.or_eq_true, Option.isNone_iff_eq_none]

theorem stage_exists_iff (p : Stage → Prop) : (∃ st, p st) ↔ p .pre ∨ p .carb ∨ p .fine := by
  constructor
  · rintro ⟨st, h⟩
    cases st
    · exact .inl h
    · exact .inr (.inl h)
    · exact .inr (.inr h)
  · rintro (h | h | h) <;> exact ⟨_, h⟩

theorem stageAbsent_iff (s : State) (st : Stage) :
    s.stagePresent st = false ↔ (s.slot st).state ≠ .tagged ∧ (s.slot st).state ≠ .untagged := by
  rw [← Bool.not_eq_true, stagePresent_iff, not_or]

theorem requiredAbsent_iff (s : State) : s.requiredAbsent = true ↔
    ∃ st, s.sst.settings.drying.required.get st = true ∧
      (s.slot st).state ≠ .tagged ∧ (s.slot st).state ≠ .untagged := by
  simp only [← stageAbsent_iff, stage_exists_iff, State.requiredAbsent, Bool.or_eq_true, Bool.and_eq_true,
    Bool.not_eq_true', or_assoc]
  rfl

/-! ### Entry and stop conditions (R107, R108, R113, R114) -/

theorem choice_eq (s : State) : s.choice = (if s.dar.plan.dry = none then .off
    else if s.drc.call = false then .satisfied
    else if s.holds.tank || s.holds.quiet || s.holds.airflow || s.holds.sensor || s.holds.cold || s.holds.filter
      then .hold
    else .startWait) := by
  simp only [State.choice, HoldSet.isEmpty, Option.isNone_iff_eq_none, Bool.not_not, Bool.not_eq_true']

theorem canStart_iff (s : State) : s.canStart = true ↔ s.drc.off = .passed ∧ s.afc.stalled = false ∧
    s.afc.fault = false ∧ ∃ f, s.afc.floor = some f ∧ f ≤ s.afc.actual := by
  simp only [State.canStart, Bool.and_eq_true, beq_iff_eq, Bool.not_eq_true', and_assoc]
  cases s.afc.floor <;> simp

theorem normalStop_iff (s : State) : s.normalStop = true ↔
    s.drc.call = false ∨ s.holds.quiet = true ∨ s.holds.airflow = true ∨ s.holds.cold = true := by
  simp only [State.normalStop, Bool.or_eq_true, Bool.not_eq_true', or_assoc]

theorem safetyStop_iff (s : State) : s.safetyStop = true ↔
    s.holds.tank = true ∨ s.holds.filter = true ∨ s.rh = none ∨ s.afc.stalled = true := by
  simp only [State.safetyStop, Bool.or_eq_true, Option.isNone_iff_eq_none, or_assoc]

/-! ### The need (R109) -/

theorem needOf_floor {x : Drc} (h : x.state = .pulldown ∨ x.state = .running ∨ x.state = .postRun) :
    x.needOf = .floor := by
  rcases h with h | h | h <;> simp only [Drc.needOf, h]

theorem needOf_startWait {x : Drc} (h : x.state = .startWait) :
    x.needOf = if x.off = .passed then .floor else .none := by
  simp only [Drc.needOf, h]

theorem needOf_defrost {x : Drc} (h : x.state = .defrost) : x.needOf = .defrost := by simp only [Drc.needOf, h]

theorem needOf_none {x : Drc} (h : x.state = .off ∨ x.state = .satisfied ∨ x.state = .hold ∨ x.state = .lockout) :
    x.needOf = .none := by
  rcases h with h | h | h | h <;> simp only [Drc.needOf, h]

/-! ### A check that ends without a verdict (R111) -/

theorem ended_outcome (x : PullRecord) : x.ended.outcome ≠ some .checking := by
  unfold PullRecord.ended
  split
  · simp
  · assumption

theorem ended_of_verdict {x : PullRecord} (h : x.outcome ≠ some .checking) : x.ended = x := if_neg h

@[simp] theorem advance_pull_outcome (x : Drc) (ms : Nat) : (x.advance ms).pull.outcome = x.pull.outcome := by
  simp only [Drc.advance]
  split <;> rfl

/-- The pull-down record `ms` later, a check in progress ended. -/
def Drc.pullEnded (x : Drc) (ms : Nat) : PullRecord :=
  if x.pull.outcome = some .checking then { (x.advance ms).pull with outcome := some .noVerdict }
  else (x.advance ms).pull

/-- Time does not decide whether a check is in progress. -/
theorem advance_pull_ended (x : Drc) (ms : Nat) : (x.advance ms).pull.ended = x.pullEnded ms := by
  rw [PullRecord.ended, advance_pull_outcome]
  rfl

theorem pullEnded_outcome (x : Drc) (ms : Nat) : (x.pullEnded ms).outcome ≠ some .checking :=
  advance_pull_ended x ms ▸ ended_outcome _

/-! ### Changes of the state -/

theorem goto_changed {s : State} {st : DryState} (h : s.drc.state ≠ st) :
    s.goto st = (s.setDrc { s.drc with state := st }).postAll .dry := if_neg h

theorem setDrc_setDrc (s : State) (x y : Drc) : (s.setDrc x).setDrc y = s.setDrc y := rfl

theorem setDrc_goto (s : State) {x : Drc} {st : DryState} (h : x.state ≠ st) :
    (s.setDrc x).goto st = (s.setDrc { x with state := st }).postAll .dry := goto_changed h

/-- DRY is posted on a change, and stays through what follows without taking a flag away. -/
theorem postAll_flagOnAll_mono {t s : State} {f : Flag} (h : t.onlyFlags (s.postAll f)) : t.flagOnAll f :=
  flagOnAll_mono h f (postAll_flagOnAll s f)

theorem handsOn_onlyFlags {t v : State} (h : t.handsOn v) : t.onlyFlags v := by
  obtain ⟨_, _, _, _, _, hprt, _⟩ := h
  exact onlyFlags_trans (onlyFlags_of_prt hprt) (tellsDrying_onlyFlags v _ _)

/-- In LOCKOUT, and with the compressor off in any state, COMP is not driven (R102). -/
theorem comp_off {t : State} (h : t.drc.state.on = false) : t.comp = false := by
  rw [State.comp, h, Bool.and_false]

/-! ### The hand-overs of a record whose compressor is off -/

/-- The record that the DRC's rule finds: the readings, the call and the cold mark taken (R103 to R105). -/
def State.markedDrc (v : State) : Drc := { v.drc with
  readings := v.drc.readings.after v.rh v.roomTemp v.sfe.coil.temp
  call := nextCall v.dar.plan.dry v.rh v.drc.call
  cold := nextCold v.roomTemp v.drc.cold }

theorem handsOn_record {t v : State} (h : t.handsOn v) :
    t.drc = v.markedDrc.movedTo t.drc.state v.sfe.coil.temp v.dryingReason := by
  obtain ⟨_, _, _, _, hrecord, _, _⟩ := h
  exact hrecord

theorem handsOn_state {t v : State} (h : t.handsOn v) : t.drc.state = t.dryingFrom v.drc.minRun v.drc.state := by
  obtain ⟨_, _, _, hstate, _, _, _⟩ := h
  exact hstate

/-- A record of neither PULLDOWN nor RUNNING. -/
theorem off_not_run {x : Drc} (hx : x.state.on = false) : ¬(x.state = .pulldown ∨ x.state = .running) := by
  rintro (h | h) <;> rw [h] at hx <;> cases hx

/-- The DRC's rule leaves DEFROST and POST-RUN for LOCKOUT alone (R115, R118, R121). -/
theorem dryingFrom_stopped (t : State) (ran : Bool) {x : DryState} (hx : x = .defrost ∨ x = .postRun) :
    t.dryingFrom ran x = x ∨ t.dryingFrom ran x = .lockout := by
  rcases hx with rfl | rfl <;> simp only [State.dryingFrom] <;> split <;> simp

/-- What DEFROST and POST-RUN leave standing when the hand-overs keep them or lock them out, no check being in
progress. -/
structure Drc.KeptStopped (y x : Drc) : Prop where
  state : y.state = x.state ∨ y.state = .lockout
  cause : y.cause = x.cause
  pull : y.pull = x.pull
  off : y.off = x.off
  pullFails : y.pullFails = x.pullFails
  run : x.run = none → y.run = none
  minRun : x.minRun = false → y.minRun = false
  frost : x.frost = none → y.frost = none
  same : y.state = x.state → y.defrost = x.defrost ∧ y.defrostEnd = x.defrostEnd ∧ y.postRun = x.postRun

theorem movedTo_lockout {x : Drc} (hx : x.state.on = false) (hl : x.state ≠ .lockout) (coil : Option Int)
    (r : LockReason) : x.movedTo .lockout coil r =
      { x with
        state := .lockout, reason := some r, run := none, minRun := false, frost := none, defrost := none
        defrostEnd := none, postRun := none, pull := x.pull.ended } := by
  rw [Drc.movedTo, if_neg hl.symm]
  simp only [if_neg (off_not_run hx)]
  rfl

theorem handsOn_keptStopped {t v : State} (h : t.handsOn v) (hs : v.drc.state = .defrost ∨ v.drc.state = .postRun)
    (hp : v.drc.pull.outcome ≠ some .checking) : t.drc.KeptStopped v.drc := by
  have hstate := handsOn_state h
  have hrecord := handsOn_record h
  rcases dryingFrom_stopped t v.drc.minRun hs with hkept | hlock
  · rw [handsOn_drc_kept h (hstate.trans hkept)]
    exact ⟨.inl rfl, rfl, rfl, rfl, rfl, id, id, id, fun _ => ⟨rfl, rfl, rfl⟩⟩
  · have hon : v.drc.state.on = false := by rcases hs with hs | hs <;> rw [hs] <;> rfl
    have hne : v.drc.state ≠ .lockout := by rcases hs with hs | hs <;> rw [hs] <;> simp
    rw [hstate.trans hlock, movedTo_lockout (x := v.markedDrc) hon hne] at hrecord
    rw [hrecord]
    exact ⟨.inr rfl, rfl, ended_of_verdict hp, rfl, rfl, fun _ => rfl, fun _ => rfl, fun _ => rfl,
      fun he => absurd he.symm hne⟩

theorem Drc.KeptStopped.off_comp {t v : State} (h : t.drc.KeptStopped v.drc) (hv : v.drc.state.on = false) :
    t.comp = false := by
  rcases h.state with hs | hs
  · exact comp_off (hs ▸ hv)
  · exact comp_off (by rw [hs]; rfl)

/-- The off-timer of a compressor that is off is not touched by the hand-overs. -/
theorem handsOn_off {t v : State} (h : t.handsOn v) (hv : v.drc.state.on = false) : t.drc.off = v.drc.off := by
  obtain ⟨-, -, hkeep⟩ := movedTo_marks v.markedDrc t.drc.state v.sfe.coil.temp v.dryingReason
  rw [handsOn_record h]
  exact hkeep hv

/-- A compressor that the hand-overs leave on ran before them, or started by them. -/
theorem handsOn_runs_on {t v : State} (h : t.handsOn v) (hv : v.drc.state.on = true) (ht : t.drc.state.on = true) :
    t.drc.state = v.drc.state := by
  have hstate := handsOn_state h
  obtain ⟨-, hkept⟩ | ⟨hoff, -⟩ := dryingFrom_on (hstate ▸ ht)
  · exact hstate.trans hkept
  · rw [hv] at hoff
    cases hoff

/-- From OFF the DRC's rule leads to LOCKOUT, PULLDOWN or the re-entry choice, none of which begins POST-RUN or
DEFROST. -/
theorem dryingFrom_off_ne_postRun (t : State) (ran : Bool) : t.dryingFrom ran .off ≠ .postRun := by
  have hchoice : t.choice ≠ .postRun := by
    rw [choice_eq]
    repeat' split
    all_goals simp
  simp only [State.dryingFrom]
  split
  · simp
  · split
    · simp
    · exact hchoice

/-- A record that moves from a state with the compressor off, other than to POST-RUN, starts none of the timers of
POST-RUN and DEFROST. -/
theorem movedTo_rested {x : Drc} (hx : x.state.on = false) {new : DryState} (hn : new ≠ .postRun)
    (hp : x.postRun = none) (hd : x.defrost = none) (he : x.defrostEnd = none) (coil : Option Int) (r : LockReason) :
    (x.movedTo new coil r).postRun = none ∧ (x.movedTo new coil r).defrost = none ∧
      (x.movedTo new coil r).defrostEnd = none ∧ (x.movedTo new coil r).defrostFails = x.defrostFails := by
  unfold Drc.movedTo
  split
  · exact ⟨hp, hd, he, rfl⟩
  · dsimp only
    rw [if_neg (off_not_run hx)]
    cases new
    case postRun => exact absurd rfl hn
    case lockout => exact ⟨rfl, rfl, rfl, rfl⟩
    all_goals exact ⟨hp, hd, he, rfl⟩

/-- The record after DEFROST or POST-RUN is over: OFF, its timers stopped (R115, R119). -/
def Drc.rested (x : Drc) : Drc := { x with state := .off, defrost := none, defrostEnd := none, postRun := none }

theorem rest_changed {s : State} (h : s.drc.state ≠ .off) : s.rest = (s.setDrc s.drc.rested).postAll .dry :=
  goto_changed h

/-- The hand-overs of a DEFROST or POST-RUN that is over make the re-entry choice, with its timers stopped. -/
theorem handsOn_rested {t s : State} (h : t.handsOn ((s.setDrc s.drc.rested).postAll .dry)) :
    t.drc.postRun = none ∧ t.drc.defrost = none ∧ t.drc.defrostEnd = none ∧
      t.drc.defrostFails = s.drc.defrostFails ∧ t.flagOnAll .dry ∧ t.drc.state = t.dryingFrom s.drc.minRun .off := by
  have hoff : t.drc.state = t.dryingFrom s.drc.minRun .off := handsOn_state h
  have hne : t.drc.state ≠ .postRun := hoff ▸ dryingFrom_off_ne_postRun t s.drc.minRun
  obtain ⟨hp, hd, he, hf⟩ :=
    movedTo_rested (x := ((s.setDrc s.drc.rested).postAll .dry).markedDrc) rfl hne rfl rfl rfl _ _
  rw [← handsOn_record h] at hp hd he hf
  exact ⟨hp, hd, he, hf, postAll_flagOnAll_mono (handsOn_onlyFlags h), hoff⟩

end Sys2Proof.Machine
end

-- The expiries of the off-timer, the minimum run, POST-RUN and the frost timer (R108, R113, R115, R116).
section
namespace Sys2Proof.Machine

/-! ### The expiries, each with its timer running -/

theorem offTimerPassed_counting {s : State} {e : Nat} (h : s.drc.off = .counting e) :
    s.offTimerPassed =
      ((s.advance (180000 - e)).setDrc { (s.advance (180000 - e)).drc with off := .passed }).settle := by
  rw [State.offTimerPassed, h]
  rfl

theorem minimumRun_running {s : State} {e : Nat} (hs : s.drc.state = .pulldown ∨ s.drc.state = .running)
    (hm : s.drc.minRun = false) (h : s.drc.run = some e) : s.minimumRun =
    ((s.advance (120000 - e)).setDrc { (s.advance (120000 - e)).drc with minRun := true }).settle := by
  have hon : s.drc.state.on = true := by rcases hs with hs | hs <;> rw [hs] <;> rfl
  rw [State.minimumRun, if_pos ⟨hon, hm⟩, expire_running h]
  rfl

theorem postRunEnd_running {s : State} {e : Nat} (hs : s.drc.state = .postRun) (h : s.drc.postRun = some e) :
    s.postRunEnd = (((s.advance (60000 - e)).setDrc (s.advance (60000 - e)).drc.rested).postAll .dry).settle := by
  rw [State.postRunEnd, if_pos hs, expire_running h, rest_changed (by simp [Drc.advance, hs])]
  rfl

/-- The part on entry to DEFROST for cause FROST, with the compressor stopped and `pull` kept of its check (R117). -/
def State.frosted (u : State) (pull : PullRecord) : State :=
  ((u.setDrc { u.drc with
    state := .defrost, cause := some .frost, defrost := some 0, defrostEnd := none, off := .counting 0, run := none
    minRun := false, frost := none, pull := pull }).postAll .dry).log (.defrost .frost)

theorem enterDefrost_frost {s : State} (h : s.drc.state ≠ .defrost) :
    s.enterDefrost .frost = s.frosted s.drc.pull.ended :=
  congrArg (State.log · (.defrost .frost)) (goto_changed h)

theorem frostDetected_running {s : State} {e : Nat} (hs : s.drc.state = .running) (h : s.drc.frost = some e) :
    s.frostDetected = ((s.advance (60000 - e)).frosted (s.drc.pullEnded (60000 - e))).settle := by
  rw [State.frostDetected, if_pos hs, expire_running h, enterDefrost_frost (by simp [Drc.advance, hs])]
  exact congrArg (fun x => ((s.advance (60000 - e)).frosted x).settle) (advance_pull_ended s.drc _)

/-! ### What each leaves -/

/-- A row that acts once the part is up and ends in the hand-overs answers with a state handed on. -/
theorem exec_handsOn {i : Instr} {s v : State} {f : State → State} (hi : exec i s = .next (s.whenUp f))
    (hup : s.up = true) (hv : f s = v.settle) : ∃ t, exec i s = .next t ∧ t.handsOn v :=
  ⟨_, exec_of_up hi hup hv, settle_handsOn v⟩

/-- A minimum run that is over stays over while the compressor runs on. -/
theorem handsOn_minRun {t v : State} (h : t.handsOn v) (hv : v.drc.state.on = true) (hm : v.drc.minRun = true)
    (ht : t.drc.state.on = true) : t.drc.minRun = true := by
  rw [handsOn_drc_kept h (handsOn_runs_on h hv ht)]
  exact hm

/-- A defrost for FROST is there after the hand-overs, or locked out by them. -/
theorem handsOn_frosted {t u : State} {pull : PullRecord} (hp : pull.outcome ≠ some .checking)
    (h : t.handsOn (u.frosted pull)) :
    (t.drc.state = .defrost ∨ t.drc.state = .lockout) ∧ t.drc.cause = some .frost ∧ t.drc.pull = pull ∧
      t.drc.off = .counting 0 ∧ t.drc.run = none ∧ t.drc.minRun = false ∧ t.drc.frost = none ∧ t.comp = false ∧
      t.flagOnAll .dry ∧ (t.drc.state = .defrost → t.drc.defrost = some 0 ∧ t.drc.defrostEnd = none) := by
  have hkept := handsOn_keptStopped h (.inl rfl) hp
  refine ⟨hkept.state, hkept.cause, hkept.pull, hkept.off, hkept.run rfl, hkept.minRun rfl, hkept.frost rfl,
    hkept.off_comp rfl, postAll_flagOnAll_mono (onlyFlags_trans (handsOn_onlyFlags h) (log_onlyFlags _ _)),
    fun hs => ?_⟩
  obtain ⟨hd, he, -⟩ := hkept.same hs
  exact ⟨hd, he⟩

/-- Settles O38: each expiry ends in the hand-overs, which keep the record of a compressor that is off and leave
POST-RUN by the re-entry choice; the conditions read as R104 to R109 and R113, R114 say. -/
theorem dryingTimersExpire : Obligations.DryingTimersExpire := by
  refine ⟨fun s e hup => ⟨fun hoff => ?_, fun hs hm hrun => ?_, fun hs hpost => ?_, fun hs hfrost => ?_⟩,
    ⟨fun _ _ => ⟨rfl, rfl⟩, fun n call => ⟨rfl, fun h => nextCall_percent n h call⟩,
      fun cold => ⟨rfl, fun h => nextCold_reading h cold⟩, fun s => ?_,
      fun x => ⟨needOf_floor, needOf_startWait, needOf_defrost, needOf_none⟩⟩⟩
  · obtain ⟨t, hexec, h⟩ := exec_handsOn (i := .offTimerPassed) rfl hup (offTimerPassed_counting hoff)
    exact ⟨t, hexec, h, fun hs => handsOn_off h hs⟩
  · obtain ⟨t, hexec, h⟩ := exec_handsOn (i := .minimumRunEnd) rfl hup (minimumRun_running hs hm hrun)
    have hon : s.drc.state.on = true := by rcases hs with hs | hs <;> rw [hs] <;> rfl
    exact ⟨t, hexec, h, handsOn_minRun h hon rfl⟩
  · obtain ⟨t, hexec, h⟩ := exec_handsOn (i := .postRunEnd) rfl hup (postRunEnd_running hs hpost)
    obtain ⟨hp, -, -, -, hdry, -⟩ := handsOn_rested h
    exact ⟨t, hexec, hp, hdry, h⟩
  · obtain ⟨t, hexec, h⟩ := exec_handsOn (i := .frostDetected) rfl hup (frostDetected_running hs hfrost)
    exact ⟨t, hexec, h, handsOn_frosted (pullEnded_outcome s.drc _) h⟩
  · exact ⟨holds_tank_iff s, holds_quiet_iff s, holds_airflow_iff s, holds_sensor_iff s, Iff.rfl, rfl,
      requiredAbsent_iff s, choice_eq s, canStart_iff s, normalStop_iff s, safetyStop_iff s⟩

end Sys2Proof.Machine
end

-- The end of the pull-down check and of a defrost (R111, R112, R118, R121, R122).
section
namespace Sys2Proof.Machine

/-! ### A stored lockout (R122) -/

/-- The record `d` on entry to LOCKOUT for `r`: every timer but the off-timer stopped (R121). -/
def Drc.locked (d : Drc) (r : LockReason) : Drc := { d with
  state := .lockout, reason := some r, run := none, minRun := false, frost := none, defrost := none
  defrostEnd := none, postRun := none }

/-- The part on entry to a stored lockout with the record `d`: posted, and a checkpoint asked for. -/
def State.locked (v : State) (d : Drc) (r : LockReason) : State :=
  ((((v.setDrc (d.locked r)).postAll .dry).postAll .lockout).log (.lockout r)).request (.single .lockout)

@[simp] theorem locked_drc (v : State) (d : Drc) (r : LockReason) : (v.locked d r).drc = d.locked r := by
  simp [State.locked]

theorem enterLockout_stored (s : State) {x : Drc} (hne : x.state ≠ .lockout) {r : LockReason}
    (hr : r.isStored = true) : (s.setDrc x).enterLockout r =
      s.locked { (if x.state.on then x.stopped else x) with
        pull := (if x.state.on then x.stopped else x).pull.ended } r := by
  have hd : (if x.state.on then x.stopped else x).state ≠ .lockout := by split <;> exact hne
  simp only [State.enterLockout, hr, if_true, setDrc_drc, setDrc_setDrc]
  rw [setDrc_goto]
  · rfl
  · exact hd

/-- A lockout from PULLDOWN or RUNNING stops the compressor (R121). -/
theorem enterLockout_on (s : State) {x : Drc} (h : x.state.on = true) {r : LockReason} (hr : r.isStored = true) :
    (s.setDrc x).enterLockout r = s.locked x.stopped r := by
  have hne : x.state ≠ .lockout := fun hs => by rw [hs] at h; cases h
  have hpull : x.stopped.pull.ended = x.stopped.pull := ended_of_verdict (ended_outcome _)
  rw [enterLockout_stored s hne hr, if_pos h, hpull]

theorem enterLockout_off (s : State) {x : Drc} (h : x.state.on = false) (hne : x.state ≠ .lockout) {r : LockReason}
    (hr : r.isStored = true) : (s.setDrc x).enterLockout r = s.locked { x with pull := x.pull.ended } r := by
  rw [enterLockout_stored s hne hr, if_neg (Bool.eq_false_iff.1 h)]

theorem normalStopNow_changed (s : State) {x : Drc} (h : x.state ≠ .postRun) : (s.setDrc x).normalStopNow =
    (s.setDrc { x.stopped with state := .postRun, postRun := some 0 }).postAll .dry := setDrc_goto s h

/-- In LOCKOUT the hand-overs keep the record, and post nothing. -/
theorem handsOn_lockout {t v : State} (h : t.handsOn v) (hs : v.drc.state = .lockout) :
    t.drc = v.markedDrc ∧ t.tlg = v.tlg := by
  have hstate : t.drc.state = v.drc.state := by
    rw [handsOn_state h, hs]
    rfl
  have hdrc := handsOn_drc_kept h hstate
  obtain ⟨_, _, _, _, _, _, htlg⟩ := h
  exact ⟨hdrc, by rw [htlg, State.tellsDrying, if_pos hstate]⟩

theorem locked_posts (v : State) (d : Drc) (r : LockReason) : (v.locked d r).flagOnAll .dry ∧
    (v.locked d r).flagOnAll .lockout ∧ (v.locked d r).lastEvent (.lockout r) ∧
    (v.locked d r).asked (.single .lockout) := by
  have htold : (v.locked d r).onlyFlags (((v.setDrc (d.locked r)).postAll .dry).postAll .lockout) :=
    onlyFlags_trans (request_onlyFlags _ _) (log_onlyFlags _ _)
  refine ⟨postAll_flagOnAll_mono (onlyFlags_trans htold (raise_onlyFlags _ _)), postAll_flagOnAll_mono htold, ?_,
    request_asked _ _⟩
  have htlg : (v.locked d r).tlg =
      ((((v.setDrc (d.locked r)).postAll .dry).postAll .lockout).log (.lockout r)).tlg := by
    simp [State.locked]
  rw [State.lastEvent, htlg]
  exact log_lastEvent _ _

/-- A stored lockout is there after the hand-overs, with the rest of the record it began with. -/
theorem handsOn_locked {t v : State} {d : Drc} {r : LockReason} (h : t.handsOn (v.locked d r)) :
    (t.drc.state = .lockout ∧ t.drc.reason = some r ∧ t.comp = false ∧ t.flagOnAll .dry ∧ t.flagOnAll .lockout ∧
      t.lastEvent (.lockout r) ∧ t.asked (.single .lockout) ∧ t.drc.defrost = none ∧ t.drc.defrostEnd = none ∧
      t.drc.run = none) ∧
    t.drc.pull = d.pull ∧ t.drc.off = d.off ∧ t.drc.defrostFails = d.defrostFails := by
  obtain ⟨hdry, hlock, hlast, hasked⟩ := locked_posts v d r
  obtain ⟨hdrc, htlg⟩ := handsOn_lockout h (by rw [locked_drc]; rfl)
  rw [State.markedDrc, locked_drc] at hdrc
  have hsst : t.sst = (v.locked d r).sst := h.1 .sst rfl
  have hflags := handsOn_onlyFlags h
  have hstate : t.drc.state = .lockout := by rw [hdrc]; rfl
  refine ⟨⟨hstate, ?_, comp_off (by rw [hstate]; rfl), flagOnAll_mono hflags _ hdry, flagOnAll_mono hflags _ hlock, ?_,
    asked_of_sst hsst hasked, ?_, ?_, ?_⟩, ?_, ?_, ?_⟩
  case refine_2 =>
    rw [State.lastEvent, htlg]
    exact hlast
  all_goals
    rw [hdrc]
    rfl

/-! ### The ends of a check and of a defrost, each with its timer running -/

theorem pulldownExpiry_running {s : State} {e : Nat} (hs : s.drc.state = .pulldown)
    (ho : s.drc.pull.outcome = some .checking) (h : s.drc.pull.elapsed = some e) :
    s.pulldownExpiry = (s.advance (240000 - e)).pulldownFailed := by
  rw [State.pulldownExpiry, if_pos ⟨hs, ho⟩, expire_running h]
  rfl

/-- The record of a FAILED check, its compressor stopped (R111, R112). -/
def Drc.pullFailed (x : Drc) : Drc := { x with
  off := .counting 0, run := none, minRun := false, frost := none, pull := { x.pull with outcome := some .failed } }

theorem pulldownFailed_retry {u : State} (hs : u.drc.state = .pulldown) (hp : u.sst.settings.drying.policy = .retry)
    (hf : u.drc.pullFails = 0) : u.pulldownFailed =
      ((u.setDrc { u.drc.pullFailed with state := .postRun, postRun := some 0, pullFails := 1 }).postAll
        .dry).settle := by
  have hretry : (u.sst.settings.drying.policy = .retry && u.drc.pullFails = 0) = true := by simp [hp, hf]
  simp only [State.pulldownFailed, if_pos hretry, setDrc_setDrc]
  rw [normalStopNow_changed]
  · rfl
  · simp [hs]

theorem pulldownFailed_locks {u : State} (hs : u.drc.state = .pulldown)
    (h : u.sst.settings.drying.policy = .lockout ∨ u.drc.pullFails ≠ 0) :
    u.pulldownFailed = (u.locked u.drc.pullFailed .noPulldown).settle := by
  have hretry : ¬((u.sst.settings.drying.policy = .retry && u.drc.pullFails = 0) = true) := by
    rcases h with h | h <;> simp [h]
  simp only [State.pulldownFailed, if_neg hretry]
  rw [enterLockout_on]
  · rfl
  · rw [hs]
    rfl
  · rfl

/-- A defrost that is over with `n` failed ones counted: its record written and its timers stopped (R118, R119). -/
def State.defrosted (v : State) (n : Nat) (d : DefrostValue) : State :=
  let x := (v.setDrc { v.drc with defrostFails := n }).log (.defrost d)
  (x.setDrc x.drc.rested).postAll .dry

theorem rest_defrosted {v : State} (h : v.drc.state = .defrost) (n : Nat) (d : DefrostValue) :
    ((v.setDrc { v.drc with defrostFails := n }).log (.defrost d)).rest = v.defrosted n d :=
  rest_changed (by simp [h])

theorem defrostSuccess_running {s : State} {e : Nat} (hs : s.drc.state = .defrost) (h : s.drc.defrostEnd = some e) :
    s.defrostSuccess = ((s.advance (30000 - e)).defrosted 0 .success).settle := by
  rw [State.defrostSuccess, if_pos hs, expire_running h]
  exact congrArg State.settle (rest_defrosted (v := s.advance (30000 - e)) hs 0 .success)

theorem defrostTimeout_running {s : State} {e : Nat} (hs : s.drc.state = .defrost) (h : s.drc.defrost = some e) :
    s.defrostTimeout = (s.advance (900000 - e)).defrostTimedOut := by
  rw [State.defrostTimeout, if_pos hs, expire_running h]
  rfl

theorem defrostTimedOut_counted {u : State} (hs : u.drc.state = .defrost) (h : u.drc.defrostFails + 1 < 3) :
    u.defrostTimedOut = (u.defrosted (u.drc.defrostFails + 1) .timeout).settle :=
  (if_neg (Nat.not_le.2 h)).trans (congrArg State.settle (rest_defrosted hs _ _))

theorem defrostTimedOut_locks {u : State} (hs : u.drc.state = .defrost) (h : 3 ≤ u.drc.defrostFails + 1) :
    u.defrostTimedOut =
      (u.locked { u.drc with defrostFails := u.drc.defrostFails + 1, pull := u.drc.pull.ended } .defrost).settle := by
  have hlock := enterLockout_off u (x := { u.drc with defrostFails := u.drc.defrostFails + 1 }) (by rw [hs]; rfl)
    (by simp [hs]) (r := .defrost) rfl
  exact (if_pos h).trans (congrArg State.settle hlock)

theorem handsOn_defrosted {t v : State} {n : Nat} {d : DefrostValue} (h : t.handsOn (v.defrosted n d)) :
    t.drc.defrostFails = n ∧ t.drc.defrost = none ∧ t.drc.defrostEnd = none ∧ t.flagOnAll .dry ∧
      t.drc.state = t.dryingFrom v.drc.minRun .off := by
  obtain ⟨-, hd, he, hf, hdry, hs⟩ := handsOn_rested h
  simp only [log_frame, setDrc_drc] at hf hs
  exact ⟨hf, hd, he, hdry, hs⟩

/-- A FAILED check under RETRY is in POST-RUN after the hand-overs, or locked out by them. -/
theorem handsOn_retry {t u : State} (h : t.handsOn
    ((u.setDrc { u.drc.pullFailed with state := .postRun, postRun := some 0, pullFails := 1 }).postAll .dry)) :
    t.drc.pull = u.drc.pullFailed.pull ∧ t.drc.off = .counting 0 ∧ t.drc.pullFails = 1 ∧ t.comp = false ∧
      t.flagOnAll .dry ∧ (t.drc.state = .postRun ∨ t.drc.state = .lockout) ∧
      (t.drc.state = .postRun → t.drc.postRun = some 0) := by
  have hkept := handsOn_keptStopped h (.inr rfl) (by simp [Drc.pullFailed])
  refine ⟨hkept.pull, hkept.off, hkept.pullFails, hkept.off_comp rfl, postAll_flagOnAll_mono (handsOn_onlyFlags h),
    hkept.state, fun hs => ?_⟩
  obtain ⟨-, -, hpost⟩ := hkept.same hs
  exact hpost

/-- Settles O39: a FAILED check ends in POST-RUN or in a stored lockout by the policy, and a defrost in the re-entry
choice or, at its third failure, in a stored lockout; each is handed on. -/
theorem pulldownAndDefrostEnd : Obligations.PulldownAndDefrostEnd := by
  intro s e hup
  refine ⟨fun hs ho he => ?_, fun hs he => ?_, fun hs he => ⟨fun hn => ?_, fun hn => ?_⟩⟩
  · have hexec := pulldownExpiry_running hs ho he
    by_cases hretry : s.sst.settings.drying.policy = .retry ∧ s.drc.pullFails = 0
    · obtain ⟨hp, hf⟩ := hretry
      obtain ⟨t, ht, h⟩ := exec_handsOn (i := .pulldownCheckExpiry) rfl hup
        (hexec.trans (pulldownFailed_retry hs hp hf))
      obtain ⟨hpull, hoff, hkept⟩ := handsOn_retry h
      refine ⟨t, ht, hpull, hoff, fun _ _ => ⟨h, hkept⟩, fun hlock => ?_⟩
      rcases hlock with hlock | hlock
      · rw [hp] at hlock
        cases hlock
      · exact absurd hf hlock
    · have hlock : s.sst.settings.drying.policy = .lockout ∨ s.drc.pullFails ≠ 0 := by
        cases hp : s.sst.settings.drying.policy with
        | retry => exact .inr (fun hf => hretry ⟨hp, hf⟩)
        | lockout => exact .inl rfl
      obtain ⟨t, ht, h⟩ := exec_handsOn (i := .pulldownCheckExpiry) rfl hup
        (hexec.trans (pulldownFailed_locks hs hlock))
      obtain ⟨hlocked, hpull, hoff, -⟩ := handsOn_locked h
      exact ⟨t, ht, hpull, hoff, fun hp hf => absurd ⟨hp, hf⟩ hretry, fun _ => ⟨h, hlocked⟩⟩
  · obtain ⟨t, ht, h⟩ := exec_handsOn (i := .defrostSuccess) rfl hup (defrostSuccess_running hs he)
    have hrested := handsOn_defrosted h
    exact ⟨t, ht, h, hrested⟩
  · have hcount := defrostTimedOut_counted (u := s.advance (900000 - e)) hs hn
    obtain ⟨t, ht, h⟩ := exec_handsOn (i := .defrostTimeout) rfl hup ((defrostTimeout_running hs he).trans hcount)
    have hrested := handsOn_defrosted h
    exact ⟨t, ht, h, hrested⟩
  · have hlock := defrostTimedOut_locks (u := s.advance (900000 - e)) hs hn
    obtain ⟨t, ht, h⟩ := exec_handsOn (i := .defrostTimeout) rfl hup ((defrostTimeout_running hs he).trans hlock)
    rw [advance_drc, advance_pull_ended] at h
    obtain ⟨hlocked, -, -, hfails⟩ := handsOn_locked h
    exact ⟨t, ht, hlocked, hfails, h⟩

end Sys2Proof.Machine
end

-- Every step keeps the trend log in order: blocks touch it by writes alone, the readers move within the ring, and a
-- reset empties it or keeps its records.
section
namespace Sys2Proof.Machine

/-! ### The order of the ring (R154) -/

/-- A log with the ring and the next number of a lawful one, and its cursors within the ring. -/
theorem tlg_lawful_of_ring {t u : Tlg} (h : u.lawful) (hr : t.ring = u.ring) (hn : t.nextSeq = u.nextSeq)
    (hc : ∀ p, t.backlog (t.readers.get p) ≤ t.ring.length) : t.lawful := by
  obtain ⟨hlen, hseq, -⟩ := h
  refine ⟨hr ▸ hlen, fun i r hi => ?_, hc⟩
  rw [hr] at hi ⊢
  rw [hn]
  exact hseq i r hi

/-- A cursor placed `n` records before the newest plus one has a backlog of `n`. -/
theorem backlog_before (t : Tlg) (r : Reader) {n : Nat} (hn : n ≤ 256) :
    t.backlog { r with cursor := t.nextSeq - BitVec.ofNat 32 n } = n :=
  toNat_sub_ofNat t.nextSeq n (by omega)

/-- The oldest number held stands as far before the next one as the ring is long. -/
theorem oldest_eq {t : Tlg} (h : t.lawful) : t.oldest = t.nextSeq - BitVec.ofNat 32 t.ring.length := by
  obtain ⟨-, hseq, -⟩ := h
  unfold Tlg.oldest
  cases hr : t.ring with
  | nil => simp
  | cons x xs =>
    have hx := hseq 0 x (by rw [hr]; rfl)
    rw [hr] at hx
    exact hx

theorem startReader_backlog {t : Tlg} (h : t.lawful) : t.backlog t.startReader = t.ring.length := by
  obtain ⟨hlen, -, -⟩ := id h
  unfold Tlg.startReader
  rw [oldest_eq h]
  exact backlog_before t t.startReader hlen

/-- Readers that start at the oldest record stand within the ring (R164). -/
theorem tlg_lawful_of_startReaders {t u : Tlg} (h : u.lawful) (hr : t.ring = u.ring) (hn : t.nextSeq = u.nextSeq)
    (hs : t.readers = ⟨u.startReader, u.startReader, u.startReader⟩) : t.lawful := by
  refine tlg_lawful_of_ring h hr hn (fun p => ?_)
  have hget : t.readers.get p = u.startReader := by rw [hs]; cases p <;> rfl
  have hb : t.backlog u.startReader = u.backlog u.startReader := by simp only [Tlg.backlog, hn]
  exact Nat.le_of_eq (by rw [hget, hb, startReader_backlog h, hr])

theorem tlg_idle_lawful : Tlg.idle.lawful :=
  ⟨Nat.zero_le _, fun _ _ hi => by simp [Tlg.idle] at hi, fun p => by cases p <;> decide⟩

/-! ### What keeps the law -/

theorem ringLaw_of_frame {t s : State} (h : s.ringLaw) (hf : t.tlg = s.tlg) : t.ringLaw := by
  unfold State.ringLaw
  rw [hf]
  exact h

theorem advance_ringLaw {s : State} (h : s.ringLaw) (ms : Nat) : (s.advance ms).ringLaw := h

/-! The setters of the other blocks. -/

section
variable {s : State} (h : s.ringLaw)
include h

theorem setStore_ringLaw (x : Store) : (s.setStore x).ringLaw := h
theorem setSfe_ringLaw (x : Sfe) : (s.setSfe x).ringLaw := h
theorem setDar_ringLaw (x : Dar) : (s.setDar x).ringLaw := h
theorem setAfc_ringLaw (x : Afc) : (s.setAfc x).ringLaw := h
theorem setFau_ringLaw (x : Fau) : (s.setFau x).ringLaw := h
theorem setSlot_ringLaw (st : Stage) (x : Slot) : (s.setSlot st x).ringLaw := h
theorem setDrc_ringLaw (x : Drc) : (s.setDrc x).ringLaw := h
theorem setCdc_ringLaw (x : Cdc) : (s.setCdc x).ringLaw := h
theorem setPrt_ringLaw (x : Prt) : (s.setPrt x).ringLaw := h
theorem setSst_ringLaw (x : Sst) : (s.setSst x).ringLaw := h

end

theorem ite_ringLaw {c : Prop} [Decidable c] {t s : State} (ht : t.ringLaw) (h : s.ringLaw) :
    (if c then t else s).ringLaw := by
  split
  · exact ht
  · exact h

theorem whenUp_ringLaw {s : State} {f : State → State} (h : s.ringLaw) (hf : (f s).ringLaw) : (s.whenUp f).ringLaw :=
  ite_ringLaw hf h

theorem expire_ringLaw {s : State} {t : Timer} {limit : Nat} {act : State → State} (h : s.ringLaw)
    (hact : ∀ u : State, u.ringLaw → (act u).ringLaw) : (s.expire t limit act).ringLaw := by
  cases t with
  | none => exact h
  | some e => exact hact _ (advance_ringLaw h _)

/-- An operation on the record of a run, where there is one. -/
theorem onRecord_ringLaw {s : State} (h : s.ringLaw) {x : Option Sequence} {k : Sequence → State}
    (hk : ∀ q, (k q).ringLaw) : (match x with
      | some q => k q
      | none => s).ringLaw := by
  cases x with
  | none => exact h
  | some q => exact hk q

/-! ### Writes and hand-overs (R154, R157) -/

theorem write_ringLaw {s : State} (h : s.ringLaw) (body : RecordBody) : (s.write body).ringLaw := written_lawful h body

theorem log_ringLaw {s : State} (h : s.ringLaw) (e : Event) : (s.log e).ringLaw := write_ringLaw h _

/-- An event with its flag and its record. -/
theorem told_ringLaw {s : State} (h : s.ringLaw) (f : Flag) (e : Event) : ((s.postAll f).log e).ringLaw :=
  log_ringLaw (s := s.postAll f) h e

theorem request_ringLaw {s : State} (h : s.ringLaw) (rs : RegionSet) : (s.request rs).ringLaw :=
  ringLaw_of_frame h (by simp)

theorem requestSome_ringLaw {s : State} (h : s.ringLaw) (rs : RegionSet) : (s.requestSome rs).ringLaw :=
  ringLaw_of_frame h (by simp)

theorem goto_ringLaw {s : State} (h : s.ringLaw) (st : DryState) : (s.goto st).ringLaw := ringLaw_of_frame h (by simp)

theorem enterLockout_ringLaw {s : State} (h : s.ringLaw) (r : LockReason) : (s.enterLockout r).ringLaw := by
  unfold State.enterLockout
  extract_lets d t u
  have hu : u.ringLaw := told_ringLaw (goto_ringLaw (setDrc_ringLaw h _) _) _ _
  exact ite_ringLaw (request_ringLaw hu _) hu

theorem enterDefrost_ringLaw {s : State} (h : s.ringLaw) (c : DefrostCause) : (s.enterDefrost c).ringLaw :=
  log_ringLaw (goto_ringLaw (setDrc_ringLaw h _) _) _

/-- Of the DRC's rule the lockout alone writes a record. -/
theorem drcRule_ringLaw {s : State} (h : s.ringLaw) : s.drcRule.ringLaw := by
  have hlock := fun r => enterLockout_ringLaw h r
  have hstart := ringLaw_of_frame (t := s.reenter) h (by simp)
  have hsafe := ringLaw_of_frame (t := s.safetyStopNow) h (by simp)
  have hnormal := ringLaw_of_frame (t := s.normalStopNow) h (by simp)
  unfold State.drcRule
  split
  case h_1 | h_2 | h_3 | h_4 => exact ite_ringLaw (hlock _) hstart
  case h_5 | h_6 =>
    exact ite_ringLaw (hlock _) (ite_ringLaw (hlock _) (ite_ringLaw hsafe (ite_ringLaw hnormal h)))
  case h_7 => exact ite_ringLaw (hlock _) (ite_ringLaw (hlock _) h)
  case h_8 => exact ite_ringLaw (hlock _) h
  case h_9 => exact h

theorem settle_ringLaw {s : State} (h : s.ringLaw) : s.settle.ringLaw :=
  ringLaw_of_frame (drcRule_ringLaw (s := s.publish.marks) h) (by simp [State.settle])

/-- Operations that leave the log as it was, and the hand-overs after them. -/
theorem settled_ringLaw {t s : State} (h : s.ringLaw) (hf : t.tlg = s.tlg) : t.settle.ringLaw :=
  settle_ringLaw (ringLaw_of_frame h hf)

/-! ### Drying -/

theorem pulldownFailed_ringLaw {s : State} (h : s.ringLaw) : s.pulldownFailed.ringLaw :=
  ite_ringLaw (settled_ringLaw h (by simp)) (settle_ringLaw (enterLockout_ringLaw (setDrc_ringLaw h _) _))

theorem rest_ringLaw {s : State} (h : s.ringLaw) : s.rest.ringLaw := ringLaw_of_frame h (by simp)

theorem defrostTimedOut_ringLaw {s : State} (h : s.ringLaw) : s.defrostTimedOut.ringLaw :=
  ite_ringLaw (settle_ringLaw (enterLockout_ringLaw (setDrc_ringLaw h _) _))
    (settle_ringLaw (rest_ringLaw (log_ringLaw (setDrc_ringLaw h _) _)))

theorem defrostSucceeded_ringLaw {s : State} (h : s.ringLaw) :
    ((s.setDrc { s.drc with defrostFails := 0 }).log (.defrost .success)).rest.settle.ringLaw :=
  settle_ringLaw (rest_ringLaw (log_ringLaw (setDrc_ringLaw h _) _))

theorem offTimerPassed_ringLaw {s : State} (h : s.ringLaw) : s.offTimerPassed.ringLaw := by
  unfold State.offTimerPassed
  split
  · next e _ => exact settle_ringLaw (setDrc_ringLaw (advance_ringLaw h (Config.offTimerMs - e)) _)
  · exact h

/-! ### Filters, demands and the fan -/

theorem postFilter_ringLaw {s : State} (h : s.ringLaw) (st : Stage) (old new : StageState) :
    (s.postFilter st old new).ringLaw := by
  have ht : ((s.postAll .filter).log (.filterState st new)).ringLaw := told_ringLaw h _ _
  exact ite_ringLaw h (ite_ringLaw (request_ringLaw ht _) ht)

theorem filterEvents_ringLaw {s : State} (h : s.ringLaw) (before : State) : (s.filterEvents before).ringLaw :=
  postFilter_ringLaw (postFilter_ringLaw (postFilter_ringLaw h _ _ _) _ _ _) _ _ _

theorem countTick_ringLaw {s : State} (h : s.ringLaw) (r : LastTick) : (s.countTick r).ringLaw :=
  ringLaw_of_frame h (by simp)

theorem tick_ringLaw {s : State} (h : s.ringLaw) : s.tick.ringLaw :=
  settle_ringLaw (countTick_ringLaw (filterEvents_ringLaw (setFau_ringLaw h _) s) _)

theorem changeAccount_ringLaw {s : State} (h : s.ringLaw) (st : Stage) (a : Account) : (s.changeAccount st a).ringLaw :=
  settle_ringLaw (request_ringLaw (filterEvents_ringLaw (setFau_ringLaw h _) s) _)

theorem resolve_ringLaw {s : State} (h : s.ringLaw) : s.resolve.ringLaw := ringLaw_of_frame h (by simp)

theorem resolveTable_ringLaw {s : State} (h : s.ringLaw) (t : List Demand) : (s.resolveTable t).ringLaw :=
  settle_ringLaw (resolve_ringLaw (setDar_ringLaw h _))

theorem reportDropped_ringLaw {s : State} (h : s.ringLaw) (es : List Demand) (ev : DemandRef → Event) :
    (s.reportDropped es ev).ringLaw :=
  List.foldlRecOn es _ h (fun u hu e _ => log_ringLaw (s := u.post e.origin .expired) hu _)

theorem darSecond_ringLaw {s : State} (h : s.ringLaw) : s.darSecond.ringLaw := by
  unfold State.darSecond
  dsimp only
  split
  · exact setDar_ringLaw h _
  · exact resolveTable_ringLaw (reportDropped_ringLaw (setDar_ringLaw h _) _ _) _

theorem takeRanks_ringLaw {s : State} (h : s.ringLaw) : s.takeRanks.ringLaw :=
  ite_ringLaw h (resolve_ringLaw (setDar_ringLaw (reportDropped_ringLaw h _ _) _))

theorem postFan_ringLaw {s : State} (h : s.ringLaw) (v : FanValue) : (s.postFan v).ringLaw := told_ringLaw h .fan _

theorem stallDetected_ringLaw {s : State} (h : s.ringLaw) : s.stallDetected.ringLaw :=
  ite_ringLaw (postFan_ringLaw (setAfc_ringLaw h _) _) (postFan_ringLaw (setAfc_ringLaw h _) _)

theorem judgeStall_ringLaw {s : State} (h : s.ringLaw) : s.judgeStall.ringLaw :=
  ite_ringLaw h (ite_ringLaw (ite_ringLaw (stallDetected_ringLaw h) (setAfc_ringLaw h _)) (setAfc_ringLaw h _))

theorem publish_ringLaw {s : State} (h : s.ringLaw) : s.publish.ringLaw := h

theorem applySwap_ringLaw {s : State} (h : s.ringLaw) : s.applySwap.ringLaw := by
  unfold State.applySwap
  split
  · exact h
  · exact publish_ringLaw (told_ringLaw (setAfc_ringLaw h _) _ _)

theorem updateAuto_ringLaw {s : State} (h : s.ringLaw) : s.updateAuto.ringLaw := ringLaw_of_frame h (by simp)

theorem drive_ringLaw {s : State} (h : s.ringLaw) : s.drive.ringLaw := ringLaw_of_frame h (by simp)

theorem boundary_ringLaw {s : State} (h : s.ringLaw) : s.boundary.ringLaw :=
  settle_ringLaw (drive_ringLaw (updateAuto_ringLaw (applySwap_ringLaw (judgeStall_ringLaw (setAfc_ringLaw h _)))))

theorem clearFan_ringLaw {s : State} (h : s.ringLaw) : s.clearFan.ringLaw :=
  ite_ringLaw (postFan_ringLaw (setAfc_ringLaw h _) _) (setAfc_ringLaw h _)

theorem clearLockoutNow_ringLaw {s : State} (h : s.ringLaw) (r : LockReason) : (s.clearLockoutNow r).ringLaw := by
  have ht := clearFan_ringLaw (setDrc_ringLaw h { s.drc with pullFails := 0, defrostFails := 0, reason := none })
  have hu := told_ringLaw (goto_ringLaw ht .off) .lockout (.lockoutCleared r)
  exact settle_ringLaw (ite_ringLaw (request_ringLaw hu _) hu)

/-! ### Slots and bindings (R88 to R95) -/

theorem postCartridge_ringLaw {s : State} (h : s.ringLaw) (st : Stage) (v : CartridgeValue) :
    (s.postCartridge st v).ringLaw := told_ringLaw h .cartridge _

theorem addRecent_ringLaw {s : State} (h : s.ringLaw) (e : RecentEntry) : (s.addRecent e).ringLaw := by
  unfold State.addRecent
  refine ite_ringLaw ?_ h
  extract_lets kept t
  have ht : t.ringLaw := by
    unfold t
    split
    · exact postCartridge_ringLaw h _ _
    · exact h
  exact ht

theorem keepOutgoing_ringLaw {s : State} (h : s.ringLaw) (st : Stage) : (s.keepOutgoing st).ringLaw := by
  unfold State.keepOutgoing
  dsimp only
  split
  · exact addRecent_ringLaw h _
  · exact h

theorem bind_ringLaw {s : State} (h : s.ringLaw) (st : Stage) (a : Account) (v : CartridgeValue) :
    (s.bind st a v).ringLaw :=
  request_ringLaw (postCartridge_ringLaw (setFau_ringLaw h _) st v) _

theorem bindNewTagged_ringLaw {s : State} (h : s.ringLaw) (st : Stage) (g : TagData) : (s.bindNewTagged st g).ringLaw :=
  bind_ringLaw (keepOutgoing_ringLaw h st) st _ _

theorem bindTagged_ringLaw {s : State} (h : s.ringLaw) (st : Stage) (g : TagData) : (s.bindTagged st g).ringLaw := by
  unfold State.bindTagged
  refine ite_ringLaw (postCartridge_ringLaw h _ _) ?_
  split
  · have hr : (s.removeRecent g.serial).ringLaw := h
    exact ite_ringLaw (bind_ringLaw (keepOutgoing_ringLaw hr st) st _ _)
      (bindNewTagged_ringLaw (postCartridge_ringLaw hr _ _) st g)
  · exact bindNewTagged_ringLaw h st g

theorem bindUntagged_ringLaw {s : State} (h : s.ringLaw) (st : Stage) : (s.bindUntagged st).ringLaw := by
  unfold State.bindUntagged
  dsimp only
  split
  · exact postCartridge_ringLaw h _ _
  · exact bind_ringLaw (keepOutgoing_ringLaw h st) st _ _

theorem enterMismatch_ringLaw {s : State} (h : s.ringLaw) (st : Stage) (c : MismatchCause) :
    (s.enterMismatch st c).ringLaw :=
  ite_ringLaw (settle_ringLaw (setSlot_ringLaw h _ _))
    (settle_ringLaw (postCartridge_ringLaw (setSlot_ringLaw h _ _) _ _))

theorem judgeGood_ringLaw {s : State} (h : s.ringLaw) (st : Stage) (g : TagData) : (s.judgeGood st g).ringLaw := by
  have ht := setSlot_ringLaw h st { s.slot st with fails := 0, tag := some g }
  exact ite_ringLaw (enterMismatch_ringLaw ht _ _) (ite_ringLaw (enterMismatch_ringLaw ht _ _)
    (settle_ringLaw (bindTagged_ringLaw (setSlot_ringLaw ht _ _) st g)))

theorem postRemoved_ringLaw {s : State} (h : s.ringLaw) (st : Stage) : (s.postRemoved st).ringLaw :=
  postCartridge_ringLaw (setSlot_ringLaw h _ _) _ _

theorem goodRead_ringLaw {s : State} (h : s.ringLaw) (st : Stage) (g : TagData) : (s.goodRead st g).ringLaw := by
  unfold State.goodRead
  split
  case h_1 | h_2 | h_3 => exact judgeGood_ringLaw h st g
  case h_4 =>
    exact ite_ringLaw (setSlot_ringLaw h _ _)
      (judgeGood_ringLaw (settle_ringLaw (postRemoved_ringLaw (setSlot_ringLaw h _ _) st)) st g)
  all_goals exact h

theorem failedRead_ringLaw {s : State} (h : s.ringLaw) (st : Stage) : (s.failedRead st).ringLaw := by
  unfold State.failedRead
  dsimp only
  split
  · exact ite_ringLaw (settle_ringLaw (bindUntagged_ringLaw (setSlot_ringLaw (setSlot_ringLaw h _ _) _ _) st))
      (setSlot_ringLaw h _ _)
  · exact setSlot_ringLaw h _ _
  all_goals exact h

theorem tagReadEnd_ringLaw {s : State} (h : s.ringLaw) (st : Stage) (answer : Option RawTag) :
    (s.tagReadEnd st answer).ringLaw := by
  have hover := setSlot_ringLaw h st { s.slot st with reading := none }
  unfold State.tagReadEnd
  split
  · exact h
  · dsimp only
    split
    · exact goodRead_ringLaw hover st _
    · exact failedRead_ringLaw hover st

theorem slotOpened_ringLaw {s : State} (h : s.ringLaw) (st : Stage) : (s.slotOpened st).ringLaw := by
  unfold State.slotOpened
  dsimp only
  split
  case h_1 | h_2 | h_3 => exact settle_ringLaw (postRemoved_ringLaw (setSlot_ringLaw h _ _) st)
  all_goals exact setSlot_ringLaw h _ _

end Sys2Proof.Machine
end

-- The trend log through readings, the tank and its runs, and the CONFIG in force.
section
namespace Sys2Proof.Machine

/-! ### Readings (R2 to R9) -/

theorem postSensor_ringLaw {s : State} (h : s.ringLaw) (x : Sensor) (valid : Bool) : (s.postSensor x valid).ringLaw :=
  told_ringLaw h .sensor _

theorem particleFrame_ringLaw {s : State} (h : s.ringLaw) (r : Option Nat) : (s.particleFrame r).ringLaw := by
  cases r with
  | none => exact h
  | some n => exact ite_ringLaw h (ite_ringLaw (postSensor_ringLaw (setSfe_ringLaw h _) _ _) (setSfe_ringLaw h _))

theorem particleTimeout_ringLaw {s : State} (h : s.ringLaw) : s.particleTimeout.ringLaw :=
  expire_ringLaw h (fun _ hu => ite_ringLaw (setSfe_ringLaw hu _) (postSensor_ringLaw (setSfe_ringLaw hu _) _ _))

theorem gasTimeout_ringLaw {s : State} (h : s.ringLaw) : s.gasTimeout.ringLaw :=
  expire_ringLaw h (fun _ hu => ite_ringLaw (setSfe_ringLaw hu _) (postSensor_ringLaw (setSfe_ringLaw hu _) _ _))

theorem roomFailed_ringLaw {s : State} (h : s.ringLaw) : s.roomFailed.ringLaw :=
  ite_ringLaw (settle_ringLaw (ite_ringLaw (setSfe_ringLaw h _) (postSensor_ringLaw (setSfe_ringLaw h _) _ _)))
    (setSfe_ringLaw h _)

theorem roomGood_ringLaw {s : State} (h : s.ringLaw) (r : RoomRead) : (s.roomGood r).ringLaw :=
  settle_ringLaw (ite_ringLaw (postSensor_ringLaw (setSfe_ringLaw h _) _ _) (setSfe_ringLaw h _))

theorem gasGood_ringLaw {s : State} (h : s.ringLaw) (n : Nat) : (s.gasGood n).ringLaw :=
  ite_ringLaw (postSensor_ringLaw (setSfe_ringLaw h _) _ _) (setSfe_ringLaw h _)

theorem afterGas_ringLaw {s : State} (h : s.ringLaw) : s.afterGas.ringLaw := ringLaw_of_frame h (by simp)

theorem busFree_ringLaw {s : State} (h : s.ringLaw) : s.busFree.ringLaw := h

theorem busFailed_ringLaw {s : State} (h : s.ringLaw) : s.busFailed.ringLaw := by
  unfold State.busFailed
  split
  · exact h
  · exact afterGas_ringLaw h
  · exact roomFailed_ringLaw (busFree_ringLaw h)

theorem busSecond_ringLaw {s : State} (h : s.ringLaw) : s.busSecond.ringLaw := by
  unfold State.busSecond
  extract_lets t
  have ht : t.ringLaw := by
    unfold t
    split
    · exact roomFailed_ringLaw (busFree_ringLaw h)
    · exact h
  exact ht

theorem gasReadEnd_ringLaw {s : State} (h : s.ringLaw) (i : Option Nat) : (s.gasReadEnd i).ringLaw := by
  refine ite_ringLaw ?_ h
  cases i with
  | none => exact busFailed_ringLaw h
  | some n => exact afterGas_ringLaw (gasGood_ringLaw h n)

theorem roomReadEnd_ringLaw {s : State} (h : s.ringLaw) (r : Option RoomRead) : (s.roomReadEnd r).ringLaw := by
  refine ite_ringLaw ?_ h
  cases r with
  | none => exact busFailed_ringLaw h
  | some r => exact roomGood_ringLaw (busFree_ringLaw h) r

theorem coilReading_ringLaw {s : State} (h : s.ringLaw) (n : Int) : (s.coilReading n).ringLaw :=
  ringLaw_of_frame h (by simp)

theorem coilConversion_ringLaw {s : State} (h : s.ringLaw) (n : Int) : (s.coilConversion n).ringLaw :=
  ite_ringLaw
    (settle_ringLaw (coilReading_ringLaw (ite_ringLaw (postSensor_ringLaw (setSfe_ringLaw h _) _ _)
      (setSfe_ringLaw h _)) n))
    (ite_ringLaw (settle_ringLaw (ite_ringLaw (postSensor_ringLaw (setSfe_ringLaw h _) _ _) (setSfe_ringLaw h _)))
      (setSfe_ringLaw h _))

/-! ### The tank and its runs (R128 to R151) -/

theorem autoStart_ringLaw {s : State} (h : s.ringLaw) : s.autoStart.ringLaw := ringLaw_of_frame h (by simp)

theorem endRun_ringLaw {s : State} (h : s.ringLaw) (q : Sequence) (st : SeqStatus) (c : Condition) :
    (s.endRun q st c).ringLaw := by
  have ht := told_ringLaw (setCdc_ringLaw h { s.cdc with seq := some (q.ended st c), pump := false }) .pump
    (.pumpResult q.phase c)
  exact ite_ringLaw (autoStart_ringLaw ht) ht

theorem enterPhase_ringLaw {s : State} (h : s.ringLaw) (q : Sequence) (ph : Phase) : (s.enterPhase q ph).ringLaw :=
  ringLaw_of_frame h (by simp)

theorem postTank_ringLaw {s : State} (h : s.ringLaw) (v : TankValue) : (s.postTank v).ringLaw :=
  told_ringLaw h .tank _

theorem deriveFull_ringLaw {s : State} (h : s.ringLaw) (entry : Bool) : (s.deriveFull entry).ringLaw :=
  ite_ringLaw (postTank_ringLaw (setCdc_ringLaw h _) _) (setCdc_ringLaw h _)

theorem cdcTake_ringLaw {s : State} (h : s.ringLaw) : s.cdcTake.ringLaw :=
  autoStart_ringLaw (deriveFull_ringLaw h false)

theorem tankRemovedStop_ringLaw {s : State} (h : s.ringLaw) : s.tankRemovedStop.ringLaw :=
  onRecord_ringLaw h (fun q => ite_ringLaw (endRun_ringLaw h q _ _) h)

theorem tankOpened_ringLaw {s : State} (h : s.ringLaw) : s.tankOpened.ringLaw :=
  ite_ringLaw
    (settle_ringLaw (tankRemovedStop_ringLaw (postTank_ringLaw (deriveFull_ringLaw (setCdc_ringLaw h _) _) _)))
    (setCdc_ringLaw h _)

theorem tankSettled_ringLaw {s : State} (h : s.ringLaw) :
    ((((s.setCdc { s.cdc with presence := .present, settle := none }).postTank .present).deriveFull
      true).autoStart.settle).ringLaw :=
  settle_ringLaw (autoStart_ringLaw (deriveFull_ringLaw (postTank_ringLaw (setCdc_ringLaw h _) _) _))

theorem judgeTransfer_ringLaw {s : State} (h : s.ringLaw) (q : Sequence) (n : Nat) : (s.judgeTransfer q n).ringLaw :=
  ite_ringLaw (enterPhase_ringLaw h _ _) (ite_ringLaw (endRun_ringLaw h _ _ _)
    (ite_ringLaw (endRun_ringLaw h _ _ _) (setCdc_ringLaw h _)))

theorem sampleTransfer_ringLaw {s : State} (h : s.ringLaw) (q : Sequence) (n : Nat) : (s.sampleTransfer q n).ringLaw :=
  judgeTransfer_ringLaw (s := { s with free := q.freeAfter s.free }) h _ n

theorem samplePrime_ringLaw {s : State} (h : s.ringLaw) (q : Sequence) (n : Nat) : (s.samplePrime q n).ringLaw :=
  ringLaw_of_frame h (by simp)

theorem pumpSampleTaken_ringLaw {s : State} (h : s.ringLaw) : s.pumpSampleTaken.ringLaw := by
  unfold State.pumpSampleTaken
  split
  · exact h
  · next q0 _ =>
    have ht := setCdc_ringLaw h { s.cdc with seq := some { q0 with sample := some 0 } }
    dsimp only
    split
    · exact samplePrime_ringLaw ht _ _
    · exact sampleTransfer_ringLaw ht _ _
    · exact ite_ringLaw (endRun_ringLaw ht _ _ _) ht
    · exact ht

/-- The expiry of a timer of a run in a phase. -/
theorem runExpiry_ringLaw {s : State} (h : s.ringLaw) {t : Timer} {limit : Nat} {act : State → Sequence → State}
    (hact : ∀ u q, u.ringLaw → (act u q).ringLaw) :
    (s.expire t limit (fun u => match u.cdc.seq with
      | some q => act u q
      | none => u)).ringLaw :=
  expire_ringLaw h (fun u hu => onRecord_ringLaw hu (fun q => hact u q hu))

theorem levelPublished_ringLaw {s : State} (h : s.ringLaw) (b : Option Nat) : (s.levelPublished b).ringLaw :=
  ite_ringLaw h (settle_ringLaw (cdcTake_ringLaw h))

theorem probeConversion_ringLaw {s : State} (h : s.ringLaw) (n : Int) : (s.probeConversion n).ringLaw :=
  ite_ringLaw h (ite_ringLaw
    (levelPublished_ringLaw (ite_ringLaw (postSensor_ringLaw (setSfe_ringLaw h _) _ _) (setSfe_ringLaw h _)) _)
    (ite_ringLaw
      (levelPublished_ringLaw (ite_ringLaw (setSfe_ringLaw h _) (postSensor_ringLaw (setSfe_ringLaw h _) _ _)) _)
      (setSfe_ringLaw h _)))

/-! ### Accepted switch levels (R10, R11) -/

theorem floatTaken_ringLaw {s : State} (h : s.ringLaw) (f : MfFunction) (level changed : Bool) :
    (s.floatTaken f level changed).ringLaw := by
  have hfull : (s.floatFullChanged level).ringLaw := ringLaw_of_frame h (by simp)
  have hhigh : (s.floatHighChanged level).ringLaw := ringLaw_of_frame h (by simp)
  exact settle_ringLaw (cdcTake_ringLaw (ite_ringLaw h (ite_ringLaw hfull hhigh)))

theorem functionTaken_ringLaw {s : State} (h : s.ringLaw) (f : MfFunction) (level changed : Bool) :
    (s.functionTaken f level changed).ringLaw := by
  cases f with
  | floatHigh | floatFull => exact floatTaken_ringLaw h _ _ _
  | pumpFlow => exact ite_ringLaw (ringLaw_of_frame h (by simp)) h
  | powerFailWarn => exact ite_ringLaw (request_ringLaw h _) h
  | none | probe => exact h

theorem switchTaken_ringLaw {s : State} (h : s.ringLaw) (sw : Switch) (level changed : Bool) :
    (s.switchTaken sw level changed).ringLaw := by
  cases sw with
  | tanksw => exact ite_ringLaw h (ite_ringLaw (ringLaw_of_frame h (by simp)) (tankOpened_ringLaw h))
  | slot st => exact ite_ringLaw h (ite_ringLaw (ringLaw_of_frame h (by simp)) (slotOpened_ringLaw h st))
  | mf0 | mf1 | mf2 => exact functionTaken_ringLaw h _ _ _

/-! ### The CONFIG in force (R186) -/

theorem takeTerminals_ringLaw {s : State} (h : s.ringLaw) (old : Terminals) : (s.takeTerminals old).ringLaw := by
  unfold State.takeTerminals
  extract_lets new t u
  have hu : u.ringLaw := ite_ringLaw (postSensor_ringLaw (setSfe_ringLaw h _) _ _) (setSfe_ringLaw h _)
  exact ite_ringLaw hu (ringLaw_of_frame hu (by simp))

theorem regrouped_ringLaw {s : State} (h : s.ringLaw) (new : Settings) : (s.regrouped new).ringLaw := by
  unfold State.regrouped
  have ht : (s.withConfig new).ringLaw := h
  extract_lets old t u v w
  have hu : u.ringLaw := ite_ringLaw ht (takeRanks_ringLaw ht)
  have hv : v.ringLaw := ite_ringLaw hu (takeTerminals_ringLaw hu _)
  have hw : w.ringLaw := ite_ringLaw hv (cdcTake_ringLaw hv)
  exact ite_ringLaw hw (filterEvents_ringLaw hw s)

theorem applyConfig_ringLaw {s : State} (h : s.ringLaw) (new : Settings) : (s.applyConfig new).ringLaw := by
  by_cases hn : new = s.sst.settings
  · rw [hn, applyConfig_same]
    exact h
  · rw [applyConfig_changed hn]
    exact request_ringLaw (settle_ringLaw (regrouped_ringLaw h new)) _

end Sys2Proof.Machine
end

-- The trend log through commands, frames and links, the store's writes, resets and the start-up.
section
namespace Sys2Proof.Machine

/-! ### The readers' commands (R161 to R163) -/

/-- A cursor placed within the ring. -/
theorem placeCursor_ringLaw {s : State} (h : s.ringLaw) (p : Port) {c : BitVec 32}
    (hc : (s.tlg.nextSeq - c).toNat ≤ s.tlg.ring.length) : (s.placeCursor p c).ringLaw := by
  obtain ⟨-, -, hcursors⟩ := id h
  refine tlg_lawful_of_ring (t := (s.placeCursor p c).tlg) h rfl rfl (fun q => ?_)
  by_cases hq : q = p
  · subst hq
    simpa [State.placeCursor, Tlg.backlog, Reader.remark] using hc
  · simpa [State.placeCursor, Tlg.backlog, PerPort.get_set_other _ _ _ _ hq] using hcursors q

/-- A join set changes no cursor. -/
theorem setJoin_ringLaw {s : State} (h : s.ringLaw) (p : Port) (sample event : Bool) :
    (s.setJoin p sample event).ringLaw := by
  obtain ⟨-, -, hcursors⟩ := id h
  refine tlg_lawful_of_ring (t := (s.setJoin p sample event).tlg) h rfl rfl (fun q => ?_)
  by_cases hq : q = p
  · subst hq
    simpa [State.setJoin, Tlg.backlog] using hcursors q
  · simpa [State.setJoin, Tlg.backlog, PerPort.get_set_other _ _ _ _ hq] using hcursors q

/-- READ-LOG leaves no more records unexamined than it was given. -/
theorem examine_rest_le (r : Reader) (room : Nat) (l : List TrendRecord) : (examine r room l).2 ≤ l.length := by
  induction l generalizing room with
  | nil => exact Nat.le_refl 0
  | cons x xs ih =>
    unfold examine
    split
    · split
      · exact Nat.le_succ_of_le (ih _)
      · exact Nat.le_refl _
    · exact Nat.le_succ_of_le (ih _)

theorem unread_length_le (t : Tlg) (r : Reader) : (t.unread r).length ≤ t.ring.length := by
  rw [Tlg.unread, List.length_drop]
  exact Nat.sub_le _ _

theorem cmdReadLog_ringLaw {s : State} (h : s.ringLaw) (p : Port) (pl : List Byte) : (cmdReadLog s p pl).1.ringLaw := by
  obtain ⟨hlen, -, -⟩ := id h
  refine placeCursor_ringLaw h p ?_
  generalize hy : examine (s.tlg.readers.get p) Config.logRoom (s.tlg.unread (s.tlg.readers.get p)) = y
  have hleft : y.2 ≤ s.tlg.ring.length :=
    hy ▸ Nat.le_trans (examine_rest_le _ _ _) (unread_length_le _ _)
  rw [toNat_sub_ofNat _ _ (by omega)]
  exact hleft

theorem cmdSetCursor_ringLaw {s : State} (h : s.ringLaw) (p : Port) (pl : List Byte) :
    (cmdSetCursor s p pl).1.ringLaw := by
  unfold cmdSetCursor
  split
  · exact placeCursor_ringLaw h p (Nat.le_of_eq (startReader_backlog h))
  · exact placeCursor_ringLaw h p (by simp)
  · exact h

theorem cmdSetLogJoin_ringLaw {s : State} (h : s.ringLaw) (p : Port) (pl : List Byte) :
    (cmdSetLogJoin s p pl).1.ringLaw := by
  unfold cmdSetLogJoin
  split
  case h_4 => exact h
  all_goals exact setJoin_ringLaw h p _ _

/-! ### The other commands -/

theorem cmdResetFilter_ringLaw {s : State} (h : s.ringLaw) (p : Port) (pl : List Byte) :
    (cmdResetFilter s p pl).1.ringLaw := by
  unfold cmdResetFilter
  dsimp only
  repeat' split
  all_goals first | exact h | exact changeAccount_ringLaw h _ _

theorem cmdSetStage_ringLaw {s : State} (h : s.ringLaw) (p : Port) (pl : List Byte) :
    (cmdSetStage s p pl).1.ringLaw := by
  unfold cmdSetStage
  repeat' split
  all_goals first | exact h | exact changeAccount_ringLaw h _ _

theorem cmdForgetCartridge_ringLaw {s : State} (h : s.ringLaw) (p : Port) (pl : List Byte) :
    (cmdForgetCartridge s p pl).1.ringLaw := by
  unfold cmdForgetCartridge
  dsimp only
  split
  · exact h
  · split
    · exact h
    · next e _ => exact request_ringLaw (postCartridge_ringLaw (s := s.removeRecent _) h _ _) _

theorem cmdPutDemand_ringLaw {s : State} (h : s.ringLaw) (p : Port) (pl : List Byte) :
    (cmdPutDemand s p pl).1.ringLaw := by
  unfold cmdPutDemand
  repeat' split
  all_goals first | exact h | exact resolveTable_ringLaw h _

theorem cmdClearDemand_ringLaw {s : State} (h : s.ringLaw) (p : Port) (pl : List Byte) :
    (cmdClearDemand s p pl).1.ringLaw := by
  unfold cmdClearDemand
  dsimp only
  repeat' split
  all_goals first | exact h | exact resolveTable_ringLaw h _

theorem clearAll_ringLaw {s : State} (h : s.ringLaw) (p : Port) (c : ClearScope) : (s.clearAll p c).1.ringLaw := by
  unfold State.clearAll
  dsimp only
  split
  · exact h
  · exact resolveTable_ringLaw (reportDropped_ringLaw h _ _) _

theorem cmdClearAllDemands_ringLaw {s : State} (h : s.ringLaw) (p : Port) (pl : List Byte) :
    (cmdClearAllDemands s p pl).1.ringLaw := by
  unfold cmdClearAllDemands
  repeat' split
  all_goals first | exact h | exact clearAll_ringLaw h _ _

theorem cmdWriteConfig_ringLaw {s : State} (h : s.ringLaw) (p : Port) (pl : List Byte) :
    (cmdWriteConfig s p pl).1.ringLaw := by
  unfold cmdWriteConfig
  repeat' split
  all_goals first | exact h | exact applyConfig_ringLaw h _

theorem cmdClearLockout_ringLaw {s : State} (h : s.ringLaw) (p : Port) (pl : List Byte) :
    (cmdClearLockout s p pl).1.ringLaw := by
  unfold cmdClearLockout
  repeat' split
  all_goals first | exact h | exact clearLockoutNow_ringLaw h _

theorem cmdForceDefrost_ringLaw {s : State} (h : s.ringLaw) (p : Port) (pl : List Byte) :
    (cmdForceDefrost s p pl).1.ringLaw := by
  unfold cmdForceDefrost
  split
  · exact settle_ringLaw (enterDefrost_ringLaw h _)
  · exact h

theorem pumpOutNew_ringLaw {s : State} (h : s.ringLaw) (p : Port) (max : Option Nat) :
    (s.pumpOutNew p max).1.ringLaw := by
  unfold State.pumpOutNew
  dsimp only
  repeat' split
  all_goals first | exact h | exact endRun_ringLaw h _ _ _

theorem pumpOutResume_ringLaw {s : State} (h : s.ringLaw) : s.pumpOutResume.1.ringLaw := by
  unfold State.pumpOutResume
  repeat' split
  all_goals exact h

theorem cmdPumpOut_ringLaw {s : State} (h : s.ringLaw) (p : Port) (pl : List Byte) : (cmdPumpOut s p pl).1.ringLaw := by
  unfold cmdPumpOut
  repeat' split
  all_goals first | exact h | exact pumpOutNew_ringLaw h _ _ | exact pumpOutResume_ringLaw h

theorem cmdPumpAbort_ringLaw {s : State} (h : s.ringLaw) (p : Port) (pl : List Byte) :
    (cmdPumpAbort s p pl).1.ringLaw := by
  unfold cmdPumpAbort
  repeat' split
  all_goals first | exact h | exact endRun_ringLaw h _ _ _

theorem handle_ringLaw {s : State} (h : s.ringLaw) (c : Command) (p : Port) (pl : List Byte) :
    (handle c s p pl).1.ringLaw := by
  cases c with
  | readLog => exact cmdReadLog_ringLaw h p pl
  | setCursor => exact cmdSetCursor_ringLaw h p pl
  | setLogJoin => exact cmdSetLogJoin_ringLaw h p pl
  | resetFilter => exact cmdResetFilter_ringLaw h p pl
  | setStage => exact cmdSetStage_ringLaw h p pl
  | forgetCartridge => exact cmdForgetCartridge_ringLaw h p pl
  | putDemand => exact cmdPutDemand_ringLaw h p pl
  | clearDemand => exact cmdClearDemand_ringLaw h p pl
  | clearAllDemands => exact cmdClearAllDemands_ringLaw h p pl
  | writeConfig => exact cmdWriteConfig_ringLaw h p pl
  | clearLockout => exact cmdClearLockout_ringLaw h p pl
  | forceDefrost => exact cmdForceDefrost_ringLaw h p pl
  | pumpOut => exact cmdPumpOut_ringLaw h p pl
  | pumpAbort => exact cmdPumpAbort_ringLaw h p pl
  | readSensors | readPlan | readDemands | readDrying | readEvents | setEventMask | restart => exact h
  | readAirflow | readFilters | readCartridges | readTank | readConfig | loadCurve | selectCurve =>
    simp only [handle, cmdReadAirflow, cmdReadFilters, cmdReadCartridges, cmdReadTank, cmdReadConfig, cmdLoadCurve,
      cmdSelectCurve]
    repeat' split
    all_goals exact h

/-! ### Frames and links -/

theorem judge_ringLaw {s : State} (h : s.ringLaw) (p : Port) (f : Frame) : (judge s p f).1.ringLaw := by
  unfold judge judgeKnown
  repeat' split
  all_goals first | exact h | exact handle_ringLaw h _ _ _

theorem takeFrame_ringLaw {s : State} (h : s.ringLaw) (p : Port) (f : Frame) : (s.takeFrame p f).ringLaw :=
  ringLaw_of_frame (judge_ringLaw h p f) (by simp [State.takeFrame])

theorem setRx_ringLaw {s : State} (h : s.ringLaw) (p : Port) (rx : Option (List Byte)) : (s.setRx p rx).ringLaw := h

theorem setOut_ringLaw {s : State} (h : s.ringLaw) (p : Port) (bytes : List Byte) : (s.setOut p bytes).ringLaw := h

theorem linkFrame_ringLaw {s : State} (h : s.ringLaw) (f : Frame) : (s.linkFrame f).ringLaw := by
  unfold State.linkFrame
  refine ite_ringLaw ?_ (takeFrame_ringLaw h _ _)
  split
  · exact setPrt_ringLaw h _
  · exact h

theorem receive_ringLaw {s : State} (h : s.ringLaw) (p : Port) (f : Frame) : (s.receive p f).ringLaw := by
  have hrx := setRx_ringLaw h p none
  refine ite_ringLaw h ?_
  cases p with
  | panel => exact setOut_ringLaw (takeFrame_ringLaw hrx _ _) _ _
  | link => exact linkFrame_ringLaw hrx f
  | service => exact ite_ringLaw hrx (takeFrame_ringLaw hrx _ _)

theorem linkReceive_ringLaw {s : State} (h : s.ringLaw) (b : Byte) : (s.linkReceive b).ringLaw := by
  unfold State.linkReceive
  split
  · exact h
  · exact setRx_ringLaw h _ _
  · exact setRx_ringLaw h _ _
  · exact receive_ringLaw h _ _

theorem panelReceive_ringLaw {s : State} (h : s.ringLaw) (bytes : List Byte) : (s.panelReceive bytes).ringLaw := by
  unfold State.panelReceive
  dsimp only
  repeat' split
  all_goals exact h

theorem receiveBytes_ringLaw {s : State} (h : s.ringLaw) (p : Port) (bytes : List Byte) :
    (s.receiveBytes p bytes).ringLaw := by
  refine ite_ringLaw ?_ h
  cases p with
  | link => exact List.foldlRecOn bytes State.linkReceive h (fun _ hu b _ => linkReceive_ringLaw hu b)
  | panel => exact panelReceive_ringLaw h bytes
  | service => exact setRx_ringLaw h _ _

theorem linkTransmitEnd_ringLaw {s : State} (h : s.ringLaw) : s.linkTransmitEnd.ringLaw := by
  unfold State.linkTransmitEnd
  refine ite_ringLaw ?_ h
  dsimp only
  split
  · exact takeFrame_ringLaw (setPrt_ringLaw h _) _ _
  · exact setPrt_ringLaw h _

theorem handOver_ringLaw {s : State} (h : s.ringLaw) : s.handOver.ringLaw := h

theorem serviceRead_ringLaw {s : State} (h : s.ringLaw) (n : Nat) (early : Bool) : (s.serviceRead n early).ringLaw := by
  have hread : (s.readPort .service n early).ringLaw := ringLaw_of_frame h (by simp)
  exact ite_ringLaw (ite_ringLaw (handOver_ringLaw hread) hread) h

/-! ### Writes that end and writes cut off (R183, R189) -/

theorem postStore_ringLaw {s : State} (h : s.ringLaw) (r : Region) (v : StoreValue) : (s.postStore r v).ringLaw :=
  told_ringLaw h .store _

theorem postStoreAll_ringLaw {s : State} (h : s.ringLaw) (rs : RegionSet) (v : StoreValue) :
    (s.postStoreAll rs v).ringLaw := by
  have one {c : Bool} {t : State} (ht : t.ringLaw) (r : Region) : (if c then t.postStore r v else t).ringLaw :=
    ite_ringLaw (postStore_ringLaw ht r v) ht
  exact one (one (one (one h _) _) _) _

theorem nextWrite_ringLaw {s : State} (h : s.ringLaw) : s.nextWrite.ringLaw := ringLaw_of_frame h (by simp)

theorem storeWriteEnd_ringLaw {s : State} (h : s.ringLaw) (failed : RegionSet) : (s.storeWriteEnd failed).ringLaw := by
  unfold State.storeWriteEnd
  split
  · exact h
  · exact nextWrite_ringLaw (postStoreAll_ringLaw (setFau_ringLaw (setSst_ringLaw (setStore_ringLaw h _) _) _) _ _)

theorem cutOff_ringLaw {s : State} (h : s.ringLaw) (o : CutOff) : (s.cutOff o).ringLaw := by
  unfold State.cutOff
  split
  · exact postStoreAll_ringLaw (setStore_ringLaw h _) _ _
  · exact h

/-! ### Resets and the start-up (R164, R190, R191) -/

theorem kept_lawful {t : Tlg} (h : t.lawful) : t.kept.lawful := tlg_lawful_of_startReaders h rfl rfl rfl

theorem beginRead_ringLaw {s : State} (h : s.ringLaw) : s.beginRead.ringLaw := ringLaw_of_frame h (by simp)

theorem powerOn_ringLaw {s : State} (h : s.ringLaw) : s.powerOn.ringLaw := by
  refine ite_ringLaw h (beginRead_ringLaw ?_)
  exact tlg_idle_lawful

theorem powerLoss_ringLaw {s : State} (h : s.ringLaw) (o : CutOff) : (s.powerLoss o).ringLaw := by
  refine ite_ringLaw ?_ h
  exact tlg_idle_lawful

theorem resetnAssert_ringLaw {s : State} (h : s.ringLaw) (o : CutOff) : (s.resetnAssert o).ringLaw := by
  refine ite_ringLaw h (ite_ringLaw ?_ h)
  exact kept_lawful (cutOff_ringLaw h o)

theorem resetnRelease_ringLaw {s : State} (h : s.ringLaw) : s.resetnRelease.ringLaw :=
  ite_ringLaw (beginRead_ringLaw (s := { s with resetnLow := false }) h) h

theorem warmReset_ringLaw {s : State} (h : s.ringLaw) : s.warmReset.ringLaw := by
  refine ite_ringLaw (beginRead_ringLaw ?_) h
  exact kept_lawful h

/-- The RESTART record is written, and the readers start at the oldest (R164). -/
theorem startLog_ringLaw {s : State} (h : s.ringLaw) : s.startLog.ringLaw :=
  tlg_lawful_of_startReaders (t := s.startLog.tlg) (written_lawful h (.event (.restart s.kind))) rfl rfl rfl

theorem postRestored_ringLaw {s : State} (h : s.ringLaw) (r : Option StoredReason) : (s.postRestored r).ringLaw := by
  cases r with
  | none => exact h
  | some x => exact told_ringLaw h .lockout _

theorem startBlocks_ringLaw {s : State} (h : s.ringLaw) (l : Loaded) : (s.startBlocks l).ringLaw := h

theorem startUp_ringLaw {s : State} (h : s.ringLaw) (bad : RegionSet) : (s.startUp bad).ringLaw := by
  unfold State.startUp
  dsimp only
  exact settle_ringLaw (requestSome_ringLaw (postStoreAll_ringLaw (requestSome_ringLaw (postRestored_ringLaw
    (startLog_ringLaw (startBlocks_ringLaw (setSst_ringLaw h _) _)) _) _) _ _) _)

theorem storeReadEnd_ringLaw {s : State} (h : s.ringLaw) (failed : RegionSet) : (s.storeReadEnd failed).ringLaw :=
  ite_ringLaw (startUp_ringLaw h _) h

theorem regionUnread_ringLaw {s : State} (h : s.ringLaw) (r : Region) : (s.regionUnread r).ringLaw :=
  ite_ringLaw (storeReadEnd_ringLaw (setSst_ringLaw h _) _) (setSst_ringLaw h _)

theorem regionReadTimeout_ringLaw {s : State} (h : s.ringLaw) (r : Region) : (s.regionReadTimeout r).ringLaw :=
  ite_ringLaw (expire_ringLaw h (fun _ hu => regionUnread_ringLaw hu r)) h

/-! ### The minute timer (R155) -/

theorem minute_ringLaw {s : State} (h : s.ringLaw) : s.minute.ringLaw :=
  write_ringLaw (s := s.setTlg { s.tlg with minute := some 0, uptime := s.tlg.uptime + 1 }) h _

end Sys2Proof.Machine
end

section
namespace Sys2Proof.Machine

/-! ### Every command keeps the law -/

/-- Events and the minute timer write records, the readers' commands and the start-up place cursors, and resets empty
the log or keep its records; every other command leaves the log as it was. -/
theorem exec_ringLaw {s : State} (h : s.ringLaw) (i : Instr) : ∃ t, exec i s = .next t ∧ t.ringLaw := by
  have timer {t : Timer} {limit : Nat} {act : State → State} (hact : ∀ u, (act u).tlg = u.tlg) :
      (s.expire t limit act).ringLaw := expire_ringLaw h (fun u hu => ringLaw_of_frame hu (hact u))
  have settled {t : Timer} {limit : Nat} {act : State → State} (hact : ∀ u, (act u).tlg = u.tlg) :
      (s.expire t limit (fun u => (act u).settle)).ringLaw :=
    expire_ringLaw h (fun u hu => settled_ringLaw hu (hact u))
  cases i with
  -- supply, resets and store
  | powerOn => exact ⟨_, rfl, powerOn_ringLaw h⟩
  | powerLoss o => exact ⟨_, rfl, powerLoss_ringLaw h o⟩
  | resetnAssert o => exact ⟨_, rfl, resetnAssert_ringLaw h o⟩
  | resetnRelease => exact ⟨_, rfl, resetnRelease_ringLaw h⟩
  | regionReadTimeout r => exact ⟨_, rfl, regionReadTimeout_ringLaw h r⟩
  | storeReadEnd failed => exact ⟨_, rfl, storeReadEnd_ringLaw h failed⟩
  | storeWriteEnd failed => exact ⟨_, rfl, storeWriteEnd_ringLaw h failed⟩
  | warmReset => exact ⟨_, rfl, warmReset_ringLaw h⟩
  | restartHandoverTimeout => exact ⟨_, rfl, expire_ringLaw h (fun _ => handOver_ringLaw)⟩
  -- cartridges and accounts
  | tagReadEnd st answer => exact ⟨_, rfl, whenUp_ringLaw h (tagReadEnd_ringLaw h st answer)⟩
  | tagReadAbandon st =>
    exact ⟨_, rfl, whenUp_ringLaw h (expire_ringLaw h (fun _ hu => failedRead_ringLaw (setSlot_ringLaw hu _ _) st))⟩
  | tagReadTime st => exact ⟨_, rfl, whenUp_ringLaw h (timer (by simp))⟩
  | slotSettleEnd st => exact ⟨_, rfl, whenUp_ringLaw h (ite_ringLaw (timer (by simp)) h)⟩
  | switchChangeAccepted sw =>
    exact ⟨_, rfl, whenUp_ringLaw h (expire_ringLaw h (fun _ hu =>
      switchTaken_ringLaw (setSfe_ringLaw hu _) _ _ _))⟩
  | accountingTick => exact ⟨_, rfl, whenUp_ringLaw h (ite_ringLaw (expire_ringLaw h (fun _ => tick_ringLaw)) h)⟩
  -- readings, conversions, edges and pulses
  | particleFrame r => exact ⟨_, rfl, whenUp_ringLaw h (particleFrame_ringLaw h r)⟩
  | gasReadEnd i => exact ⟨_, rfl, whenUp_ringLaw h (gasReadEnd_ringLaw h i)⟩
  | roomReadEnd r => exact ⟨_, rfl, whenUp_ringLaw h (roomReadEnd_ringLaw h r)⟩
  | coilConversion n => exact ⟨_, rfl, whenUp_ringLaw h (coilConversion_ringLaw h n)⟩
  | probeConversion n => exact ⟨_, rfl, whenUp_ringLaw h (probeConversion_ringLaw h n)⟩
  | fantachPulse => exact ⟨_, rfl, whenUp_ringLaw h (ringLaw_of_frame h (by simp))⟩
  | switchInputEdge sw b => exact ⟨_, rfl, ringLaw_of_frame h (by simp)⟩
  -- timers of the sensor front end, the demands, the fan and the log
  | particleTimeout => exact ⟨_, rfl, whenUp_ringLaw h (particleTimeout_ringLaw h)⟩
  | gasTimeout => exact ⟨_, rfl, whenUp_ringLaw h (gasTimeout_ringLaw h)⟩
  | privateBusSecond => exact ⟨_, rfl, whenUp_ringLaw h (expire_ringLaw h (fun _ => busSecond_ringLaw))⟩
  | busTransactionTimeout => exact ⟨_, rfl, whenUp_ringLaw h (expire_ringLaw h (fun _ => busFailed_ringLaw))⟩
  | darSecondTimer => exact ⟨_, rfl, whenUp_ringLaw h (expire_ringLaw h (fun _ => darSecond_ringLaw))⟩
  | regulationBoundary => exact ⟨_, rfl, whenUp_ringLaw h (expire_ringLaw h (fun _ => boundary_ringLaw))⟩
  | stallOffTimer => exact ⟨_, rfl, whenUp_ringLaw h (settled (by simp))⟩
  | particleWarmupEnd | fanSpeedWindowEnd => exact ⟨_, rfl, whenUp_ringLaw h (timer (by simp))⟩
  | minuteTimer => exact ⟨_, rfl, whenUp_ringLaw h (expire_ringLaw h (fun _ => minute_ringLaw))⟩
  -- timers of the drying controller
  | offTimerPassed => exact ⟨_, rfl, whenUp_ringLaw h (offTimerPassed_ringLaw h)⟩
  | pulldownCheckExpiry =>
    exact ⟨_, rfl, whenUp_ringLaw h (ite_ringLaw (expire_ringLaw h (fun _ => pulldownFailed_ringLaw)) h)⟩
  | frostDetected =>
    exact ⟨_, rfl, whenUp_ringLaw h (ite_ringLaw (expire_ringLaw h (fun _ hu =>
      settle_ringLaw (enterDefrost_ringLaw hu _))) h)⟩
  | defrostSuccess =>
    exact ⟨_, rfl, whenUp_ringLaw h (ite_ringLaw (expire_ringLaw h (fun _ => defrostSucceeded_ringLaw)) h)⟩
  | defrostTimeout =>
    exact ⟨_, rfl, whenUp_ringLaw h (ite_ringLaw (expire_ringLaw h (fun _ => defrostTimedOut_ringLaw)) h)⟩
  | minimumRunEnd | postRunEnd => exact ⟨_, rfl, whenUp_ringLaw h (ite_ringLaw (settled (by simp)) h)⟩
  -- timers of the tank and of a run
  | tankSettleEnd =>
    exact ⟨_, rfl, whenUp_ringLaw h (ite_ringLaw (expire_ringLaw h (fun _ => tankSettled_ringLaw)) h)⟩
  | fullReleaseTimer =>
    exact ⟨_, rfl, whenUp_ringLaw h (ite_ringLaw h (expire_ringLaw h (fun _ hu =>
      settle_ringLaw (cdcTake_ringLaw (setCdc_ringLaw hu _)))))⟩
  | pumpSample =>
    exact ⟨_, rfl, whenUp_ringLaw h (onRecord_ringLaw h (fun _ =>
      ite_ringLaw (expire_ringLaw h (fun _ => pumpSampleTaken_ringLaw)) h))⟩
  | flowTimerPass | highReleaseEnd =>
    exact ⟨_, rfl, whenUp_ringLaw h (onRecord_ringLaw h (fun _ =>
      runExpiry_ringLaw h (fun _ _ hu => enterPhase_ringLaw hu _ _)))⟩
  | transferTimeout =>
    exact ⟨_, rfl, whenUp_ringLaw h (onRecord_ringLaw h (fun _ =>
      runExpiry_ringLaw h (fun _ _ hu => endRun_ringLaw hu _ _ _)))⟩
  | verifyEnd =>
    exact ⟨_, rfl, whenUp_ringLaw h (onRecord_ringLaw h (fun _ =>
      runExpiry_ringLaw h (fun _ _ hu => ite_ringLaw (endRun_ringLaw hu _ _ _) (endRun_ringLaw hu _ _ _))))⟩
  | primeTimeout =>
    exact ⟨_, rfl, whenUp_ringLaw h (onRecord_ringLaw h (fun _ =>
      ite_ringLaw h (runExpiry_ringLaw h (fun _ _ hu => endRun_ringLaw hu _ _ _))))⟩
  | primeFloatsTimePass =>
    exact ⟨_, rfl, whenUp_ringLaw h (onRecord_ringLaw h (fun _ =>
      ite_ringLaw (runExpiry_ringLaw h (fun _ _ hu => enterPhase_ringLaw hu _ _)) h))⟩
  -- frames and links
  | readSensors p tag pl | putDemand p tag pl | clearDemand p tag pl | clearAllDemands p tag pl | readPlan p tag pl
  | readDemands p tag pl | loadCurve p tag pl | selectCurve p tag pl | readAirflow p tag pl | readFilters p tag pl
  | resetFilter p tag pl | setStage p tag pl | forgetCartridge p tag pl | readCartridges p tag pl
  | forceDefrost p tag pl | clearLockout p tag pl | readDrying p tag pl | pumpOutNew p tag pl | pumpOutResume p tag pl
  | pumpAbort p tag pl | readTank p tag pl | readLog p tag pl | setCursor p tag pl | setLogJoin p tag pl
  | readEvents p tag pl | setEventMask p tag pl | writeConfig p tag pl | readConfig p tag pl | restart p tag pl
  | badFrame p tag =>
    exact ⟨_, rfl, receive_ringLaw h p _⟩
  | unknownCommand p code tag pl => exact ⟨_, rfl, ite_ringLaw h (receive_ringLaw h p _)⟩
  | frameDiscard p =>
    refine ⟨_, rfl, ite_ringLaw h ?_⟩
    cases p <;> exact h
  | linkGapTimeout => exact ⟨_, rfl, ite_ringLaw (timer (by simp)) h⟩
  | linkTransmitEnd => exact ⟨_, rfl, linkTransmitEnd_ringLaw h⟩
  | commandReceptionStart r => exact ⟨_, rfl, receiveBytes_ringLaw h _ _⟩
  | panelFetchWindow n early => exact ⟨_, rfl, ite_ringLaw (ringLaw_of_frame h (by simp)) h⟩
  | serviceReadTransaction n early => exact ⟨_, rfl, serviceRead_ringLaw h n early⟩

theorem step_ringLaw {s t : State} (h : s.ringLaw) (hs : step s = .next t) : t.ringLaw := by
  have exec_keeps {s : State} (h : s.ringLaw) {i : Instr} (hi : exec i s = .next t) : t.ringLaw := by
    obtain ⟨u, hu, hlaw⟩ := exec_ringLaw h i
    obtain rfl := Host.Outcome.next.inj (hu.symm.trans hi)
    exact hlaw
  unfold step at hs
  split at hs
  · next c rest _ => exact exec_keeps (s := { s with pending := rest }) h hs
  · unfold stepIdle at hs
    split at hs
    · exact exec_keeps h hs
    · obtain rfl := Host.Outcome.next.inj hs
      exact advance_ringLaw h 1

/-- Settles O57: a write keeps the order of the ring and moves each cursor that it passes, the readers' commands and the
start-up place cursors within the ring, and resets empty the log or start its readers at the oldest record. -/
theorem trendLogStaysInOrder : Obligations.TrendLogStaysInOrder :=
  fun _ _ h hs => step_ringLaw h hs

end Sys2Proof.Machine
end

-- READ-LOG, SET-CURSOR and SET-LOG-JOIN, as their rows answer, and the bytes of the records they return.
section
namespace Sys2Proof.Machine

/-! ### A record's bytes (Table 9-14) -/

@[simp] theorem event_code_eq (e : Event) : eventPlace e = e.code := by cases e <;> rfl

theorem filterValueCode_eq (v : StageState) : filterValueCode v =
    if v = .absent then none else some ([StageState.fresh, .serviceable, .worn, .exhausted].idxOf v) := by
  cases v <;> rfl

theorem dropCause_idxOf (c : DropCause) : [DropCause.serviceClear, .rankOff].idxOf c = c.code := by
  cases c <;> rfl

theorem refOr_some (r : DemandRef) : refOr (some r) = r.code := refOr_eq (some r)

/-- The subject and the value of an event, by their places in the tables' lists. -/
theorem event_fields (e : Event) : e.fields = (e.subject, e.value) := by
  cases e with
  | demandExpired r => simp only [Event.fields, Event.subject, Event.value, refOr_some]
  | demandDropped r c => simp only [Event.fields, Event.subject, Event.value, refOr_some, dropCause_idxOf]
  | filterState st v => simp only [Event.fields, Event.subject, Event.value, stagePlace_eq_code, filterValueCode_eq]
  | cartridge st v =>
    refine Prod.ext (congrArg some (stagePlace_eq_code st)) ?_
    cases v with
    | mismatch c => cases c <;> rfl
    | _ => rfl
  | pumpResult ph v => simp only [Event.fields, Event.subject, Event.value, map_phasePlace, condition_idxOf]
  | lockout r => simp only [Event.fields, Event.subject, Event.value, lockReason_idxOf]
  | lockoutCleared r => simp only [Event.fields, Event.subject, Event.value, lockReason_idxOf]
  | tank v => cases v <;> rfl
  | defrost v => cases v <;> rfl
  | fan v => cases v <;> rfl
  | sensor x valid => cases x <;> rfl
  | curve n => cases n <;> rfl
  | store r v => cases r <;> cases v <;> rfl
  | restart k => cases k <;> rfl

/-- The two events that name a serial end with it. -/
def Event.tailLayout : Event → List (Nat × Nat)
  | .cartridge _ (.evicted n) => [(4, n.toNat)]
  | .cartridge _ (.forgotten n) => [(4, n.toNat)]
  | _ => []

theorem event_tail (e : Event) : e.tail = spell e.tailLayout := by
  cases e with
  | cartridge st v => cases v <;> rfl
  | _ => rfl

theorem layout_event (n m : BitVec 32) (e : Event) : TrendRecord.layout ⟨n, m, .event e⟩ =
    [(1, e.code), (4, n.toNat), (4, m.toNat), (1, byteOr e.subject), (1, byteOr e.value)] ++ e.tailLayout := by
  simp only [← event_code_eq, show e.subject = e.fields.1 by rw [event_fields],
    show e.value = e.fields.2 by rw [event_fields]]
  rfl

theorem encRecord_spell (x : TrendRecord) : encRecord x = spell x.layout := by
  obtain ⟨n, m, body⟩ := x
  cases body with
  | sample y =>
    simp only [encRecord, TrendRecord.layout, encSample, Sample.marks, enc1_le, enc2, enc4, encOpt2_le, encTenths_le,
      dryPlace_eq_code]
    simp only [spell_cons, spell_nil, List.append_nil, List.append_assoc]
    rfl
  | event e =>
    rw [layout_event]
    simp only [encRecord, enc1_le, enc4, encOpt1_le, event_tail, spell_append, spell_cons, spell_nil, List.append_nil,
      List.append_assoc]

/-! ### The readers' commands (R161 to R163) -/

theorem setTlg_onlyAnswers {u s : State} {p : Port} (h : u.onlyAnswers s p) (x : Tlg) :
    (u.setTlg x).onlyAnswers (s.setTlg x) p := by
  obtain ⟨hparts, hports⟩ := h
  refine ⟨fun b hb => ?_, hports⟩
  have hsame := hparts b hb
  cases b <;> first | rfl | exact hsame

theorem raise_onlyAnswers {u s : State} {p : Port} (h : u.onlyAnswers s p) (bits : Port → BitVec 16) :
    (u.raise bits).onlyAnswers (s.raise bits) p := by
  obtain ⟨hparts, hheld, hclosed, hover, hlink, hports⟩ := h
  refine ⟨fun b hb => ?_, hheld, hclosed, hover, hlink, fun q => ?_⟩
  · have hsame := hparts b hb
    cases b <;> first | exact hsame | simp at hb
  · obtain ⟨hflags, hmask, hother⟩ := hports q
    simp only [State.port] at hflags hmask hother
    refine ⟨?_, ?_, fun hq => ?_⟩ <;> simp only [State.port, State.raise, PerPort.get_map, PortIf.raise]
    · rw [hflags]
    · exact hmask
    · rw [hother hq]

/-- A cursor placed where a port has heard a frame is the cursor placed before. -/
theorem placeCursor_onlyAnswers {u s : State} {p : Port} (h : u.onlyAnswers s p) (q : Port) (c : BitVec 32) :
    (u.placeCursor q c).onlyAnswers (s.placeCursor q c) p := by
  have ht : u.tlg = s.tlg := h.1 .tlg rfl
  unfold State.placeCursor
  rw [ht]
  exact raise_onlyAnswers (setTlg_onlyAnswers h _) _

/-- What READ-LOG and SET-CURSOR answer of the cursor and the backlog. -/
theorem cursorPart_placeCursor (s : State) (p : Port) (c : BitVec 32) :
    (s.placeCursor p c).cursorPart p = enc4 c.toNat ++ enc2 (s.tlg.nextSeq - c).toNat := by
  simp [State.cursorPart, State.placeCursor, Reader.remark, Tlg.backlog]

/-- READ-LOG examines the first `k` records, takes the joined ones among them, which fit, and stops at the end or at a
joined one that no longer fits (R161). -/
theorem examine_spec (r : Reader) (room : Nat) (l : List TrendRecord) : ∃ k ≤ l.length,
    examine r room l = ((l.take k).filter r.joins, l.length - k) ∧
    (((l.take k).filter r.joins).flatMap encRecord).length ≤ room ∧
    (k = l.length ∨ ∃ x, l[k]? = some x ∧ r.joins x = true ∧
      room < (((l.take k).filter r.joins).flatMap encRecord).length + (encRecord x).length) := by
  induction l generalizing room with
  | nil => exact ⟨0, Nat.le_refl 0, rfl, Nat.zero_le _, .inl rfl⟩
  | cons x xs ih =>
    unfold examine
    by_cases hj : r.joins x = true
    · by_cases hfit : (encRecord x).length ≤ room
      · obtain ⟨k, hk, heq, hroom, hstop⟩ := ih (room - (encRecord x).length)
        refine ⟨k + 1, by simpa using hk, by simp [hj, hfit, heq], ?_, ?_⟩
        · simp only [List.take_succ_cons, List.filter_cons_of_pos hj, List.flatMap_cons, List.length_append]
          omega
        · refine hstop.imp (fun h => by simp [h]) (fun ⟨y, hy, hyj, hover⟩ => ⟨y, by simpa using hy, hyj, ?_⟩)
          simp only [List.take_succ_cons, List.filter_cons_of_pos hj, List.flatMap_cons, List.length_append]
          omega
      · refine ⟨0, Nat.zero_le _, by simp [hj, hfit], Nat.zero_le _, .inr ⟨x, rfl, hj, ?_⟩⟩
        simpa using hfit
    · obtain ⟨k, hk, heq, hroom, hstop⟩ := ih room
      refine ⟨k + 1, by simpa using hk, by simp [hj, heq], ?_, ?_⟩
      · simpa [List.filter_cons_of_neg hj] using hroom
      · simpa [List.filter_cons_of_neg hj] using hstop

/-- An argument of one byte. -/
theorem arg1_single (b : Byte) : arg1 [b] 0 = b.toNat := rfl

theorem cmdSetCursor_beyond (s : State) (p : Port) {b : Byte} (hb : 2 ≤ b.toNat) :
    cmdSetCursor s p [b] = (s, ⟨.badArg, []⟩) := by
  unfold cmdSetCursor
  rw [arg1_single]
  split <;> first | omega | rfl

theorem cmdSetLogJoin_named (s : State) (p : Port) {b : Byte} (h1 : 1 ≤ b.toNat) (h3 : b.toNat ≤ 3) :
    cmdSetLogJoin s p [b] = (s.setJoin p (b.toNat.testBit 0) (b.toNat.testBit 1), ⟨.ok, [b]⟩) := by
  have hb : b = BitVec.ofNat 8 b.toNat := by simp
  unfold cmdSetLogJoin
  rw [arg1_single]
  generalize b.toNat = n at hb h1 h3
  subst hb
  obtain rfl | rfl | rfl : n = 1 ∨ n = 2 ∨ n = 3 := by omega
  all_goals rfl

theorem cmdSetLogJoin_unnamed (s : State) (p : Port) {b : Byte} (hb : b.toNat = 0 ∨ 3 < b.toNat) :
    cmdSetLogJoin s p [b] = (s, ⟨.badArg, []⟩) := by
  unfold cmdSetLogJoin
  rw [arg1_single]
  split <;> first | omega | rfl

/-- The marks that a placed cursor crosses, in the numbers of the flag bits (Table 9-3). -/
theorem crossed_eq (r : Reader) (b : Nat) : r.crossed b =
    (if r.m64 = false ∧ 64 ≤ b then 0x0400#16 else 0) ||| (if r.m128 = false ∧ 128 ≤ b then 0x0800#16 else 0) |||
      (if r.m192 = false ∧ 192 ≤ b then 0x1000#16 else 0) := by
  simp only [Reader.crossed, Bool.and_eq_true, Bool.not_eq_true', decide_eq_true_eq]
  rfl

/-- Settles O47: READ-LOG is `examine_spec` run from the port's cursor, and each placed cursor changes its own reader
and flags alone. -/
theorem logReadersMoveTheirCursors : Obligations.LogReadersMoveTheirCursors := by
  unfold Obligations.LogReadersMoveTheirCursors
  intro s p tag ht r placed place unread
  have hplaced (c : BitVec 32) : placed c = s.placeCursor p c := by
    simp only [placed, State.placeCursor, crossed_eq]
    rfl
  have hheard (c : BitVec 32) : ((s.heard p).placeCursor p c).onlyAnswers (placed c) p := by
    rw [hplaced]
    exact placeCursor_onlyAnswers (heard_onlyAnswers s p) p c
  have hpart (c : BitVec 32) : ((s.heard p).placeCursor p c).cursorPart p = place c := cursorPart_placeCursor _ p c
  refine ⟨?_, ?_, ?_, fun b hb => ?_⟩
  · obtain ⟨k, hk, hexam, hroom, hstop⟩ := examine_spec r 42 unread
    have hcmd : handle .readLog (s.heard p) p [] = ((s.heard p).placeCursor p
        (s.tlg.nextSeq - BitVec.ofNat 32 (unread.length - k)),
        ⟨.ok, ((unread.take k).filter r.joins).flatMap encRecord ++
          place (s.tlg.nextSeq - BitVec.ofNat 32 (unread.length - k))⟩) := by
      obtain ⟨hgot, hleft⟩ := Prod.mk.inj hexam
      rw [← hgot, ← hleft, ← hpart]
      rfl
    obtain ⟨t, hrow, hans, honly⟩ := exec_handled (i := .readLog p tag []) ht rfl rfl rfl hcmd
    simp only [← encRecord_spell]
    exact ⟨t, k, hrow, hk, hroom, hstop, hans, onlyAnswers_trans honly (hheard _)⟩
  · have hcmd : handle .setCursor (s.heard p) p [0] = ((s.heard p).placeCursor p s.tlg.oldest,
        ⟨.ok, place s.tlg.oldest⟩) := by
      rw [← hpart]
      rfl
    obtain ⟨t, hrow, hans, honly⟩ := exec_handled (i := .setCursor p tag [0]) ht rfl rfl rfl hcmd
    exact ⟨t, hrow, hans, onlyAnswers_trans honly (hheard _)⟩
  · have hcmd : handle .setCursor (s.heard p) p [1] = ((s.heard p).placeCursor p s.tlg.nextSeq,
        ⟨.ok, place s.tlg.nextSeq⟩) := by
      rw [← hpart]
      rfl
    obtain ⟨t, hrow, hans, honly⟩ := exec_handled (i := .setCursor p tag [1]) ht rfl rfl rfl hcmd
    exact ⟨t, hrow, hans, onlyAnswers_trans honly (hheard _)⟩
  · exact exec_read ht rfl rfl rfl (cmdSetCursor_beyond _ p hb)

/-- Settles O48: the join set is two fields of the port's reader, and neither is read by the backlog. -/
theorem setLogJoinSetsTheJoinSet : Obligations.SetLogJoinSetsTheJoinSet := by
  unfold Obligations.SetLogJoinSetsTheJoinSet
  intro s p tag b ht r
  refine ⟨fun h1 h3 => ?_, fun hb => exec_read ht rfl rfl rfl (cmdSetLogJoin_unnamed _ p hb)⟩
  intro new
  obtain ⟨t, hrow, hans, honly⟩ :=
    exec_handled (i := .setLogJoin p tag [b]) ht rfl rfl rfl (cmdSetLogJoin_named (s.heard p) p h1 h3)
  have hchange : t.onlyAnswers (s.setTlg { s.tlg with readers := s.tlg.readers.set p new }) p :=
    onlyAnswers_trans honly (setTlg_onlyAnswers (heard_onlyAnswers s p) _)
  have htlg : t.tlg = { s.tlg with readers := s.tlg.readers.set p new } := hchange.1 .tlg rfl
  refine ⟨t, hrow, hans, hchange, ?_, fun x => ?_⟩ <;> rw [htlg] <;> simp only [PerPort.get_set_same]
  · rfl
  · unfold Reader.joins
    cases x.body <;> rfl

end Sys2Proof.Machine
end

-- The minute timer: one write of the values held, and what a write and a post change.
section
namespace Sys2Proof.Machine

/-! ### The minute timer and writes (R154 to R160, R175) -/

/-- One raise of flags changes the ports alone. -/
theorem raise_sameBut (s : State) (bits : Port → BitVec 16) : (s.raise bits).sameBut s [.prt] := by
  intro b hb
  cases b <;> first | rfl | simp at hb

theorem write_sameBut (s : State) (body : RecordBody) : (s.write body).sameBut s [.tlg, .prt] := by
  intro b hb
  cases b <;> first | rfl | simp at hb

theorem write_flagsRaised (s : State) (body : RecordBody) : (s.write body).flagsRaised s s.tlg.writeBits := by
  have hbits : s.tlg.writeBits = fun p => s.tlg.writeFlags (s.tlg.readers.get p) := funext (writeBits_eq s.tlg)
  rw [hbits]
  exact raise_flagsRaised s _

/-- The log counts a minute. -/
def Tlg.nextMinute (x : Tlg) : Tlg := { x with uptime := x.uptime + 1, minute := some 0 }

theorem minute_eq (s : State) : s.minute = (s.setTlg s.tlg.nextMinute).write (.sample s.sample) := rfl

theorem sampleLevel_iff (s : State) (n : Nat) : s.sampleLevel = some n ↔ s.level = .ml n := by
  unfold State.sampleLevel
  cases s.level <;> simp

theorem sample_wear (s : State) (st : Stage) : s.sample.wear.get st =
    if s.stagePresent st then some (min 2000 ((s.fau.accounts.get st).load / (s.fau.accounts.get st).c)) else none := by
  cases st <;> rfl

/-- Time that passes changes no value that a SAMPLE takes. -/
theorem sample_advance (s : State) (ms : Nat) : (s.advance ms).sample = s.sample := by
  have hst (st : Stage) : (s.advance ms).sampleWear st = s.sampleWear st := by cases st <;> rfl
  unfold State.sample
  rw [hst, hst, hst]
  rfl

/-- Settles O46: the expiry is one write of the values held, after the uptime counted; a post and a record change no
more than the flags and the log. -/
theorem minuteTimerWritesASample : Obligations.MinuteTimerWritesASample := by
  unfold Obligations.MinuteTimerWritesASample
  refine ⟨fun s e hup he => ?_, ⟨fun s f => ⟨raise_flagsRaised s _, raise_sameBut s _⟩,
    fun s p f => ⟨raise_flagsRaised s _, raise_sameBut s _⟩,
    fun s e => ⟨written_wrote s.tlg _, write_flagsRaised s _, write_sameBut s _⟩⟩⟩
  intro u
  have hrow : exec .minuteTimer s = .next u.minute :=
    congrArg Host.Outcome.next ((whenUp_of_up hup _).trans (expire_running he _ _))
  have hlog : (u.setTlg u.tlg.nextMinute).tlg = { s.tlg with uptime := s.tlg.uptime + 1, minute := some 0 } := rfl
  refine ⟨u.minute, s.sample, hrow, ?_, rfl, rfl, rfl, rfl, rfl, rfl, rfl, rfl, sampleLevel_iff s, sample_wear s,
    ?_, ?_⟩
  · rw [minute_eq, ← hlog, sample_advance]
    exact written_wrote _ _
  · exact write_flagsRaised (u.setTlg u.tlg.nextMinute) _
  · intro b hb
    cases b <;> first | rfl | simp at hb

end Sys2Proof.Machine
end

-- The resets: the state each leaves, and the edges that change no level.
section
namespace Sys2Proof.Machine

/-! ### Resets (R164, R180, R190, R191) -/

/-- A log whose readers stand at the start with the minute timer stopped. -/
def Tlg.atStart (x : Tlg) : Prop := x.minute = none ∧ ∀ p, x.readers.get p = x.startReader

theorem idle_atStart : Tlg.idle.atStart := ⟨rfl, fun p => by cases p <;> rfl⟩

theorem kept_atStart (x : Tlg) : x.kept.atStart := ⟨rfl, fun p => by cases p <;> rfl⟩

/-- The part after a reset, with its supply and RESETn as the reset leaves them. -/
def State.restarted (s : State) (log : Tlg) (k : ResetKind) (supply low : Bool) : State :=
  { s.cleared log k with supply := supply, resetnLow := low }.beginRead

theorem restarted_eq (s : State) (log : Tlg) (k : ResetKind) (supply low : Bool) :
    s.restarted log k supply low = { s with
      supply := supply, resetnLow := low, kind := k, sfe := .idle, dar := .idle, afc := .idle factoryCurve
      fau := .idle (freshAccounts .factory false), crd := .idle, drc := .idle, cdc := .idle
      tlg := log, prt := .idle, sst := if supply && !low then .begin else .idle } := by
  cases supply <;> cases low <;> rfl

/-- A reset changes the volatile parts, the supply and RESETn alone. -/
theorem restarted_sameBut (s : State) (log : Tlg) (k : ResetKind) (supply low : Bool) :
    (s.restarted log k supply low).sameBut { s with supply := supply, resetnLow := low } volatileParts := by
  rw [restarted_eq]
  intro b hb
  cases b <;> first | rfl | simp [volatileParts] at hb

theorem restarted_sameBut_supply (s : State) (log : Tlg) (k : ResetKind) (supply : Bool) :
    (s.restarted log k supply s.resetnLow).sameBut s (.supply :: volatileParts) := by
  refine sameBut_trans (sameBut_mono (restarted_sameBut s log k supply s.resetnLow)
    (fun _ => List.mem_cons_of_mem _)) (fun b hb => ?_)
  cases b <;> first | rfl | simp at hb

theorem restarted_sameBut_resetn (s : State) (log : Tlg) (k : ResetKind) (low : Bool) :
    (s.restarted log k s.supply low).sameBut s (.resetnLow :: volatileParts) := by
  refine sameBut_trans (sameBut_mono (restarted_sameBut s log k s.supply low)
    (fun _ => List.mem_cons_of_mem _)) (fun b hb => ?_)
  cases b <;> first | rfl | simp at hb

theorem restarted_keeps (s : State) (k : ResetKind) (supply low : Bool) :
    (s.restarted s.tlg.kept k supply low).tlg.keeps s.tlg := by
  rw [restarted_eq]
  exact ⟨rfl, rfl, rfl⟩

theorem restarted_atStart (s : State) {log : Tlg} (k : ResetKind) (supply low : Bool) (hlog : log.atStart) :
    (s.restarted log k supply low).atStart := by
  obtain ⟨hminute, hreaders⟩ := hlog
  rw [restarted_eq]
  refine ⟨fun p => ?_, rfl, rfl, rfl, rfl, rfl, rfl, rfl, ?_, rfl, rfl, hminute, hreaders⟩
  · cases p <;> simp [State.port, State.attention, Prt.idle, PerPort.get, PortIf.idle]
  · simp [State.comp, Drc.idle, DryState.on]

theorem cutOff_of_no_write {s : State} (h : s.sst.writing = none) (o : CutOff) : s.cutOff o = s := by
  unfold State.cutOff
  rw [h]

theorem powerOn_eq {s : State} (h : s.supply = false) : s.powerOn = s.restarted .idle .powerOn true s.resetnLow := by
  rw [State.powerOn, h]
  rfl

theorem powerLoss_eq {s : State} (h : s.supply = true) (hw : s.sst.writing = none) (o : CutOff) :
    s.powerLoss o = s.restarted .idle s.kind false s.resetnLow := by
  rw [State.powerLoss, h, cutOff_of_no_write hw, restarted_eq]
  rfl

theorem resetnAssert_eq {s : State} (h : s.supply = true) (hlow : s.resetnLow = false) (hw : s.sst.writing = none)
    (o : CutOff) : s.resetnAssert o = s.restarted s.tlg.kept .resetn s.supply true := by
  rw [State.resetnAssert, cutOff_of_no_write hw, restarted_eq, h, hlow]
  simp [State.cleared, h]

theorem warmReset_eq {s : State} (h : s.live = true) (hr : s.sst.restart = .drained) :
    s.warmReset = s.restarted s.tlg.kept .restart s.supply s.resetnLow := if_pos ⟨h, hr⟩

theorem resetnRelease_eq {s : State} (h : s.resetnLow = true) : s.resetnRelease = { s with
    resetnLow := false
    sst := if s.supply then { s.sst with reading := some .config, readTimer := some 0 } else s.sst } := by
  rw [State.resetnRelease, if_pos h]
  cases s.supply <;> simp [State.beginRead, State.live, State.setSst]

/-- Settles O5: each reset that takes place is `restarted`, and the edges that change no level leave the part as it
is. -/
theorem resetsClearTheVolatileState : Obligations.ResetsClearTheVolatileState := by
  unfold Obligations.ResetsClearTheVolatileState
  refine ⟨fun s h => ?_, fun s cut h hw => ?_, fun s cut h hlow hw => ?_, fun s h hr => ?_, fun s h => ?_,
    fun s h => ?_, fun s cut hlow h => ?_, fun s cut h => ?_, fun s h => ?_, fun s cut h => ?_, fun s h => ?_⟩
  · exact ⟨_, congrArg Host.Outcome.next (powerOn_eq h), by simp [restarted_eq], by simp [restarted_eq],
      by simp [restarted_eq], restarted_atStart s _ _ _ idle_atStart, restarted_sameBut_supply s _ _ _⟩
  · exact ⟨_, congrArg Host.Outcome.next (powerLoss_eq h hw cut), by simp [restarted_eq], by simp [restarted_eq],
      restarted_atStart s _ _ _ idle_atStart, restarted_sameBut_supply s _ _ _⟩
  · exact ⟨_, congrArg Host.Outcome.next (resetnAssert_eq h hlow hw cut), by simp [restarted_eq],
      by simp [restarted_eq], restarted_keeps s _ _ _, restarted_atStart s _ _ _ (kept_atStart _),
      restarted_sameBut_resetn s _ _ _⟩
  · exact ⟨_, congrArg Host.Outcome.next (warmReset_eq h hr), by simp [restarted_eq],
      restarted_keeps s _ _ _, restarted_atStart s _ _ _ (kept_atStart _), restarted_sameBut s _ _ _ _⟩
  · exact congrArg Host.Outcome.next (resetnRelease_eq h)
  · exact congrArg Host.Outcome.next (if_neg (by simp [h]))
  · exact congrArg Host.Outcome.next ((if_neg (by simp [hlow])).trans (if_neg (by simp [h])))
  · exact congrArg Host.Outcome.next (if_pos h)
  · exact congrArg Host.Outcome.next (if_pos h)
  · exact congrArg Host.Outcome.next (if_neg (by simp [h]))
  · exact congrArg Host.Outcome.next (if_neg (fun hl => h.elim (by simp [hl.1]) (absurd hl.2)))

end Sys2Proof.Machine
end

-- The bytes of a frame: what `decodeFrame` answers case by case, and what the row of a command frame runs.
section
namespace Sys2Proof

/-! ### The frame that a body spells (R165 to R169, R179) -/

/-- What the Command byte of a frame with a good Check says it is (R169 case 5). -/
def FrameKind.ofCode (code : Byte) : FrameKind :=
  match Command.ofCode code with
  | some c => .known c
  | none => .unknown code

theorem ofCode_code (c : Command) : Command.ofCode c.code = some c := by cases c <;> rfl

/-- No command's code is 0x00, the first byte of a PANEL fetch window (R166). -/
theorem code_ne_zero (c : Command) : c.code ≠ 0 := by cases c <;> decide

theorem kind_ofCode_code (c : Command) : FrameKind.ofCode c.code = .known c := by
  rw [FrameKind.ofCode, ofCode_code]

theorem kind_ofCode_none {code : Byte} (h : Command.ofCode code = none) : FrameKind.ofCode code = .unknown code := by
  rw [FrameKind.ofCode, h]

theorem frameOf_good {cmd tag len : Byte} {rest : List Byte}
    (h : rest.getD len.toNat 0 = crc8 (cmd :: tag :: len :: rest.take len.toNat)) :
    frameOf cmd tag len rest = ⟨.ofCode cmd, tag, rest.take len.toNat⟩ := by
  unfold frameOf FrameKind.ofCode
  dsimp only
  rw [if_pos h]
  cases Command.ofCode cmd <;> rfl

theorem frameOf_bad {cmd tag len : Byte} {rest : List Byte}
    (h : rest.getD len.toNat 0 ≠ crc8 (cmd :: tag :: len :: rest.take len.toNat)) :
    frameOf cmd tag len rest = ⟨.bad, tag, []⟩ := if_neg h

/-- The bytes after the Check do not count. -/
theorem frameOf_append (cmd tag : Byte) {len : Byte} {rest : List Byte} (h : len.toNat < rest.length)
    (more : List Byte) : frameOf cmd tag len (rest ++ more) = frameOf cmd tag len rest := by
  unfold frameOf
  rw [List.take_append_of_le_length (Nat.le_of_lt h), List.getD_eq_getElem?_getD, List.getElem?_append_left h,
    ← List.getD_eq_getElem?_getD]

theorem decodeFrame_fetch (rest : List Byte) :
    decodeFrame .panel (0 :: rest) = .panelFetchWindow (rest.length + 1) false := rfl

section
variable {p : Port} {cmd : Byte} (hframe : ¬(p = .panel ∧ cmd = 0))
include hframe

theorem decodeFrame_of_frame (tag len : Byte) (rest : List Byte) : decodeFrame p (cmd :: tag :: len :: rest) =
    if 48 < len.toNat then (if p = .link then .frameDiscard .link else .badFrame p tag)
    else if rest.length ≤ len.toNat then .frameDiscard p
    else Frame.row p (frameOf cmd tag len rest) := by
  have hhead : ¬(p = .panel ∧ (cmd :: tag :: len :: rest).head? = some 0) := by simpa using hframe
  unfold decodeFrame
  rw [if_neg hhead]
  dsimp only
  simp only [Nat.lt_succ_iff, maxLength]
  cases p <;> rfl

/-- A body with its Length in range and its Check is the frame it spells. -/
theorem decodeFrame_complete (tag : Byte) {len : Byte} {rest : List Byte} (hlen : len.toNat ≤ 48)
    (hrest : len.toNat < rest.length) :
    decodeFrame p (cmd :: tag :: len :: rest) = Frame.row p (frameOf cmd tag len rest) := by
  rw [decodeFrame_of_frame hframe, if_neg (by omega), if_neg (by omega)]

/-- A command body decodes to the row of its Command byte, with its Tag and payload. -/
theorem decodeFrame_commandBody (tag : Byte) {pl : List Byte} (hpl : pl.length ≤ 48) :
    decodeFrame p (commandBody cmd tag pl) = Frame.row p ⟨.ofCode cmd, tag, pl⟩ := by
  have hlen : (BitVec.ofNat 8 pl.length).toNat = pl.length := by
    rw [BitVec.toNat_ofNat]
    omega
  have hbody : commandBody cmd tag pl = cmd :: tag :: BitVec.ofNat 8 pl.length ::
      (pl ++ [crc8 (cmd :: tag :: BitVec.ofNat 8 pl.length :: pl)]) := rfl
  rw [hbody, decodeFrame_complete hframe tag (by omega) (by simp [hlen]), frameOf_good]
  · simp [hlen]
  · simp [hlen]

end

/-- Settles O11, case by case of R169. -/
theorem frameJudgementComesFirst : Obligations.FrameJudgementComesFirst := by
  refine ⟨decodeFrame_fetch, fun p cmd tag len rest hframe =>
    ⟨fun hlong => ?_, fun hlen hshort => ?_, fun hlen hrest hbad => ?_, fun more hlen hrest => ?_,
      fun hlen hrest hgood hnone => ?_⟩⟩
  · rw [decodeFrame_of_frame hframe, if_pos hlong]
  · rw [decodeFrame_of_frame hframe, if_neg (by omega), if_pos hshort]
  · rw [decodeFrame_complete hframe tag hlen hrest, frameOf_bad hbad]
    rfl
  · rw [decodeFrame_complete hframe tag hlen hrest,
      decodeFrame_complete hframe tag hlen (by rw [List.length_append]; omega), frameOf_append cmd tag hrest]
  · rw [decodeFrame_complete hframe tag hlen hrest, frameOf_good hgood, kind_ofCode_none hnone]
    rfl

end Sys2Proof

namespace Sys2Proof.Machine

/-! ### The row of a command frame -/

/-- The row of a known command's frame runs as the frame's reception. -/
theorem exec_row_known (s : State) (p : Port) (c : Command) (tag : Byte) (pl : List Byte) :
    exec (Frame.row p ⟨.known c, tag, pl⟩) s = .next (s.receive p ⟨.known c, tag, pl⟩) := by
  cases c with
  | pumpOut =>
    unfold Frame.row
    dsimp only
    split <;> rfl
  | _ => rfl

/-- A row that is a command frame with a Command byte is a command of Table 9-8 or an unknown one. -/
theorem frame_cases {i : Instr} {p : Port} {code tag : Byte} {pl : List Byte} (h : i.frame? = some (p, code, tag, pl)) :
    (∃ c : Command, code = c.code ∧ (∀ s, exec i s = .next (s.receive p ⟨.known c, tag, pl⟩)) ∧
      (i.wellFormed = true → payloadOk pl = true ∧ i = Frame.row p ⟨.known c, tag, pl⟩)) ∨
    i = .unknownCommand p code tag pl := by
  cases i
  case unknownCommand =>
    cases h
    exact .inr rfl
  case pumpOutNew =>
    cases h
    refine .inl ⟨.pumpOut, rfl, fun _ => rfl, fun hwf => ?_⟩
    simp only [Instr.wellFormed, resumeVariant, Bool.and_eq_true, Bool.not_eq_true', decide_eq_false_iff_not] at hwf
    exact ⟨hwf.1, (if_neg hwf.2).symm⟩
  case pumpOutResume =>
    cases h
    refine .inl ⟨.pumpOut, rfl, fun _ => rfl, fun hwf => ?_⟩
    simp only [Instr.wellFormed, resumeVariant, Bool.and_eq_true, decide_eq_true_eq] at hwf
    exact ⟨hwf.1, (if_pos hwf.2).symm⟩
  all_goals cases h
  all_goals exact .inl ⟨_, rfl, fun _ => rfl, fun hwf => ⟨hwf, rfl⟩⟩

/-- Settles O10: a body decodes to the row of its Command byte, which is the row it was written from. -/
theorem commandFramesRoundTrip : Obligations.CommandFramesRoundTrip := by
  refine ⟨fun i p code tag pl hwf hi => ?_, fun _ _ _ => rfl, rfl, fun bs b => ?_, rfl, rfl, rfl⟩
  · obtain ⟨c, rfl, -, hrow⟩ | rfl := frame_cases hi
    · obtain ⟨hpl, rfl⟩ := hrow hwf
      rw [decodeFrame_commandBody (fun h => code_ne_zero c h.2) tag (of_decide_eq_true hpl), kind_ofCode_code]
    · simp only [Instr.wellFormed, Bool.and_eq_true, Option.isNone_iff_eq_none, Bool.not_eq_true'] at hwf
      obtain ⟨⟨hpl, hnone⟩, hframe⟩ := hwf
      rw [decodeFrame_commandBody (by simpa using hframe) tag (of_decide_eq_true hpl), kind_ofCode_none hnone]
      rfl
  · rw [crc8, List.foldl_append]
    rfl

end Sys2Proof.Machine
end

-- Every answer fits its frame: the length of each owner's payload.
section
namespace Sys2Proof.Machine

/-! ### Lengths of encodings (Table 9-9) -/

@[simp] theorem le_length (w n : Nat) : (le w n).length = w := by
  induction w generalizing n with
  | zero => rfl
  | succ w ih => rw [le, List.length_cons, ih]

/-- A layout spells as many bytes as its fields are wide. -/
theorem spell_length (fields : List (Nat × Nat)) : (spell fields).length = (fields.map Prod.fst).sum := by
  induction fields with
  | nil => rfl
  | cons f fs ih => rw [spell_cons, List.length_append, le_length, ih, List.map_cons, List.sum_cons]

/-- Entries of one width each. -/
theorem flatMap_length {α : Type} {f : α → List Byte} {w : Nat} (hf : ∀ x, (f x).length = w) (l : List α) :
    (l.flatMap f).length = w * l.length := by
  induction l with
  | nil => rfl
  | cons x xs ih => rw [List.flatMap_cons, List.length_append, hf, ih, List.length_cons, Nat.mul_succ, Nat.add_comm]

@[simp] theorem enc1_length (n : Nat) : (enc1 n).length = 1 := rfl
@[simp] theorem enc2_length (n : Nat) : (enc2 n).length = 2 := rfl
@[simp] theorem enc4_length (n : Nat) : (enc4 n).length = 4 := rfl
@[simp] theorem encBool_length (b : Bool) : (encBool b).length = 1 := rfl
@[simp] theorem encSet_length (bits : List Bool) : (encSet bits).length = 1 := rfl
@[simp] theorem encVersion_length (s : State) : (encVersion s).length = 2 := rfl

@[simp] theorem encOpt1_length (x : Option Nat) : (encOpt1 x).length = 1 := by rw [encOpt1_le, le_length]
@[simp] theorem encOpt2_length (x : Option Nat) : (encOpt2 x).length = 2 := by rw [encOpt2_le, le_length]

theorem encDemand_length (e : Demand) : (encDemand e).length = 3 := rfl
theorem encRecent_length (e : RecentEntry) : (encRecent e).length = 10 := rfl
theorem encCurve_length (b : Bank) : (encCurve b).length = 4 * b.length := flatMap_length (w := 4) (fun _ => rfl) b

/-! ### What the laws bound (R23, R45, R94) -/

/-- The slots of all ports. -/
def slotRefs : List DemandRef := [Port.panel, .link, .service].flatMap (fun p => (List.range 4).map (⟨p, ·⟩))

theorem mem_slotRefs {r : DemandRef} (h : r.slot ≤ 3) : r ∈ slotRefs := by
  obtain ⟨p, n⟩ := r
  have hn : n ∈ List.range 4 := List.mem_range.2 (Nat.lt_succ_of_le h)
  refine List.mem_flatMap.2 ⟨p, ?_, List.mem_map_of_mem hn⟩
  cases p <;> simp

/-- A lawful table holds an entry for each slot of each port at most. -/
theorem demandLaw_length {s : State} (h : s.demandLaw) : s.dar.table.length ≤ 12 := by
  obtain ⟨hnodup, hentries, -⟩ := h
  have hsub : s.dar.table.map Demand.ref ⊆ slotRefs := fun r hr => by
    obtain ⟨e, he, rfl⟩ := List.mem_map.1 hr
    exact mem_slotRefs (hentries e he).1.1
  simpa [slotRefs] using hnodup.length_le_of_subset hsub

theorem legal_length {b : Bank} (h : b.legal = true) : b.length = 11 := by
  simp only [Bank.legal, Bank.acceptable, Bool.and_eq_true, beq_iff_eq] at h
  exact h.1.1.1

theorem bankLaw_length {s : State} (h : s.bankLaw) (n : BankName) : (s.afc.bank n).length = 11 := by
  cases n
  · exact legal_length h.1
  · exact legal_length h.2

/-! ### The READ payloads -/

theorem sensorsPart_length (s : State) : s.sensorsPart.length = 31 := by
  simp [sensorsPart_spell, spell_length, State.sensorsLayout]

theorem planPart_length (s : State) : (planPart s).length = 11 := by
  simp [planPart_spell, spell_length, State.planLayout]

theorem airflowStatus_length (s : State) : s.airflowStatus.length = 23 := by
  simp [airflowStatus_spell, spell_length, State.airflowLayout]

theorem stagePart_length (s : State) (st : Stage) : (s.stagePart st).length = 23 := by
  simp [stagePart_spell, spell_length, State.stageLayout]

theorem fauUnitPart_length (s : State) : s.fauUnitPart.length = 20 := by
  simp [fauUnitPart_spell, spell_length, State.unitLayout]

theorem lastTickPart_length (r : Option LastTick) : (lastTickPart r).length = 30 := by
  cases r <;> simp [lastTickPart_spell, spell_length, lastTickLayout]

theorem slotPart_length (s : State) (st : Stage) : (s.slotPart st).length = 22 := by
  simp [slotPart_spell, spell_length, State.slotLayout]

theorem dryingPart_length (s : State) : s.dryingPart.length = 38 := by
  simp [dryingPart_spell, spell_length, State.dryingLayout]

theorem tankPart_length (s : State) : s.tankPart.length = 21 := by
  simp [tankPart_spell, spell_length, State.tankLayout]

theorem sequencePart_length (q : Option Sequence) : (sequencePart q).length = 30 := by
  cases q <;> simp [sequencePart_spell, spell_length, sequenceLayout]

theorem storePart_length (x : Sst) : (storePart x).length = 4 := rfl

theorem bankPart_length {s : State} (h : s.bankLaw) (n : BankName) : (bankPart s.afc n).length = 45 := by
  rw [bankPart, List.length_append, encCurve_length, bankLaw_length h]
  rfl

theorem encGroup_length {x : Settings} (h : x.valid = true) (g : Nat) : (encGroup x g).length ≤ 44 := by
  have hcurve : x.curve.length = 11 := by
    simp only [Settings.valid, Bool.and_eq_true] at h
    exact legal_length h.2
  unfold encGroup
  split
  case h_8 => simp [encCurve_length, hcurve]
  case h_7 => simp [encUntagged]
  all_goals simp

theorem cursorPart_length (s : State) (p : Port) : (s.cursorPart p).length = 6 := rfl

/-! ### The answers of each command -/

theorem payload_le_of_length {bytes : List Byte} {n : Nat} (h : bytes.length = n) (hn : n ≤ 48) :
    bytes.length ≤ 48 := h ▸ hn

theorem cmdReadDemands_payload_le {s : State} (h : s.demandLaw) (p : Port) (pl : List Byte) :
    (cmdReadDemands s p pl).2.payload.length ≤ 48 := by
  have htable := demandLaw_length h
  simp only [cmdReadDemands, List.length_append, encVersion_length, encRanks, enc1_length,
    flatMap_length encDemand_length]
  omega

theorem cmdReadAirflow_payload_le {s : State} (h : s.bankLaw) (p : Port) (pl : List Byte) :
    (cmdReadAirflow s p pl).2.payload.length ≤ 48 := by
  unfold cmdReadAirflow
  split <;> simp [airflowStatus_length, bankPart_length h]

theorem cmdReadFilters_payload_le (s : State) (p : Port) (pl : List Byte) :
    (cmdReadFilters s p pl).2.payload.length ≤ 48 := by
  unfold cmdReadFilters
  split <;> simp [stagePart_length, fauUnitPart_length, lastTickPart_length]

theorem cmdReadCartridges_payload_le {s : State} (h : s.recentLaw) (p : Port) (pl : List Byte) :
    (cmdReadCartridges s p pl).2.payload.length ≤ 48 := by
  have hlist := h.1
  unfold cmdReadCartridges
  split
  case h_4 =>
    rw [flatMap_length encRecent_length]
    omega
  all_goals simp [slotPart_length]

theorem cmdReadTank_payload_le (s : State) (p : Port) (pl : List Byte) :
    (cmdReadTank s p pl).2.payload.length ≤ 48 := by
  unfold cmdReadTank
  split <;> simp [tankPart_length, sequencePart_length]

theorem cmdReadConfig_payload_le {s : State} (h : s.configLaw) (p : Port) (pl : List Byte) :
    (cmdReadConfig s p pl).2.payload.length ≤ 48 := by
  have hgroup := encGroup_length h (arg1 pl 0)
  unfold cmdReadConfig
  repeat' split
  · exact Nat.le_trans hgroup (by decide)
  · simp [storePart_length]
  · simp

/-- READ-LOG leaves room for the cursor and the backlog behind its records (R181). -/
theorem cmdReadLog_payload_le (s : State) (p : Port) (pl : List Byte) : (cmdReadLog s p pl).2.payload.length ≤ 48 := by
  obtain ⟨k, -, hexam, hroom, -⟩ :=
    examine_spec (s.tlg.readers.get p) Config.logRoom (s.tlg.unread (s.tlg.readers.get p))
  have hlimit : Config.logRoom = 42 := rfl
  simp only [cmdReadLog, hexam, List.length_append, cursorPart_length]
  omega

theorem cmdSetCursor_payload_le (s : State) (p : Port) (pl : List Byte) :
    (cmdSetCursor s p pl).2.payload.length ≤ 48 := by
  unfold cmdSetCursor
  split <;> simp [cursorPart_length]

theorem cmdSetLogJoin_payload_le (s : State) (p : Port) (pl : List Byte) :
    (cmdSetLogJoin s p pl).2.payload.length ≤ 48 := by
  unfold cmdSetLogJoin
  split <;> simp

theorem cmdPutDemand_payload_le (s : State) (p : Port) (pl : List Byte) :
    (cmdPutDemand s p pl).2.payload.length ≤ 48 := by
  unfold cmdPutDemand
  dsimp only
  repeat' split
  all_goals simp

theorem cmdClearDemand_payload_le (s : State) (p : Port) (pl : List Byte) :
    (cmdClearDemand s p pl).2.payload.length ≤ 48 := by
  unfold cmdClearDemand
  dsimp only
  repeat' split
  all_goals simp

theorem clearAll_payload_le (s : State) (p : Port) (c : ClearScope) : (s.clearAll p c).2.payload.length ≤ 48 := by
  unfold State.clearAll
  dsimp only
  split <;> simp

theorem cmdClearAllDemands_payload_le (s : State) (p : Port) (pl : List Byte) :
    (cmdClearAllDemands s p pl).2.payload.length ≤ 48 := by
  unfold cmdClearAllDemands
  repeat' split
  · simp
  · exact clearAll_payload_le s p _
  · simp

theorem cmdSelectCurve_payload_le (s : State) (p : Port) (pl : List Byte) :
    (cmdSelectCurve s p pl).2.payload.length ≤ 48 := by
  unfold cmdSelectCurve
  dsimp only
  repeat' split
  all_goals simp [encBanks]

theorem cmdResetFilter_payload_le (s : State) (p : Port) (pl : List Byte) :
    (cmdResetFilter s p pl).2.payload.length ≤ 48 := by
  unfold cmdResetFilter
  dsimp only
  repeat' split
  all_goals simp

theorem newReply_payload_le (st : Status) (q : Option Sequence) : (newReply st q).payload.length ≤ 48 := by
  cases q <;> simp [newReply]

theorem pumpOutNew_payload_le (s : State) (p : Port) (max : Option Nat) :
    (s.pumpOutNew p max).2.payload.length ≤ 48 := by
  unfold State.pumpOutNew
  dsimp only
  split
  · simp
  · split
    · simp
    · split
      · simp
      · exact newReply_payload_le _ _

theorem pumpOutResume_payload_le (s : State) : s.pumpOutResume.2.payload.length ≤ 48 := by
  unfold State.pumpOutResume
  repeat' split
  all_goals simp

theorem cmdPumpOut_payload_le (s : State) (p : Port) (pl : List Byte) : (cmdPumpOut s p pl).2.payload.length ≤ 48 := by
  unfold cmdPumpOut
  split
  · exact pumpOutNew_payload_le s p _
  · split
    · simp
    · exact pumpOutResume_payload_le s
  · simp

theorem cmdPumpAbort_payload_le (s : State) (p : Port) (pl : List Byte) :
    (cmdPumpAbort s p pl).2.payload.length ≤ 48 := by
  unfold cmdPumpAbort
  dsimp only
  repeat' split
  all_goals simp [abortReply]

theorem cmdClearLockout_payload_le (s : State) (p : Port) (pl : List Byte) :
    (cmdClearLockout s p pl).2.payload.length ≤ 48 := by
  unfold cmdClearLockout
  dsimp only
  repeat' split
  all_goals simp

/-- Of the commands, READ-DEMANDS, READ-AIRFLOW, READ-CARTRIDGES and READ-CONFIG alone lean on a law. -/
theorem handle_payload_le {s : State} (hc : s.configLaw) (hb : s.bankLaw) (hd : s.demandLaw) (hr : s.recentLaw)
    (c : Command) (p : Port) (pl : List Byte) : (handle c s p pl).2.payload.length ≤ 48 := by
  cases c with
  | readSensors => exact payload_le_of_length (sensorsPart_length s) (by decide)
  | readPlan => exact payload_le_of_length (planPart_length s) (by decide)
  | readDemands => exact cmdReadDemands_payload_le hd p pl
  | readAirflow => exact cmdReadAirflow_payload_le hb p pl
  | readFilters => exact cmdReadFilters_payload_le s p pl
  | readCartridges => exact cmdReadCartridges_payload_le hr p pl
  | readDrying => exact payload_le_of_length (dryingPart_length s) (by decide)
  | readTank => exact cmdReadTank_payload_le s p pl
  | readConfig => exact cmdReadConfig_payload_le hc p pl
  | putDemand => exact cmdPutDemand_payload_le s p pl
  | clearDemand => exact cmdClearDemand_payload_le s p pl
  | clearAllDemands => exact cmdClearAllDemands_payload_le s p pl
  | selectCurve => exact cmdSelectCurve_payload_le s p pl
  | resetFilter => exact cmdResetFilter_payload_le s p pl
  | clearLockout => exact cmdClearLockout_payload_le s p pl
  | pumpOut => exact cmdPumpOut_payload_le s p pl
  | pumpAbort => exact cmdPumpAbort_payload_le s p pl
  | readLog => exact cmdReadLog_payload_le s p pl
  | setCursor => exact cmdSetCursor_payload_le s p pl
  | setLogJoin => exact cmdSetLogJoin_payload_le s p pl
  | readEvents | setEventMask | restart => simp [handle, cmdReadEvents, cmdSetEventMask, cmdRestart]
  | loadCurve | setStage | forgetCartridge | forceDefrost | writeConfig =>
    simp only [handle, cmdLoadCurve, cmdSetStage, cmdForgetCartridge, cmdForceDefrost, cmdWriteConfig]
    repeat' split
    all_goals simp

/-- Settles O13: the frames that no handler sees are answered without a payload, and `handle_payload_le` says the
rest. -/
theorem answersFitTheFrame : Obligations.AnswersFitTheFrame := by
  intro s p f hc hb hd hr
  have hbare (st : Status) : (⟨st, []⟩ : Reply).payload.length ≤ 48 := Nat.zero_le _
  unfold judge judgeKnown
  repeat' split
  all_goals first | exact hbare _ | exact handle_payload_le hc hb hd hr _ p _

end Sys2Proof.Machine
end

-- The part at reset, RESTART, READ-EVENTS and the frames that no handler sees.
section
namespace Sys2Proof.Machine

/-! ### The reset state (R164, R180, R191) -/

/-- The part after a power-on, its supply on and RESETn released. -/
theorem reset_eq_restarted : State.reset = State.reset.restarted .idle .powerOn true false := by
  rw [restarted_eq]
  rfl

theorem factoryCurve_legal : factoryCurve.legal = true := by decide

theorem reset_accountLaw : State.reset.accountLaw := by
  refine ⟨fun st => ?_, by decide, by decide, by decide⟩
  cases st <;> exact ⟨by decide, by decide, by decide, Nat.zero_le _, by decide⟩

theorem reset_recentLaw : State.reset.recentLaw :=
  ⟨Nat.zero_le _, List.nodup_nil, fun _ he => absurd he List.not_mem_nil, freshAccounts_apart _ _,
    freshAccounts_apart _ _, fun _ _ hw => absurd hw (by simp [State.reset, Sst.begin, Sst.idle])⟩

/-- Settles O4: the reset state is the one a power-on leaves, and each law is that of the idle blocks and the factory
configuration. -/
theorem resetMeetsTheLaws : Obligations.ResetMeetsTheLaws := by
  refine ⟨⟨?_, rfl, rfl, rfl, rfl, rfl, rfl, rfl⟩, factory_valid, ?_, ⟨rfl, ?_⟩, tlg_idle_lawful,
    ⟨factoryCurve_legal, factoryCurve_legal⟩, reset_accountLaw, reset_recentLaw, demandLaw_of_idle rfl rfl⟩
  · rw [reset_eq_restarted]
    exact restarted_atStart _ _ _ _ idle_atStart
  · intro hon
    exact absurd hon (by decide)
  · intro q hq
    exact absurd hq (by simp [State.reset, Cdc.idle])

/-! ### RESTART (R172, R190) -/

theorem heard_port (s : State) (p q : Port) :
    ((s.heard p).port q).flags = (s.port q).flags ∧ ((s.heard p).port q).mask = (s.port q).mask ∧
      (q ≠ p → (s.heard p).port q = s.port q) := (heard_onlyAnswers s p).2.2.2.2.2 q

/-- After a RESTART a frame that ends on SERVICE is discarded. -/
theorem receive_of_closed {s : State} (hl : s.live = true) (hc : s.prt.closed = true) (f : Frame) :
    s.receive .service f = s.heard .service := by
  have hclosed : (s.setRx .service none).prt.closed = true := hc
  simp [State.receive, hl, hclosed, State.heard]

/-- A row that is a command frame of `p` runs as the reception of some frame. On PANEL the byte 0x00 begins none. -/
theorem exec_of_frame {i : Instr} {p : Port} {code tag : Byte} {pl : List Byte}
    (h : i.frame? = some (p, code, tag, pl)) (hp : ¬(p = .panel ∧ code = 0)) (s : State) :
    ∃ f, exec i s = .next (s.receive p f) := by
  obtain ⟨c, -, hrow, -⟩ | rfl := frame_cases h
  · exact ⟨_, hrow s⟩
  · exact ⟨⟨.unknown code, tag, pl⟩, congrArg Host.Outcome.next (if_neg hp)⟩

/-- Settles O9. -/
theorem restartClosesServiceAndIsHandedOver : Obligations.RestartClosesServiceAndIsHandedOver := by
  refine ⟨fun s tag ht => ?_, fun s i code tag pl hl hc hi => ?_, fun s e he => ?_⟩
  · obtain ⟨t, hrow, hans, honly⟩ := exec_handled (i := .restart .service tag []) ht rfl rfl rfl rfl
    obtain ⟨hparts, -, hclosed, hover, -, hports⟩ := honly
    refine ⟨t, hrow, hans, hclosed, hover, sameBut_trans hparts (fun b hb => ?_), fun q hq => ?_⟩
    · cases b <;> first | rfl | simp at hb
    · obtain ⟨-, -, hother⟩ := hports q
      obtain ⟨-, -, hheard⟩ := heard_port s .service q
      exact (hother hq).trans (hheard hq)
  · obtain ⟨f, hrow⟩ := exec_of_frame hi (by simp) s
    exact ⟨_, hrow, receive_of_closed hl hc f⟩
  · exact congrArg Host.Outcome.next (expire_running he _ _)

/-! ### READ-EVENTS (R177) -/

@[simp] theorem setPort_port_same (s : State) (p : Port) (x : PortIf) : (s.setPort p x).port p = x :=
  PerPort.get_set_same _ _ _

theorem setPort_port_other (s : State) {p q : Port} (x : PortIf) (h : q ≠ p) : (s.setPort p x).port q = s.port q :=
  PerPort.get_set_other _ _ _ _ h

theorem setPort_sameBut (s : State) (p : Port) (x : PortIf) : (s.setPort p x).sameBut s [.prt] := by
  intro b hb
  cases b <;> first | rfl | simp at hb

/-- READ-EVENTS answers the flags and the mask, and clears the flags of its port alone. -/
theorem exec_readEvents {s : State} {p : Port} (tag : Byte) (ht : s.takes p = true) :
    ∃ t, exec (.readEvents p tag []) s = .next t ∧
      t.answered p tag .ok (enc2 (s.port p).flags.toNat ++ enc2 (s.port p).mask.toNat) ∧
      (t.port p).flags = 0 ∧ (t.port p).mask = (s.port p).mask ∧ (∀ q, q ≠ p → t.port q = s.port q) ∧
      t.sameBut s [.prt] := by
  obtain ⟨t, hrow, hans, hparts, -, -, -, -, hports⟩ :=
    exec_handled (i := .readEvents p tag []) (pl := []) ht rfl rfl rfl rfl
  obtain ⟨hflags, hmask, -⟩ := heard_port s p p
  obtain ⟨hcleared, hkept, -⟩ := hports p
  refine ⟨t, hrow, ?_, ?_, ?_, fun q hq => ?_, ?_⟩
  · rw [← hflags, ← hmask]
    exact hans
  · rw [hcleared, setPort_port_same]
  · rw [hkept, setPort_port_same, hmask]
  · obtain ⟨-, -, hother⟩ := hports q
    obtain ⟨-, -, hheard⟩ := heard_port s p q
    rw [hother hq, setPort_port_other _ _ hq, hheard hq]
  · exact sameBut_trans hparts (sameBut_trans (setPort_sameBut _ _ _) (heard_onlyAnswers s p).1)

/-- Settles O50. -/
theorem readEventsReturnsAndClears : Obligations.ReadEventsReturnsAndClears := by
  intro s p tag ht
  obtain ⟨t, hrow, hans, hflags, hmask, hother, hparts⟩ := exec_readEvents tag ht
  refine ⟨t, hrow, hans, hflags, hmask, hother, hparts, fun f q => post_flagOn t q f, fun f => ?_⟩
  have hposted : (s.post p f).takes p = true := ht
  obtain ⟨u, hrow', hans', hflags', -⟩ := exec_readEvents tag hposted
  have hport : (s.post p f).port p = { s.port p with flags := (s.port p).flags ||| f.bit } := by
    rw [State.post, raise_port, if_pos rfl]
    rfl
  rw [hport] at hans'
  exact ⟨u, hrow', hflags', hans'⟩

/-! ### Frames that no handler sees (R169, R171, R173) -/

/-- A live part with SERVICE open and TXD free answers a frame by its judgement; a judgement that keeps the state
changes the answer alone. -/
theorem exec_judged {s : State} {p : Port} {i : Instr} {f : Frame} {st : Status} (hl : s.live = true)
    (hc : p = .service → s.prt.closed = false) (hs : p = .link → s.prt.sending = false)
    (hi : exec i s = .next (s.receive p f)) (hj : judge (s.heard p) p f = (s.heard p, ⟨st, []⟩)) :
    ∃ t, exec i s = .next t ∧ t.answered p f.tag st [] ∧ t.onlyAnswers s p := by
  rw [receive_of_live hl hc hs, State.takeFrame, hj] at hi
  exact ⟨_, hi, noted_answered (respond_answered _ _ _ _) _ _,
    noted_onlyAnswers (respond_heard_onlyAnswers s p f.tag _) _ _⟩

/-- A port that takes frames is live, with SERVICE open and TXD free. -/
theorem takes_open {s : State} {p : Port} (h : s.takes p = true) :
    (p = .service → s.prt.closed = false) ∧ (p = .link → s.prt.sending = false) := by
  simp only [State.takes, Bool.and_eq_true, Bool.not_eq_true', Bool.and_eq_false_iff, beq_eq_false_iff_ne] at h
  obtain ⟨⟨-, hclosed⟩, hsending⟩ := h
  exact ⟨fun hp => hclosed.resolve_left (absurd hp), fun hp => hsending.resolve_left (absurd hp)⟩

theorem exec_judged_of_takes {s : State} {p : Port} {i : Instr} {f : Frame} {st : Status} (h : s.takes p = true)
    (hi : exec i s = .next (s.receive p f)) (hj : judge (s.heard p) p f = (s.heard p, ⟨st, []⟩)) :
    ∃ t, exec i s = .next t ∧ t.answered p f.tag st [] ∧ t.onlyAnswers s p :=
  exec_judged (takes_live h) (takes_open h).1 (takes_open h).2 hi hj

theorem judge_known {s : State} (h : s.sst.startUp = .done) (p : Port) (c : Command) (tag : Byte) (pl : List Byte) :
    judge s p ⟨.known c, tag, pl⟩ = judgeKnown s p c pl := if_neg (by simp [h])

theorem judgeKnown_misfit {c : Command} {pl : List Byte} (h : fits c pl = false) (s : State) (p : Port) :
    judgeKnown s p c pl = (s, ⟨.badFrame, []⟩) := if_pos (by simp [h])

theorem judgeKnown_forbidden {s : State} {p : Port} {c : Command} {pl : List Byte} (hf : fits c pl = true)
    (hp : permitted c p (s.rank p) = false) : judgeKnown s p c pl = (s, ⟨.notPermitted, []⟩) := by
  rw [judgeKnown, if_neg (by simp [hf]), if_pos (by simp [hp])]

theorem judge_unknown {s : State} (h : s.sst.startUp = .done) (p : Port) (code tag : Byte) (pl : List Byte) :
    judge s p ⟨.unknown code, tag, pl⟩ = (s, ⟨.unknown, []⟩) := by
  simp [judge, h]

/-- While the store is read, every frame with a good Check is answered BUSY. -/
theorem judge_reading {s : State} (h : s.sst.startUp = .reading) (p : Port) {f : Frame} (hf : f.kind ≠ .bad) :
    judge s p f = (s, ⟨.busy, []⟩) := by
  unfold judge
  split
  · exact absurd ‹_› hf
  · rw [if_pos h]
  · rw [if_pos h]

theorem exec_unknownCommand {p : Port} {code : Byte} (h : ¬(p = .panel ∧ code = 0)) (tag : Byte) (pl : List Byte)
    (s : State) : exec (.unknownCommand p code tag pl) s = .next (s.receive p ⟨.unknown code, tag, pl⟩) :=
  congrArg Host.Outcome.next (if_neg h)

/-! ### The Lengths of Table 9-8 and the permissions of Table 9-2 -/

/-- The Lengths of the WRITE-CONFIG groups in the order of their codes (R184). -/
theorem groupLength_eq (g : Nat) : groupLength g = ([4, 5, 10, 5, 3, 6, 22, 45] : List Nat)[g]? := by
  rcases g with _ | _ | _ | _ | _ | _ | _ | _ | g <;> rfl

theorem fits_writeConfig (pl : List Byte) : fits .writeConfig pl = true ↔ 1 ≤ pl.length ∧
    ∀ k, ([4, 5, 10, 5, 3, 6, 22, 45] : List Nat)[(pl.getD 0 0).toNat]? = some k → pl.length = k := by
  rw [← groupLength_eq]
  simp only [fits, arg1, Bool.and_eq_true, bne_iff_ne, Nat.one_le_iff_ne_zero]
  cases groupLength (pl.getD 0 0).toNat <;> simp

theorem fits_putDemand (pl : List Byte) : fits .putDemand pl = true ↔
    pl.length = 4 ∧ 3 ≤ (pl.getD 1 0).toNat ∨ pl.length = 6 ∧ (pl.getD 1 0).toNat ≠ 3 := by
  simp only [fits, arg1]
  by_cases h : pl.length = 4
  · simp [h]
  · simp [h]

/-- Settles O53: each refusal is a judgement that keeps the state; the Lengths and permissions are read off command by
command. -/
theorem refusedFramesChangeNothing : Obligations.RefusedFramesChangeNothing := by
  refine ⟨fun s p c code tag pl => ?_, fun c pl => ?_, fun c p r => ?_⟩
  · intro known refused
    have hknown : exec known s = .next (s.receive p ⟨.known c, tag, pl⟩) := exec_row_known s p c tag pl
    have hdone (ht : s.takes p = true) : (s.heard p).sst.startUp = .done := takes_done ht
    refine ⟨fun ht hf => exec_judged_of_takes ht hknown ?_, fun ht hf hp => exec_judged_of_takes ht hknown ?_,
      fun hp hc => congrArg Host.Outcome.next (if_pos ⟨hp, hc⟩),
      fun ht h => exec_judged_of_takes ht (exec_unknownCommand h tag pl s) (judge_unknown (hdone ht) ..),
      fun hl hc hs => ⟨exec_judged (f := ⟨.bad, tag, []⟩) hl hc hs rfl rfl, fun hread => ?_⟩⟩
    · exact (judge_known (hdone ht) p c tag pl).trans (judgeKnown_misfit hf _ p)
    · exact (judge_known (hdone ht) p c tag pl).trans (judgeKnown_forbidden hf hp)
    · have hbusy {f : Frame} (hf : f.kind ≠ .bad) : judge (s.heard p) p f = (s.heard p, ⟨.busy, []⟩) :=
        judge_reading (s := s.heard p) hread p hf
      exact ⟨exec_judged hl hc hs hknown (hbusy (by simp)),
        fun h => exec_judged hl hc hs (exec_unknownCommand h tag pl s) (hbusy (by simp))⟩
  · cases c with
    | writeConfig => simpa using fits_writeConfig pl
    | putDemand => simpa using fits_putDemand pl
    | clearAllDemands => simp [fits, Nat.le_one_iff_eq_zero_or_eq_one]
    | _ => simp [fits]
  · cases c with
    | clearLockout => simp [permitted]
    | _ => simp [permitted]

end Sys2Proof.Machine
end

-- SET-EVENT-MASK, the attention lines, the reception of a frame and the links that carry the answers out.
section
namespace Sys2Proof

/-! ### Flag bits and masks (Table 9-3, R178) -/

/-- The two bytes of a mask, the lower first (9.8). -/
theorem arg2_pair (lo hi : Byte) : BitVec.ofNat 16 (Machine.arg2 [lo, hi] 0) = hi ++ lo := by
  apply BitVec.eq_of_toNat_eq
  have hlo := lo.isLt
  have hhi := hi.isLt
  rw [Machine.arg2_eq_bytes, BitVec.toNat_append, ← Nat.shiftLeft_add_eq_or_of_lt hlo, Nat.shiftLeft_eq,
    BitVec.toNat_ofNat]
  simp only [List.getD_cons_zero, List.getD_cons_succ]
  omega

theorem enc2_pair (lo hi : Byte) : Machine.enc2 (hi ++ lo : BitVec 16).toNat = [lo, hi] := by
  have hlo := lo.isLt
  have hhi := hi.isLt
  have hvalue : (hi ++ lo : BitVec 16).toNat = hi.toNat * 256 + lo.toNat := by
    rw [BitVec.toNat_append, ← Nat.shiftLeft_add_eq_or_of_lt hlo, Nat.shiftLeft_eq]
  have hlow : BitVec.ofNat 8 (hi.toNat * 256 + lo.toNat) = lo := BitVec.eq_of_toNat_eq (by
    rw [BitVec.toNat_ofNat]
    omega)
  have hhigh : BitVec.ofNat 8 ((hi.toNat * 256 + lo.toNat) / 256) = hi := BitVec.eq_of_toNat_eq (by
    rw [BitVec.toNat_ofNat]
    omega)
  rw [hvalue, Machine.enc2, le, le, le, hlow, hhigh]

namespace Machine

/-- The flags of Table 9-3, the lowest bit first. -/
def Flag.all : List Flag :=
  [.plan, .expired, .filter, .cartridge, .tank, .pump, .dry, .lockout, .fan, .sensor, .logq, .logh, .log3q, .loglate,
   .curve, .store]

theorem flag_of_index {i : Nat} (h : i < 16) : ∃ f : Flag, f.index = i := by
  have hall : ∀ j < 16, (Flag.all.getD j .plan).index = j := by decide
  exact ⟨_, hall i h⟩

/-- A set holds a flag where its bit is on. -/
theorem and_bit_iff (x : BitVec 16) (f : Flag) : x &&& f.bit = f.bit ↔ x.getLsbD f.index = true := by
  have hbit : f.bit = BitVec.twoPow 16 f.index := rfl
  have hne : f.bit ≠ 0#16 := by cases f <;> decide
  rw [hbit] at hne
  rw [hbit, BitVec.and_twoPow]
  cases x.getLsbD f.index
  · simpa using fun h => hne h.symm
  · simp

/-- Two sets meet in a flag. -/
theorem and_ne_zero_iff (x y : BitVec 16) :
    x &&& y ≠ 0#16 ↔ ∃ f : Flag, x &&& f.bit = f.bit ∧ y &&& f.bit = f.bit := by
  simp only [and_bit_iff]
  constructor
  · intro hne
    refine Classical.byContradiction fun hnone => hne (BitVec.eq_of_getLsbD_eq fun i hi => ?_)
    obtain ⟨f, rfl⟩ := flag_of_index hi
    have hapart : ¬(x.getLsbD f.index && y.getLsbD f.index) = true := fun h => hnone ⟨f, Bool.and_eq_true_iff.1 h⟩
    rw [BitVec.getLsbD_and, BitVec.getLsbD_zero]
    exact Bool.not_eq_true _ ▸ hapart
  · rintro ⟨f, hx, hy⟩ hzero
    have hbit : (x &&& y).getLsbD f.index = true := by rw [BitVec.getLsbD_and, hx, hy]; rfl
    rw [hzero] at hbit
    simp at hbit

/-- The attention line of a live part (R178). -/
theorem attention_iff {s : State} (hl : s.live = true) (p : Port) : s.attention p = true ↔
    (s.port p).rx = none ∧ (p = .link → s.prt.held = none) ∧ (s.port p).flags &&& (s.port p).mask ≠ 0#16 := by
  have hport : s.prt.ports.get p = s.port p := rfl
  simp only [State.attention, hl, hport, PortIf.receiving, Bool.true_and, Bool.and_eq_true, Bool.not_eq_true',
    Option.isSome_eq_false_iff, Option.isNone_iff_eq_none, Bool.and_eq_false_iff, decide_eq_false_iff_not, bne_iff_ne,
    and_assoc, ← Decidable.imp_iff_not_or]
  rfl

/-! ### A row as the reception of its frame -/

/-- What a row keeps of a frame: of a BAD-FRAME the Tag alone. -/
def rowFrame (f : Frame) : Frame := if f.kind = .bad then { f with payload := [] } else f

theorem rowFrame_bad {f : Frame} (h : f.kind = .bad) : rowFrame f = { f with payload := [] } := if_pos h

theorem rowFrame_good {f : Frame} (h : f.kind ≠ .bad) : rowFrame f = f := if_neg h

theorem rowFrame_frameOf (cmd tag len : Byte) (rest : List Byte) :
    rowFrame (frameOf cmd tag len rest) = frameOf cmd tag len rest := by
  by_cases h : rest.getD len.toNat 0 = crc8 (cmd :: tag :: len :: rest.take len.toNat)
  · rw [frameOf_good h]
    refine rowFrame_good ?_
    unfold FrameKind.ofCode
    cases Command.ofCode cmd <;> simp
  · rw [frameOf_bad h]
    rfl

/-- A frame's row runs as the frame's reception. -/
theorem exec_row {p : Port} {f : Frame} (h : p = .panel → f.kind ≠ .unknown 0) (s : State) :
    exec (Frame.row p f) s = .next (s.receive p (rowFrame f)) := by
  obtain ⟨kind, tag, pl⟩ := f
  cases kind with
  | known c => exact exec_row_known s p c tag pl
  | unknown code => exact exec_unknownCommand (fun hpc => h hpc.1 (congrArg _ hpc.2)) tag pl s
  | bad => rfl

/-- A judgement sees no more of a frame than its row names. -/
theorem takeFrame_rowFrame (s : State) (p : Port) (f : Frame) : s.takeFrame p (rowFrame f) = s.takeFrame p f := by
  obtain ⟨kind, tag, pl⟩ := f
  cases kind <;> rfl

/-! ### No frame changes the supply or RESETn -/

@[simp] theorem clearLockoutNow_live (s : State) (r : LockReason) : (s.clearLockoutNow r).live = s.live := by
  unfold State.clearLockoutNow
  dsimp only
  split <;> simp [State.live]

theorem handle_live (c : Command) (s : State) (p : Port) (pl : List Byte) : (handle c s p pl).1.live = s.live := by
  cases c with
  | clearLockout =>
    simp only [handle, cmdClearLockout]
    repeat' split
    all_goals simp
  | readSensors | readPlan | readDemands | readDrying | readEvents | setEventMask | restart => rfl
  | _ =>
    simp only [handle, cmdReadAirflow, cmdReadFilters, cmdReadCartridges, cmdReadTank, cmdReadConfig, cmdSetLogJoin,
      cmdLoadCurve, cmdSelectCurve, cmdReadLog, cmdSetCursor, cmdResetFilter, cmdSetStage, cmdForgetCartridge,
      cmdForceDefrost, cmdPumpOut, State.pumpOutNew, State.pumpOutResume, cmdPumpAbort, cmdPutDemand, cmdClearDemand,
      cmdClearAllDemands, State.clearAll, cmdWriteConfig]
    repeat' split
    all_goals simp [State.live]

theorem takeFrame_live (s : State) (p : Port) (f : Frame) : (s.takeFrame p f).live = s.live := by
  have hjudge : (judge s p f).1.live = s.live := by
    unfold judge judgeKnown
    repeat' split
    all_goals first | rfl | exact handle_live _ s p _
  simpa [State.takeFrame, State.live] using hjudge

theorem receive_live (s : State) (p : Port) (f : Frame) : (s.receive p f).live = s.live := by
  have hheard : (s.setRx p none).live = s.live := rfl
  unfold State.receive
  split
  · rfl
  · cases p with
    | panel => exact (takeFrame_live _ _ f).trans hheard
    | link =>
      dsimp only
      unfold State.linkFrame
      repeat' split
      · rfl
      · rfl
      · exact (takeFrame_live _ _ f).trans hheard
    | service =>
      dsimp only
      split
      · rfl
      · exact (takeFrame_live _ _ f).trans hheard

theorem linkReceive_live (s : State) (b : Byte) : (s.linkReceive b).live = s.live := by
  unfold State.linkReceive
  split
  · rfl
  · rfl
  · rfl
  · exact receive_live s _ _

/-! ### The LINK receiver (R165) -/

theorem linkByte_sync : linkByte none 0xA5 = .collecting [] := rfl

theorem linkByte_hunt {b : Byte} (h : b ≠ 0xA5) : linkByte none b = .ignored := if_neg h

theorem framingOf_header {bytes : List Byte} (h : bytes.length < 3) : framingOf (some bytes) = .header := if_pos h

theorem framingOf_payload {bytes : List Byte} (h : 3 ≤ bytes.length)
    (hlen : bytes.length < 3 + (bytes.getD 2 0).toNat) : framingOf (some bytes) = .payload := by
  rw [framingOf, if_neg (by omega), if_pos hlen]

theorem framingOf_check {bytes : List Byte} (hlen : bytes.length = 3 + (bytes.getD 2 0).toNat) :
    framingOf (some bytes) = .check := by
  rw [framingOf, if_neg (by omega), if_neg (by omega)]

theorem linkByte_header {bytes : List Byte} {b : Byte} (h : bytes.length < 3)
    (hb : ¬(bytes.length = 2 ∧ 48 < b.toNat)) : linkByte (some bytes) b = .collecting (bytes ++ [b]) := by
  unfold linkByte
  rw [framingOf_header h]
  exact if_neg hb

theorem linkByte_long {bytes : List Byte} {b : Byte} (h : bytes.length = 2) (hb : 48 < b.toNat) :
    linkByte (some bytes) b = .discarded := by
  unfold linkByte
  rw [framingOf_header (by omega)]
  exact if_pos ⟨h, hb⟩

theorem linkByte_payload {bytes : List Byte} (b : Byte) (h : 3 ≤ bytes.length)
    (hlen : bytes.length < 3 + (bytes.getD 2 0).toNat) : linkByte (some bytes) b = .collecting (bytes ++ [b]) := by
  unfold linkByte
  rw [framingOf_payload h hlen]

theorem linkByte_check {cmd tag len : Byte} {rest : List Byte} (b : Byte) (hlen : rest.length = len.toNat) :
    linkByte (some (cmd :: tag :: len :: rest)) b = .complete (frameOf cmd tag len (rest ++ [b])) := by
  have hframing : framingOf (some (cmd :: tag :: len :: rest)) = .check :=
    framingOf_check (by simp [hlen]; omega)
  unfold linkByte
  rw [hframing]

/-- What a byte's step does to the part. -/
def State.afterByte (s : State) : LinkStep → State
  | .ignored => s
  | .collecting bytes => s.setRx .link (some bytes)
  | .discarded => s.setRx .link none
  | .complete f => s.receive .link f

theorem linkReceive_eq (s : State) (b : Byte) : s.linkReceive b = s.afterByte (linkByte (s.port .link).rx b) := by
  unfold State.linkReceive
  cases linkByte (s.port .link).rx b <;> rfl

/-- On PANEL a discard notes what the window clocked out; MISO carries no more bytes than it has. -/
theorem discard_eq {s : State} (hl : s.live = true) (p : Port) : s.discard p = s.setPrt { s.prt with
    gap := if p = .link then none else s.prt.gap
    ports := s.prt.ports.set p { s.port p with
      rx := none
      out := if p = .panel ∧ (s.port p).rx = none then [if (s.port p).response.isSome then 0x5A else 0x00]
        else (s.port p).out } } := by
  unfold State.discard
  rw [if_neg (by simp [hl])]
  cases p with
  | panel =>
    have hout : (s.port .panel).windowMiso 0 = if Port.panel = .panel ∧ (s.port .panel).rx = none
        then [if (s.port .panel).response.isSome then 0x5A else 0x00] else (s.port .panel).out := by
      unfold PortIf.windowMiso PortIf.firstMiso
      cases (s.port .panel).rx <;> simp
    rw [← hout]
    rfl
  | link | service => rfl

section
variable {s : State} (hl : s.live = true)
include hl

theorem exec_linkBytes (bytes : List Byte) :
    exec (.commandReceptionStart ⟨.link, bytes⟩) s = .next (bytes.foldl State.linkReceive s) :=
  congrArg Host.Outcome.next (if_pos hl)

theorem exec_linkByte {rx : Option (List Byte)} {b : Byte} {x : LinkStep} (hrx : (s.port .link).rx = rx)
    (hx : linkByte rx b = x) : exec (.commandReceptionStart ⟨.link, [b]⟩) s = .next (s.afterByte x) := by
  rw [exec_linkBytes hl, List.foldl_cons, List.foldl_nil, linkReceive_eq, hrx, hx]

/-- The Check's byte ends a frame with the command that the bytes spell. -/
theorem exec_linkByte_check {bytes : List Byte} (b : Byte) (hrx : (s.port .link).rx = some bytes)
    (hlen : bytes.length = 3 + (bytes.getD 2 0).toNat) (hmax : (bytes.getD 2 0).toNat ≤ 48) :
    exec (.commandReceptionStart ⟨.link, [b]⟩) s = exec (decodeFrame .link (bytes ++ [b])) s := by
  obtain _ | ⟨cmd, _ | ⟨tag, _ | ⟨len, rest⟩⟩⟩ := bytes
  · simp at hlen
  · simp at hlen
  · simp at hlen
  · simp only [List.length_cons, List.getD_cons_succ, List.getD_cons_zero] at hlen hmax
    have hrest : rest.length = len.toNat := by omega
    have hframe : ¬(Port.link = .panel ∧ cmd = 0) := by simp
    have hrow : decodeFrame .link (cmd :: tag :: len :: rest ++ [b]) =
        Frame.row .link (frameOf cmd tag len (rest ++ [b])) :=
      decodeFrame_complete hframe tag hmax (by simp [hrest])
    rw [exec_linkByte hl hrx (linkByte_check b hrest), hrow, exec_row (by simp), rowFrame_frameOf]
    rfl

/-- More than 20 ms without a byte end LINK's reception as a discard does. -/
theorem exec_linkGap {e : Nat} (he : s.prt.gap = some e) :
    exec .linkGapTimeout s = exec (.frameDiscard .link) (s.advance (21 - e)) := by
  have hlater : (s.advance (21 - e)).live = true := hl
  have hdiscard : (s.advance (21 - e)).discard .link = (s.advance (21 - e)).setRx .link none :=
    if_neg (by simp [hlater])
  exact congrArg Host.Outcome.next ((if_pos hl).trans ((expire_running he _ _).trans hdiscard.symm))

theorem exec_linkGap_stopped (he : s.prt.gap = none) : exec .linkGapTimeout s = .next s :=
  congrArg Host.Outcome.next ((if_pos hl).trans (expire_stopped he _ _))

end

/-! ### The window of a PANEL frame and a SERVICE write (R166, R167) -/

/-- MISO in a window that begins: 0x5A or 0x00, then 0x00. -/
theorem windowMiso_begun {x : PortIf} (h : x.rx = none) (n : Nat) : x.windowMiso n =
    (if x.response.isSome then 0x5A else 0x00) :: List.replicate (n - 1) 0x00 := by
  rw [PortIf.windowMiso, h]
  rfl

/-- MISO in a window that goes on: 0x00 with each later byte. -/
theorem windowMiso_open {x : PortIf} (h : x.rx ≠ none) (n : Nat) :
    x.windowMiso n = x.out ++ List.replicate (n - x.out.length) 0x00 := by
  rw [PortIf.windowMiso, if_pos (Option.isSome_iff_ne_none.2 h)]

section
variable {s : State} (hl : s.live = true)
include hl

theorem exec_panelBytes (bytes : List Byte) :
    exec (.commandReceptionStart ⟨.panel, bytes⟩) s = .next (s.panelReceive bytes) :=
  congrArg Host.Outcome.next (if_pos hl)

theorem exec_serviceBytes (bytes : List Byte) : exec (.commandReceptionStart ⟨.service, bytes⟩) s =
    .next (s.setPort .service { s.port .service with rx := some ((s.port .service).rx.getD [] ++ bytes) }) :=
  congrArg Host.Outcome.next (if_pos hl)

end

theorem panelReceive_open {s : State} {got : List Byte} (h : (s.port .panel).rx = some got) (bytes : List Byte) :
    s.panelReceive bytes = s.setPort .panel { s.port .panel with
      rx := some (got ++ bytes), out := (s.port .panel).out ++ List.replicate bytes.length 0x00 } := by
  have hmiso := windowMiso_open (x := s.port .panel) (by simp [h]) ((s.port .panel).out.length + bytes.length)
  rw [Nat.add_sub_cancel_left] at hmiso
  unfold State.panelReceive
  dsimp only
  rw [h, ← hmiso]
  rfl

/-- No byte yet, or a first byte of 0x00, begins no frame. -/
theorem panelReceive_none {s : State} {bytes : List Byte} (h : (s.port .panel).rx = none)
    (hb : bytes.head? = none ∨ bytes.head? = some 0) : s.panelReceive bytes = s := by
  unfold State.panelReceive
  dsimp only
  rw [h]
  cases bytes with
  | nil => rfl
  | cons b bs => exact if_pos (by simpa using hb)

theorem panelReceive_begun {s : State} {bytes : List Byte} {b : Byte} (h : (s.port .panel).rx = none)
    (hb : bytes.head? = some b) (hne : b ≠ 0) : s.panelReceive bytes = s.setPort .panel { s.port .panel with
      rx := some bytes
      out := (if (s.port .panel).response.isSome then 0x5A else 0x00) :: List.replicate (bytes.length - 1) 0x00 } := by
  rw [← windowMiso_begun h]
  unfold State.panelReceive
  dsimp only
  rw [h]
  cases bytes with
  | nil => simp at hb
  | cons c cs =>
    obtain rfl : c = b := by simpa using hb
    exact if_neg hne

/-! ### SET-EVENT-MASK (R176) -/

/-- A mask set where a port has heard a frame is the mask set before. -/
theorem heard_setMask (s : State) (p : Port) (m : BitVec 16) :
    (s.heard p).setPort p { (s.heard p).port p with mask := m } =
      (s.setPort p { s.port p with mask := m }).heard p := by
  cases p <;> rfl

theorem exec_setEventMask {s : State} {p : Port} (tag lo hi : Byte) (ht : s.takes p = true) :
    ∃ t, exec (.setEventMask p tag [lo, hi]) s = .next t ∧ t.answered p tag .ok [lo, hi] ∧
      t.onlyAnswers (s.setPort p { s.port p with mask := hi ++ lo }) p := by
  have hcmd : handle .setEventMask (s.heard p) p [lo, hi] =
      ((s.setPort p { s.port p with mask := hi ++ lo }).heard p, ⟨.ok, [lo, hi]⟩) := by
    rw [← heard_setMask]
    simp only [handle, cmdSetEventMask, arg2_pair, enc2_pair]
  obtain ⟨t, hrow, hans, honly⟩ := exec_handled (i := .setEventMask p tag [lo, hi]) ht rfl rfl rfl hcmd
  exact ⟨t, hrow, hans, onlyAnswers_trans honly (heard_onlyAnswers _ p)⟩

/-- Settles O51: the handler, the attention line and each link's reception by the lemmas above. -/
theorem masksAndAttention : Obligations.MasksAndAttention := by
  refine ⟨⟨fun s p tag lo hi ht => ?_, fun s p hl => ?_, fun s e hl => ?_, fun s bytes hl => ?_, fun s p hl => ?_⟩,
    rfl⟩
  · obtain ⟨t, ht'⟩ := exec_setEventMask tag lo hi ht
    exact ⟨_, t, rfl, ht'⟩
  · rw [attention_iff hl, and_ne_zero_iff]
  · refine ⟨exec_linkBytes hl [], fun b more t ht => ?_, fun hrx => exec_linkByte hl hrx linkByte_sync,
      fun b hrx hb => exec_linkByte hl hrx (linkByte_hunt hb), fun bytes b hrx => ⟨fun h => ?_, fun hn hb => ?_,
        fun hn hlen => exec_linkByte_check hl b hrx hn hlen⟩, exec_linkGap hl, exec_linkGap_stopped hl⟩
    · obtain rfl : s.linkReceive b = t := Host.Outcome.next.inj ((exec_linkBytes hl [b]).symm.trans ht)
      rw [exec_linkBytes hl, exec_linkBytes ((linkReceive_live s b).trans hl)]
      rfl
    · refine exec_linkByte hl hrx (x := .collecting (bytes ++ [b])) ?_
      by_cases hpay : 3 ≤ bytes.length
      · exact linkByte_payload b hpay (by omega)
      · exact linkByte_header (by omega) (by omega)
    · have hdiscard : exec (.frameDiscard .link) s = .next (s.setRx .link none) :=
        congrArg Host.Outcome.next (if_neg (by simp [hl]))
      rw [hdiscard]
      exact exec_linkByte hl hrx (linkByte_long hn hb)
  · exact ⟨fun got h => by rw [exec_panelBytes hl, panelReceive_open h],
      fun h hb => by rw [exec_panelBytes hl, panelReceive_none h hb],
      fun b h hb hne => by rw [exec_panelBytes hl, panelReceive_begun h hb hne], exec_serviceBytes hl bytes⟩
  · exact congrArg Host.Outcome.next (discard_eq hl p)

end Machine
end Sys2Proof
end

-- A held LINK frame, the end of a transmission, a PANEL fetch and a SERVICE read.
section
namespace Sys2Proof.Machine

/-! ### LINK while TXD transmits (R165) -/

/-- A frame that ends while TXD transmits is held, unless one is held already. -/
theorem linkFrame_sending {s : State} (h : s.prt.sending = true) (f : Frame) :
    s.linkFrame f = s.setPrt { s.prt with held := some (s.prt.held.getD f) } := by
  unfold State.linkFrame
  rw [if_pos h]
  cases hheld : s.prt.held with
  | none => rfl
  | some g =>
    have hsame : s.setPrt { s.prt with held := some g } = s := by
      rw [← hheld]
      rfl
    exact hsame.symm

theorem receive_link_sending {s : State} (hl : s.live = true) (hs : s.prt.sending = true) (f : Frame) :
    s.receive .link f = { s with prt := { s.prt with held := some (s.prt.held.getD f) } }.heard .link := by
  have hsending : (s.setRx .link none).prt.sending = true := hs
  have hlink : s.receive .link f = (s.setRx .link none).linkFrame f := if_neg (by simp [hl])
  rw [hlink, linkFrame_sending hsending]
  rfl

theorem rowFrame_held {s : State} {f : Frame} (h : s.prt.held = none) :
    some (s.prt.held.getD (rowFrame f)) = some (rowFrame f) := by
  rw [h]
  rfl

theorem linkTransmitEnd_none {s : State} (hl : s.live = true) (hs : s.prt.sending = true) (h : s.prt.held = none) :
    s.linkTransmitEnd = s.setPrt { s.prt with sending := false, held := none } := by
  unfold State.linkTransmitEnd
  rw [if_pos (by simp [hl, hs]), h]

theorem linkTransmitEnd_held {s : State} {f : Frame} (hl : s.live = true) (hs : s.prt.sending = true)
    (h : s.prt.held = some f) :
    s.linkTransmitEnd = (s.setPrt { s.prt with sending := false, held := none }).takeFrame .link f := by
  unfold State.linkTransmitEnd
  rw [if_pos (by simp [hl, hs]), h]

/-- A port that collects nothing, its gap timer stopped, has heard all there is. -/
theorem heard_link_idle {s : State} (hrx : (s.port .link).rx = none) (hgap : s.prt.gap = none) : s.heard .link = s := by
  have hport : ({ s.prt.ports.get .link with rx := none } : PortIf) = s.prt.ports.get .link := by
    rw [← hrx]
    rfl
  have hports : s.prt.ports.set .link (s.prt.ports.get .link) = s.prt.ports := rfl
  simp only [State.heard, State.setRx, hport, hports, Option.map_none, if_true, ← hgap]
  rfl

/-- A frame on a free LINK that collects nothing is taken as it stands. -/
theorem exec_row_link_idle {s : State} (hl : s.live = true) (hs : s.prt.sending = false)
    (hrx : (s.port .link).rx = none) (hgap : s.prt.gap = none) (f : Frame) :
    exec (Frame.row .link f) s = .next (s.takeFrame .link f) := by
  rw [exec_row (by simp), receive_of_live hl (by simp) (fun _ => hs), heard_link_idle hrx hgap, takeFrame_rowFrame]
  rfl

/-! ### The window of a PANEL frame (R166) -/

theorem exec_row_panel_out {s : State} {f : Frame} (hl : s.live = true) (hf : f.kind ≠ .unknown 0) :
    ∃ t, exec (Frame.row .panel f) s = .next t ∧
      (t.port .panel).out = (s.port .panel).windowMiso (frameBytes (rowFrame f)) := by
  refine ⟨_, exec_row (fun _ => hf) s, ?_⟩
  rw [receive_of_live hl (by simp) (by simp)]
  exact congrArg PortIf.out (setPort_port_same _ _ _)

/-! ### Windows and reads that take a response out (R166, R167, R172; Table 9-6) -/

/-- Without a response a read gives 0x00. -/
theorem readOut_none (n : Nat) : readOut none n = List.replicate n 0 := by
  simp [readOut]

/-- A read gives 0x5A and the body, with 0x00 beyond them. -/
theorem readOut_some (x : Response) (n : Nat) :
    readOut (some x) n = ((0x5A :: x.body) ++ List.replicate n 0).take n := by
  simp only [readOut, List.take_append, List.take_replicate, Nat.min_self]
  congr 2
  omega

theorem readWhole_iff (x : Response) (n : Nat) : readWhole (some x) n = true ↔
    (0x5A :: x.body : List Byte).length ≤ n :=
  decide_eq_true_iff

/-- Once it was read whole, a response is no longer there. -/
theorem unread_some (x : Response) (n : Nat) : (if readWhole (some x) n then none else some x) =
    if (0x5A :: x.body : List Byte).length ≤ n then none else some x := by
  simp only [readWhole_iff]

theorem readPort_late_none {s : State} {p : Port} (h : (s.port p).response = none) (n : Nat) :
    s.readPort p n false = s.setPort p { s.port p with out := List.replicate n 0, prior := none } := by
  rw [← readOut_none]
  unfold State.readPort
  dsimp only
  rw [h]
  simp only [Bool.false_eq_true, if_false, ite_self, ← h]

theorem readPort_late_some {s : State} {p : Port} {x : Response} (h : (s.port p).response = some x) (n : Nat) :
    s.readPort p n false = s.setPort p { s.port p with
      out := ((0x5A :: x.body) ++ List.replicate n 0).take n, prior := none
      response := if (0x5A :: x.body : List Byte).length ≤ n then none else some x } := by
  rw [← readOut_some, ← unread_some, ← h]
  rfl

theorem readPort_early_none {s : State} {p : Port} (h : (s.port p).prior = none) (n : Nat) :
    s.readPort p n true = s.setPort p { s.port p with out := List.replicate n 0 } := by
  rw [← readOut_none]
  unfold State.readPort
  dsimp only
  rw [h]
  simp only [if_true, ite_self, ← h]

theorem readPort_early_some {s : State} {p : Port} {x : Response} (h : (s.port p).prior = some x) (n : Nat) :
    s.readPort p n true = s.setPort p { s.port p with
      out := ((0x5A :: x.body) ++ List.replicate n 0).take n
      prior := if (0x5A :: x.body : List Byte).length ≤ n then none else some x } := by
  rw [← readOut_some, ← unread_some, ← h]
  rfl

section
variable {s : State} (hl : s.live = true)
include hl

theorem exec_panelFetch (n : Nat) (early : Bool) :
    exec (.panelFetchWindow n early) s = .next (s.readPort .panel n early) :=
  congrArg Host.Outcome.next (if_pos hl)

/-- A SERVICE read that does not take the whole response to RESTART only reads. -/
theorem exec_serviceRead {n : Nat} {early : Bool}
    (h : early = true ∨ readWhole (s.port .service).response n = false ∨ s.prt.handover = none) :
    exec (.serviceReadTransaction n early) s = .next (s.readPort .service n early) := by
  refine congrArg Host.Outcome.next ((if_pos hl).trans (if_neg ?_))
  rcases h with h | h | h <;> simp [h]

/-- One that does hands the RESTART over. -/
theorem exec_serviceRead_restart {n : Nat} (hwhole : readWhole (s.port .service).response n = true)
    (hover : s.prt.handover.isSome = true) :
    exec (.serviceReadTransaction n false) s = .next (s.readPort .service n false).handOver :=
  congrArg Host.Outcome.next ((if_pos hl).trans (if_pos (by simp [hwhole, hover])))

end

/-- Settles O54, link by link. -/
theorem linksCarryAnswersOut : Obligations.LinksCarryAnswersOut := by
  refine ⟨fun s f hl hs => ?_, fun s hl hs => ⟨fun hheld => ?_, fun f hheld => ⟨?_, fun hrx hgap => ?_⟩⟩,
    fun s f hl hf => ?_, fun s n p i hl hi hnone => ?_, fun s n p i x hl hsome => ⟨fun hi => ?_, ?_⟩,
    fun s n p i hl hi => ⟨fun hnone => ?_, fun x hsome => ?_⟩⟩
  · refine ⟨_, (exec_row (by simp) s).trans (congrArg _ (receive_link_sending hl hs _)), heard_onlyAnswers _ .link,
      fun g hg => ?_, fun hnone hgood => ?_, fun hnone hbad => ?_⟩
    · exact congrArg (fun held : Option Frame => some (held.getD (rowFrame f))) hg
    · exact (rowFrame_held hnone).trans (congrArg some (rowFrame_good hgood))
    · exact (rowFrame_held hnone).trans (congrArg some (rowFrame_bad hbad))
  · exact congrArg Host.Outcome.next (linkTransmitEnd_none hl hs hheld)
  · exact congrArg Host.Outcome.next (linkTransmitEnd_held hl hs hheld)
  · refine (congrArg Host.Outcome.next (linkTransmitEnd_held hl hs hheld)).trans ?_
    have hfree : (s.setPrt { s.prt with sending := false, held := none }).live = true := hl
    exact (exec_row_link_idle hfree rfl hrx hgap f).symm
  · obtain ⟨t, hrow, hout⟩ := exec_row_panel_out hl hf
    intro x n
    have hn : frameBytes (rowFrame f) = n := by
      obtain ⟨kind, tag, pl⟩ := f
      cases kind <;> rfl
    rw [hn] at hout
    exact ⟨t, hrow, fun hrx => hout.trans (windowMiso_begun hrx n), fun hrx => hout.trans (windowMiso_open hrx n)⟩
  · rw [← readPort_late_none hnone]
    obtain ⟨rfl, rfl⟩ | ⟨rfl, rfl, hover⟩ := hi
    · exact exec_panelFetch hl n false
    · exact exec_serviceRead hl (.inr (.inr hover))
  · rw [← readPort_late_some hsome]
    obtain ⟨rfl, rfl⟩ | ⟨rfl, rfl, hkept⟩ := hi
    · exact exec_panelFetch hl n false
    · refine exec_serviceRead hl (.inr (hkept.symm.imp_left fun hpart => ?_))
      rw [hsome, ← Bool.not_eq_true, readWhole_iff]
      exact Nat.not_le_of_lt hpart
  · rintro rfl rfl hover hwhole
    rw [← readPort_late_some hsome]
    exact exec_serviceRead_restart hl (by rw [hsome, readWhole_iff]; exact hwhole) hover
  · rw [← readPort_early_none hnone]
    obtain ⟨rfl, rfl⟩ | ⟨rfl, rfl⟩ := hi
    · exact exec_panelFetch hl n true
    · exact exec_serviceRead hl (.inl rfl)
  · intro bytes
    rw [← readPort_early_some hsome]
    obtain ⟨rfl, rfl⟩ | ⟨rfl, rfl⟩ := hi
    · exact exec_panelFetch hl n true
    · exact exec_serviceRead hl (.inl rfl)

end Sys2Proof.Machine
end

-- Every command completes. What it does at one moment leaves the queue and the clock; an expiry first lets the missing
-- time pass.
section
namespace Sys2Proof.Machine

/-! ### Operations at one moment -/

/-- `t` has the queue and the clock of `s`. -/
def State.sameMoment (t s : State) : Prop := t.pending = s.pending ∧ t.now = s.now

@[simp] theorem sameMoment_iff (t s : State) : t.sameMoment s ↔ t.pending = s.pending ∧ t.now = s.now := Iff.rfl

theorem State.sameMoment.trans {t u s : State} (h : t.sameMoment u) (k : u.sameMoment s) : t.sameMoment s := by
  obtain ⟨hqueue, hclock⟩ := h
  obtain ⟨kqueue, kclock⟩ := k
  exact ⟨hqueue.trans kqueue, hclock.trans kclock⟩

theorem ite_sameMoment {c : Prop} [Decidable c] {t u s : State} (ht : t.sameMoment s) (hu : u.sameMoment s) :
    (if c then t else u).sameMoment s := by
  split
  · exact ht
  · exact hu

@[simp] theorem clearLockoutNow_pending (s : State) (r : LockReason) : (s.clearLockoutNow r).pending = s.pending := by
  unfold State.clearLockoutNow
  dsimp only
  split <;> simp

@[simp] theorem clearLockoutNow_now (s : State) (r : LockReason) : (s.clearLockoutNow r).now = s.now := by
  unfold State.clearLockoutNow
  dsimp only
  split <;> simp

theorem handle_sameMoment (c : Command) (s : State) (p : Port) (pl : List Byte) :
    (handle c s p pl).1.sameMoment s := by
  cases c with
  | readSensors | readPlan | readDemands | readDrying | readEvents | setEventMask | restart => exact ⟨rfl, rfl⟩
  | readAirflow | readFilters | readCartridges | readTank | readConfig | readLog | setLogJoin | setCursor | loadCurve
  | selectCurve =>
    simp only [handle, cmdReadAirflow, cmdReadFilters, cmdReadCartridges, cmdReadTank, cmdReadConfig, cmdReadLog,
      cmdSetLogJoin, cmdSetCursor, cmdLoadCurve, cmdSelectCurve]
    repeat' split
    all_goals exact ⟨rfl, rfl⟩
  | putDemand | clearDemand | clearAllDemands | resetFilter | setStage | forgetCartridge | clearLockout | forceDefrost
  | pumpOut | pumpAbort | writeConfig =>
    simp only [handle, cmdPutDemand, cmdClearDemand, cmdClearAllDemands, State.clearAll, cmdResetFilter, cmdSetStage,
      cmdForgetCartridge, cmdClearLockout, cmdForceDefrost, cmdPumpOut, State.pumpOutNew, State.pumpOutResume,
      cmdPumpAbort, cmdWriteConfig]
    repeat' split
    all_goals simp

theorem takeFrame_sameMoment (s : State) (p : Port) (f : Frame) : (s.takeFrame p f).sameMoment s := by
  have hjudge : (judge s p f).1.sameMoment s := by
    unfold judge judgeKnown
    repeat' split
    all_goals first | exact ⟨rfl, rfl⟩ | exact handle_sameMoment _ s p _
  exact State.sameMoment.trans (by simp [State.takeFrame]) hjudge

theorem receive_sameMoment (s : State) (p : Port) (f : Frame) : (s.receive p f).sameMoment s := by
  have hheard : (s.setRx p none).sameMoment s := ⟨rfl, rfl⟩
  have htaken := (takeFrame_sameMoment (s.setRx p none) p f).trans hheard
  refine ite_sameMoment ⟨rfl, rfl⟩ ?_
  cases p with
  | panel => exact htaken
  | link =>
    dsimp only
    unfold State.linkFrame
    refine ite_sameMoment ?_ htaken
    split <;> exact hheard
  | service => exact ite_sameMoment hheard htaken

theorem linkReceive_sameMoment (s : State) (b : Byte) : (s.linkReceive b).sameMoment s := by
  rw [linkReceive_eq]
  cases linkByte (s.port .link).rx b with
  | complete f => exact receive_sameMoment s .link f
  | ignored | collecting | discarded => exact ⟨rfl, rfl⟩

theorem panelReceive_sameMoment (s : State) (bytes : List Byte) : (s.panelReceive bytes).sameMoment s := by
  unfold State.panelReceive
  dsimp only
  repeat' split
  all_goals exact ⟨rfl, rfl⟩

theorem receiveBytes_sameMoment (s : State) (p : Port) (bytes : List Byte) :
    (s.receiveBytes p bytes).sameMoment s := by
  refine ite_sameMoment ?_ ⟨rfl, rfl⟩
  cases p with
  | panel => exact panelReceive_sameMoment s bytes
  | link =>
    exact List.foldlRecOn (motive := fun t => t.sameMoment s) bytes State.linkReceive ⟨rfl, rfl⟩
      (fun u hu b _ => (linkReceive_sameMoment u b).trans hu)
  | service => exact ⟨rfl, rfl⟩

theorem linkTransmitEnd_sameMoment (s : State) : s.linkTransmitEnd.sameMoment s := by
  refine ite_sameMoment ?_ ⟨rfl, rfl⟩
  dsimp only
  split
  · exact takeFrame_sameMoment _ .link _
  · exact ⟨rfl, rfl⟩

theorem serviceRead_sameMoment (s : State) (n : Nat) (early : Bool) : (s.serviceRead n early).sameMoment s := by
  refine ite_sameMoment (ite_sameMoment ?_ ?_) ⟨rfl, rfl⟩ <;> simp

/-! ### Resets and the start-up -/

theorem cleared_sameMoment (s : State) (log : Tlg) (k : ResetKind) : (s.cleared log k).sameMoment s := ⟨rfl, rfl⟩

theorem powerOn_sameMoment (s : State) : s.powerOn.sameMoment s := by
  refine ite_sameMoment ⟨rfl, rfl⟩ ?_
  simp [State.cleared]

theorem powerLoss_sameMoment (s : State) (o : CutOff) : (s.powerLoss o).sameMoment s := by
  refine ite_sameMoment ?_ ⟨rfl, rfl⟩
  simp [State.cleared]

theorem resetnAssert_sameMoment (s : State) (o : CutOff) : (s.resetnAssert o).sameMoment s := by
  refine ite_sameMoment ⟨rfl, rfl⟩ (ite_sameMoment ?_ ⟨rfl, rfl⟩)
  simp [State.cleared]

theorem resetnRelease_sameMoment (s : State) : s.resetnRelease.sameMoment s := by
  refine ite_sameMoment ?_ ⟨rfl, rfl⟩
  simp

theorem warmReset_sameMoment (s : State) : s.warmReset.sameMoment s := by
  refine ite_sameMoment ?_ ⟨rfl, rfl⟩
  simp [State.cleared]

theorem storeReadEnd_sameMoment (s : State) (failed : RegionSet) : (s.storeReadEnd failed).sameMoment s := by
  refine ite_sameMoment ?_ ⟨rfl, rfl⟩
  simp [State.startUp, State.startBlocks]

theorem regionUnread_sameMoment (s : State) (r : Region) : (s.regionUnread r).sameMoment s :=
  ite_sameMoment (storeReadEnd_sameMoment _ _) ⟨rfl, rfl⟩

/-! ### Commands -/

/-- `t` has the queue of `s` and stands at the same moment or later. -/
def State.goesOn (t s : State) : Prop := t.pending = s.pending ∧ s.now ≤ t.now

theorem State.sameMoment.goesOn {t s : State} (h : t.sameMoment s) : t.goesOn s := ⟨h.1, Nat.le_of_eq h.2.symm⟩

theorem goesOn_refl (s : State) : s.goesOn s := ⟨rfl, Nat.le_refl _⟩

theorem ite_goesOn {c : Prop} [Decidable c] {t u s : State} (ht : t.goesOn s) (hu : u.goesOn s) :
    (if c then t else u).goesOn s := by
  split
  · exact ht
  · exact hu

theorem whenUp_goesOn {s : State} {f : State → State} (h : (f s).goesOn s) : (s.whenUp f).goesOn s :=
  ite_goesOn h (goesOn_refl s)

/-- Some time passes before the operations of one moment. -/
theorem advance_goesOn {t s : State} {ms : Nat} (h : t.sameMoment (s.advance ms)) : t.goesOn s :=
  ⟨h.1, h.2 ▸ Nat.le_add_right _ _⟩

/-- An expiry lets the missing time pass and then acts at one moment. -/
theorem expire_goesOn {s : State} {t : Timer} {limit : Nat} {act : State → State}
    (h : ∀ u, (act u).sameMoment u) : (s.expire t limit act).goesOn s := by
  cases t with
  | none => exact goesOn_refl s
  | some e => exact advance_goesOn (h _)

/-- An operation on the record of a run, where there is one. -/
theorem onRecord_goesOn {s : State} {x : Option Sequence} {k : Sequence → State} (hk : ∀ q, (k q).goesOn s) :
    (match x with
      | some q => k q
      | none => s).goesOn s := by
  cases x with
  | none => exact goesOn_refl s
  | some q => exact hk q

/-- The expiry of a timer of a run. -/
theorem runExpiry_goesOn {s : State} {t : Timer} {limit : Nat} {act : State → Sequence → State}
    (h : ∀ u q, (act u q).sameMoment u) : (s.expire t limit (fun u => match u.cdc.seq with
      | some q => act u q
      | none => u)).goesOn s := by
  refine expire_goesOn (fun u => ?_)
  cases u.cdc.seq with
  | none => exact ⟨rfl, rfl⟩
  | some q => exact h u q

/-- The off-timer's expiry lets the missing time pass as the others do. -/
theorem offTimerPassed_goesOn (s : State) : s.offTimerPassed.goesOn s := by
  unfold State.offTimerPassed
  split
  · next e _ => exact advance_goesOn (ms := Config.offTimerMs - e) (by simp)
  · exact goesOn_refl s

/-- Each command answers the state of one operation, at one moment or after the time its expiry was still missing. -/
theorem exec_goesOn (i : Instr) (s : State) : ∃ t, exec i s = .next t ∧ t.goesOn s := by
  cases i with
  -- supply, resets and store
  | powerOn => exact ⟨_, rfl, (powerOn_sameMoment s).goesOn⟩
  | powerLoss o => exact ⟨_, rfl, (powerLoss_sameMoment s o).goesOn⟩
  | resetnAssert o => exact ⟨_, rfl, (resetnAssert_sameMoment s o).goesOn⟩
  | resetnRelease => exact ⟨_, rfl, (resetnRelease_sameMoment s).goesOn⟩
  | regionReadTimeout r =>
    exact ⟨_, rfl, ite_goesOn (expire_goesOn (fun u => regionUnread_sameMoment u r)) (goesOn_refl s)⟩
  | storeReadEnd failed => exact ⟨_, rfl, (storeReadEnd_sameMoment s failed).goesOn⟩
  | storeWriteEnd failed => exact ⟨_, rfl, State.sameMoment.goesOn (by simp)⟩
  | warmReset => exact ⟨_, rfl, (warmReset_sameMoment s).goesOn⟩
  | restartHandoverTimeout => exact ⟨_, rfl, expire_goesOn (by simp)⟩
  -- readings, conversions, edges and pulses
  | particleFrame | gasReadEnd | roomReadEnd | coilConversion | probeConversion | fantachPulse | tagReadEnd =>
    exact ⟨_, rfl, whenUp_goesOn (State.sameMoment.goesOn (by simp))⟩
  | switchInputEdge => exact ⟨_, rfl, State.sameMoment.goesOn (by simp)⟩
  -- timers that expire whenever they run
  | particleWarmupEnd | privateBusSecond | busTransactionTimeout | switchChangeAccepted | fanSpeedWindowEnd
  | darSecondTimer | regulationBoundary | stallOffTimer | tagReadTime | tagReadAbandon | minuteTimer =>
    exact ⟨_, rfl, whenUp_goesOn (expire_goesOn (by simp))⟩
  | particleTimeout | gasTimeout =>
    exact ⟨_, rfl, whenUp_goesOn (expire_goesOn (fun _ => ite_sameMoment (by simp) (by simp)))⟩
  -- timers that expire in a state of their block
  | accountingTick | slotSettleEnd | pulldownCheckExpiry | minimumRunEnd | postRunEnd | frostDetected | defrostSuccess
  | defrostTimeout | tankSettleEnd =>
    exact ⟨_, rfl, whenUp_goesOn (ite_goesOn (expire_goesOn (by simp)) (goesOn_refl s))⟩
  | fullReleaseTimer => exact ⟨_, rfl, whenUp_goesOn (ite_goesOn (goesOn_refl s) (expire_goesOn (by simp)))⟩
  | offTimerPassed => exact ⟨_, rfl, whenUp_goesOn (offTimerPassed_goesOn s)⟩
  -- timers of a run
  | pumpSample =>
    exact ⟨_, rfl, whenUp_goesOn (onRecord_goesOn (fun _ => ite_goesOn (expire_goesOn (by simp)) (goesOn_refl s)))⟩
  | flowTimerPass | highReleaseEnd | transferTimeout =>
    exact ⟨_, rfl, whenUp_goesOn (onRecord_goesOn (fun _ => runExpiry_goesOn (by simp)))⟩
  | verifyEnd =>
    exact ⟨_, rfl, whenUp_goesOn (onRecord_goesOn (fun _ => runExpiry_goesOn (fun _ _ =>
      ite_sameMoment (by simp) (by simp))))⟩
  | primeTimeout =>
    exact ⟨_, rfl, whenUp_goesOn (onRecord_goesOn (fun _ =>
      ite_goesOn (goesOn_refl s) (runExpiry_goesOn (by simp))))⟩
  | primeFloatsTimePass =>
    exact ⟨_, rfl, whenUp_goesOn (onRecord_goesOn (fun _ =>
      ite_goesOn (runExpiry_goesOn (by simp)) (goesOn_refl s)))⟩
  -- links
  | unknownCommand p => exact ⟨_, rfl, ite_goesOn (goesOn_refl s) (receive_sameMoment s p _).goesOn⟩
  | frameDiscard p =>
    refine ⟨_, rfl, ite_goesOn (goesOn_refl s) ?_⟩
    cases p <;> exact goesOn_refl s
  | linkGapTimeout => exact ⟨_, rfl, ite_goesOn (expire_goesOn (by simp)) (goesOn_refl s)⟩
  | linkTransmitEnd => exact ⟨_, rfl, (linkTransmitEnd_sameMoment s).goesOn⟩
  | commandReceptionStart r => exact ⟨_, rfl, (receiveBytes_sameMoment s r.port r.bytes).goesOn⟩
  | panelFetchWindow => exact ⟨_, rfl, ite_goesOn (State.sameMoment.goesOn (by simp)) (goesOn_refl s)⟩
  | serviceReadTransaction n early => exact ⟨_, rfl, (serviceRead_sameMoment s n early).goesOn⟩
  -- every other command is a frame that ends on a port
  | _ => exact ⟨_, rfl, (receive_sameMoment s _ _).goesOn⟩

/-- Settles O3: at one moment no operation touches the queue or the clock, and an expiry adds the time that was still
missing. -/
theorem commandsCompleteAndKeepTheQueue : Obligations.CommandsCompleteAndKeepTheQueue := exec_goesOn

end Sys2Proof.Machine
end

-- One step takes the front command or, on an empty queue, the first expiry due or a millisecond.
section
namespace Sys2Proof.Machine

/-- Settles O1. -/
theorem stepTakesTheFrontCommand : Obligations.StepTakesTheFrontCommand := fun _ _ _ => rfl

theorem step_of_empty {s : State} (h : s.pending = []) : step s = stepIdle s := by
  unfold step
  rw [h]

theorem stepIdle_due {s : State} {c : Instr} (h : s.nextDue = some c) : stepIdle s = exec c s := by
  unfold stepIdle
  rw [h]

theorem stepIdle_none {s : State} (h : s.nextDue = none) : stepIdle s = .next (s.advance 1) := by
  unfold stepIdle
  rw [h]
  rfl

/-! ### The expiries in their order (log 22) -/

/-- The commands of the entries that are due. -/
def dueOf (l : List (Bool × Instr)) : List Instr := (l.filter (·.1)).map (·.2)

theorem head?_dueOf (l : List (Bool × Instr)) : (dueOf l).head? = (l.find? (·.1)).map (·.2) := by
  rw [dueOf, List.head?_map, List.head?_filter]

theorem dueOf_nil : dueOf [] = [] := rfl

theorem dueOf_cons (b : Bool) (c : Instr) (l : List (Bool × Instr)) :
    dueOf ((b, c) :: l) = dueWhen b c ++ dueOf l := by cases b <;> rfl

theorem dueOf_append (l m : List (Bool × Instr)) : dueOf (l ++ m) = dueOf l ++ dueOf m := by
  simp [dueOf]

theorem dueWhen_false (c : Instr) : dueWhen false c = [] := rfl

/-- A run's timers are due in a RUNNING sequence alone, most of them in their phase alone. -/
theorem sequence_due (q : Sequence) (byTime : Bool) : q.due byTime =
    dueOf [(q.status == .running && q.sample == some 1000, .pumpSample),
      (q.status == .running && q.phase == some .prime && q.flow == some 2000, .flowTimerPass),
      (q.status == .running && q.phase == some .prime && (byTime && decide (10000 ≤ q.elapsed.getD 0)),
        .primeFloatsTimePass),
      (q.status == .running && q.phase == some .prime && (!byTime && decide (20000 ≤ q.elapsed.getD 0)),
        .primeTimeout),
      (q.status == .running && q.phase == some .transfer && q.highRelease == some 40000, .highReleaseEnd),
      (q.status == .running && q.phase == some .transfer && decide (300000 ≤ q.elapsed.getD 0), .transferTimeout),
      (q.status == .running && q.phase == some .verify && decide (10000 ≤ q.elapsed.getD 0), .verifyEnd)] := by
  by_cases hrun : q.status = .running
  · have hne : (q.status != .running) = false := by simp [hrun]
    have heq : (q.status == .running) = true := by simp [hrun]
    simp only [Sequence.due, hne, heq, Bool.false_eq_true, if_false, dueOf_cons, dueOf_nil, Bool.true_and,
      Bool.and_assoc, List.append_assoc, List.append_nil]
    rfl
  · have hne : (q.status != .running) = true := by simp [hrun]
    have heq : (q.status == .running) = false := by simp [hrun]
    simp only [Sequence.due, hne, heq, if_true, dueOf_cons, dueOf_nil, Bool.false_and, dueWhen_false,
      List.append_nil]

/-- The read of a region is due where one is in progress. -/
theorem sst_due (x : Sst) : x.due =
    dueOf [(x.reading.isSome && x.startUp == .reading && x.readTimer == some 50,
      .regionReadTimeout (x.reading.getD .config))] := by
  unfold Sst.due
  cases x.reading with
  | none => rfl
  | some r =>
    rw [dueOf_cons, dueOf_nil, List.append_nil]
    rfl

/-- The commands that are due are those of the list of expiries whose timers stand at their limits. -/
theorem due_eq_dueOf_expiries (s : State) : s.due = dueOf s.expiries := by
  have hon : s.drc.state.on = (s.drc.state == .pulldown || s.drc.state == .running) := rfl
  simp only [State.due, State.expiries, Sfe.due, Slot.due, Drc.due, Cdc.due, sst_due, dueOf_append, dueOf_cons,
    dueOf_nil, List.append_assoc, List.append_nil, hon]
  cases s.cdc.seq with
  | none => rfl
  | some q =>
    simp only [sequence_due, dueOf_cons, dueOf_nil, List.append_assoc, List.append_nil]
    rfl

theorem nextDue_eq_find (s : State) :
    s.nextDue = if s.live then (s.expiries.find? (·.1)).map (·.2) else none := by
  rw [State.nextDue, due_eq_dueOf_expiries, head?_dueOf]

/-! ### Time (log 1, log 2) -/

theorem adv_eq_laterUpTo (limit ms : Nat) (t : Timer) : Timer.adv limit ms t = laterUpTo limit ms t := by
  cases t <;> rfl

theorem count_eq_map (ms : Nat) (t : Timer) : Timer.count ms t = t.map (· + ms) := by
  cases t <;> rfl

theorem sfe_advance_eq_later (s : State) (n : Nat) : s.sfe.advance n = (s.later n).sfe := by
  simp only [Sfe.advance, SwitchInput.advance, PerStage.map, adv_eq_laterUpTo]
  rfl

theorem afc_advance_eq_later (s : State) (n : Nat) : s.afc.advance n = (s.later n).afc := by
  simp only [Afc.advance, adv_eq_laterUpTo, count_eq_map]
  rfl

theorem crd_advance_eq_later (s : State) (n : Nat) : s.crd.advance n = (s.later n).crd := by
  simp only [Crd.advance, Slot.advance, PerStage.map, adv_eq_laterUpTo]
  rfl

/-- A check that has ended keeps its time (R111). -/
theorem ite_pull_elapsed (limit n : Nat) (x : PullRecord) :
    (if x.outcome = some .checking then { x with elapsed := laterUpTo limit n x.elapsed } else x) =
      { x with elapsed := if x.outcome = some .checking then laterUpTo limit n x.elapsed else x.elapsed } := by
  split <;> rfl

/-- The off-timer counts on while it is counting, and the pull-down time while the check is in progress (R108, R111). -/
theorem drc_advance_eq_later (s : State) (n : Nat) : s.drc.advance n = (s.later n).drc := by
  have hoff : s.drc.off.advance n = (s.later n).drc.off := by
    simp only [State.later]
    cases s.drc.off <;> rfl
  simp only [Drc.advance, hoff, adv_eq_laterUpTo, count_eq_map, ite_pull_elapsed]
  rfl

/-- A phase's time counts to the phase's own limit (Table 7-4). -/
theorem cdc_advance_eq_later (s : State) (n : Nat) : s.cdc.advance n = (s.later n).cdc := by
  simp only [Cdc.advance, adv_eq_laterUpTo, State.later, Config.tankSettleMs, Config.releaseMs]
  congr 2
  funext q
  simp only [Sequence.advance, adv_eq_laterUpTo]
  cases q.phase <;> rfl

/-- When time passes, the part counts on block by block. -/
theorem advance_eq_later (s : State) (n : Nat) : s.advance n = s.later n := by
  have hdar : s.dar.advance n = (s.later n).dar := by
    rw [Dar.advance, adv_eq_laterUpTo]
    rfl
  have htlg : s.tlg.advance n = (s.later n).tlg := by
    rw [Tlg.advance, adv_eq_laterUpTo]
    rfl
  have hprt : s.prt.advance n = (s.later n).prt := by
    simp only [Prt.advance, adv_eq_laterUpTo]
    rfl
  have hsst : s.sst.advance n = (s.later n).sst := by
    rw [Sst.advance, adv_eq_laterUpTo]
    rfl
  simp only [State.advance, sfe_advance_eq_later, afc_advance_eq_later, crd_advance_eq_later, drc_advance_eq_later,
    cdc_advance_eq_later, hdar, htlg, hprt, hsst]
  rfl

/-- Settles O2: the step's branches, the expiries in their order, and the passage of time. -/
theorem emptyQueueTakesDueExpiryOrTime : Obligations.EmptyQueueTakesDueExpiryOrTime := by
  refine ⟨fun s h => ⟨fun c hc => ?_, fun hnone => ?_⟩, nextDue_eq_find, advance_eq_later⟩
  · rw [step_of_empty h, stepIdle_due hc]
  · rw [step_of_empty h, stepIdle_none hnone]

end Sys2Proof.Machine
end
